-- ==== Sys2Proof/Word.lean ====
section
/-!
DEFINITION. The word and byte types of the HQ6412-M8's register window and records (00 R5, R6; 04 R93).
-/

namespace Sys2Proof

/-- One byte of a frame, payload or record. -/
abbrev Byte := BitVec 8

/-- One 32-bit word of the register window (R93). -/
abbrev Word := BitVec 32

/-- The word that a number spells, modulo 2^32. -/
def w32 (n : Nat) : Word := BitVec.ofNat 32 n

end Sys2Proof
end

