-- ==== Sys2Proof/Syntax.lean ====
section
/-!
DEFINITION. The commands of the block: one constructor per row of spec/opcode_table.json. A mailbox command (`CMD_…`)
carries its request header and payload (05 R122); a register row carries the address and value it writes; an event row
carries what the outside world presents with it (a measured value, a received frame, the outlet it concerns).
-/

namespace Sys2Proof

/-- A supervised rail of the integrator (Table 2-1, `EV008` code of R76). -/
inductive Rail where
  | vcpp | vcpn | vled | vddio
  deriving DecidableEq, Repr

/-- An error that step 5 finds in a commit area (08 R235): area 0 or 1; copy 0 to 2, or 3 for the marker; word 8p + i for
accumulator i of point p, 104 for the rest of the copy; `flip` 0 where ECC cannot correct the word, else the bits of an
accumulator that read wrong although ECC found nothing. -/
structure ComHit where
  area : Nat
  copy : Nat
  word : Nat
  flip : Nat
  deriving DecidableEq, Repr

/-- What SELFTEST finds when reset is released (Table 3-3): the steps that failed with their detail bytes, the drivers
whose feedback shows closed (bit k − 1 for CDk), the supply readings, and the images booted. -/
structure SelftestObs where
  /-- failed steps with detail (R614): step 1 to 9, detail byte -/
  failed  : List (Nat × Nat)
  /-- FB1–FB16 that show closed at step 3, bit k − 1 for CDk -/
  fbMask  : Nat
  /-- VIN in 10 mV -/
  vin     : Nat
  /-- VHOLD in 10 mV at the end of step 8 -/
  vhold   : Nat
  /-- a power-fail warning arose during SELFTEST (R84), with its source 1 to 3 -/
  pfw     : Option Nat
  /-- ms of MTIME that pass during the steps -/
  tookMs  : Nat
  /-- errors in the commit areas (R235) -/
  comHits : List ComHit
  /-- bytes of the two calibration record copies that read wrong (R211): copy 0 or 1, offset, the wrong bits -/
  calHits : List (Nat × Nat × Nat)
  /-- bytes of the two copies of the safety parameter set that read wrong (R403): copy 0 or 1, offset, the wrong bits -/
  psetHits : List (Nat × Nat × Nat)
  /-- bytes of the two copies of the bistable journal (R506) that read wrong: copy 0 or 1, offset, the wrong bits -/
  bsdHits : List (Nat × Nat × Nat)
  /-- bytes of the uniformity maps (R497) that read wrong: map, offset, the wrong bits -/
  mapHits : List (Nat × Nat × Nat)
  /-- the lid mesh is intact (R428); slots whose key blob fails its tag (R417) -/
  meshOk  : Bool
  badBlobs : List Nat
  /-- load switches whose junction is at or above 150 °C (bit k − 1 for LSk, R521) -/
  hot     : Nat
  deriving DecidableEq, Repr

/-- The request header of a mailbox command (Table 5-2): mailbox, TAG, FLAGS, SEQ. LENGTH is the payload's, and CHK is
right. -/
structure Req where
  mb    : BitVec 3
  tag   : BitVec 16
  flags : BitVec 16
  seq   : BitVec 32
  deriving DecidableEq, Repr

/-- One commit-group action as submitted (Table 6-10): CODE, TARGET and the 12 ARG bytes. -/
structure GAction where
  code   : Nat
  target : Nat
  arg    : List Byte
  deriving DecidableEq, Repr, Inhabited

/-- One channel at a sample instant, behind the decimators of Table 7-3 (R194, R195). -/
structure RawSample where
  /-- the decimated sample: in codes on an analogue channel, as ones density in 2⁻²⁴ on a bitstream channel -/
  x    : Int
  /-- the 100 kHz value behind it that is nearest to a limit, in the same unit -/
  mid  : Int
  /-- on a voltage channel the output of the filter of R225: the corrected sample shifted 90° lagging -/
  sh   : Int
  deriving DecidableEq, Repr, Inhabited

/-- A SLAC management message from a vehicle (R310–R312, ISO 15118-3 roles). -/
inductive SlacMsg where
  /-- CM_SLAC_PARM.REQ with the vehicle's MAC and RunID -/
  | parmReq (mac runId : Nat)
  /-- CM_MNBC_SOUND.IND, one sound heard with an average attenuation in dB -/
  | sound (runId att : Nat)
  /-- CM_VALIDATE.REQ -/
  | validateReq
  /-- CM_SLAC_MATCH.REQ -/
  | matchReq (mac runId : Nat)
  deriving DecidableEq, Repr

/-- A decoded vehicle request (Table 10-8) other than those with rows of their own. -/
inductive V2gMsg where
  /-- SessionSetup; `sid` is the SessionID the vehicle names, 0 for a new session -/
  | sessionSetup (sid : Nat)
  | serviceDiscovery
  | serviceDetail
  /-- payment or authorisation selection: contract certificate or external -/
  | paymentSelection (contract : Bool)
  | paymentDetails
  | authorizationSetup
  /-- Authorization or ContractAuthentication; with a contract, its EMAID as ASCII without separators (R421) and
  whether Crucible verifies it -/
  | authorization (contract : Bool) (emaid : List Byte) (verifies : Bool)
  /-- service chosen: 1 AC, 2 DC, 3 AC_BPT, 4 DC_BPT, other numbers are services of Table 10-9 not supported -/
  | serviceSelection (service : Nat)
  /-- charge parameters: maximum current dA, maximum voltage V, discharge current dA, discharge power W, Dynamic -/
  | chargeParams (imax umax idis pdis : Nat) (dynamic : Bool) (departS eamountWh : Nat)
  | scheduleExchange (dynamic : Bool)
  | preCharge (utgtDV : Nat)
  /-- charge loop: SOC %, target SOC %, minutes to full, present voltage dV, target voltage dV, target current dA,
      maximum current dA, discharge current dA -/
  | chargeLoop (soc tsoc tfull upres utgt : Nat) (itgt : Int) (imax idis : Nat)
  | chargingStatus
  | meteringReceipt
  | weldingDetection
  /-- PowerDelivery with stop or renegotiation -/
  | powerDeliveryStop
  | unsupported
  | undecodable
  deriving DecidableEq, Repr

/-- What a card shows to a reader (R444, R449): UID, type, ATQA and SAK, ISO/IEC 14443-4 support, the application, the
AUTHENTICATE response, and the token it holds. -/
structure CardData where
  uid   : List Byte
  typeB : Bool
  atqa  : Nat
  sak   : Nat
  part4 : Bool
  app   : Bool
  rndC  : List Byte
  mac   : List Byte
  token : Option (List Byte)
  deriving DecidableEq, Repr, Inhabited

/-- What a poll of an antenna finds (R448, R450). -/
inductive PollResult where
  | none
  | card (c : CardData)
  /-- more than one card: a collision during anticollision -/
  | many
  /-- a protocol error or timeout -/
  | error
  deriving DecidableEq, Repr

/-- One frame of a decoded block (Table 16-3): its bytes, and how many of their symbols were erased (R473). -/
structure RxFrame where
  raw    : List Byte
  erased : Nat
  deriving DecidableEq, Repr, Inhabited

/-- One symbol as one coupling receives it (R469, R472), energies in nV²: the four tone bins, the guard bins at 45 and
90 kHz, and whether the front end clipped. -/
structure CpSym where
  tones : List Nat
  g45   : Nat
  g90   : Nat
  clip  : Bool
  deriving DecidableEq, Repr, Inhabited

/-- One window as the couplings receive it (R467, R469): the noise floor of couplings 1 to 3 in the tone bins over the 1.5 ms
before it (energy, nV²), and the 16 symbols, each on couplings 1 to 3. -/
structure RxWin where
  noise : List Nat
  syms  : List (List CpSym)
  deriving DecidableEq, Repr, Inhabited

/-- What the decoders make of the windows received (R470, R477): the 1,024 bytes that the inner decoder answers, the 764 data
bytes that the outer decoder proposes, and the ms since the first symbol of the preamble. -/
structure RxBlock where
  bytes  : List Byte
  data   : List Byte
  sinceMs : Nat
  deriving DecidableEq, Repr, Inhabited

/-- What one matrix frame shows (R502): columns that cannot reach their current, columns shorted, rows with overcurrent,
peak current of each row, mean VLED current, VLED. -/
structure FrameObs where
  openCols  : List Nat
  shortCols : List Nat
  rowOc     : List Nat
  rowPeak   : List Nat
  iavg      : Nat
  vled      : Nat
  deriving DecidableEq, Repr, Inhabited

/-- The commands of the block (spec/opcode_table.json). -/
inductive Instr where
  | powerOnReset
  | vsupCollapse
  | resetNAssert (lowUs : Nat)
  | resetRelease (o : SelftestObs)
  | selftestStepOverrun (step : Nat)
  | clockFault (why : Nat)
  | clockRestored
  | pfWarningVin (vin : Nat)
  | pfWarningSiteVoltage (va vb vc : Nat)
  | ckpPfwTestWrite (value : Word)
  | recovery (t1 vin : Nat)
  | outageRestartLate (t1 vin : Nat)
  | outageRestartLowVin (vin heldMs : Nat)
  | supplyEnd
  | supplyEndReturn (vin : Nat)
  | railFault (r : Rail)
  | railReturn (r : Rail)
  | vholdLow (vhold : Nat)
  | vholdChargeTimeout (vhold : Nat)
  | heartbeatTimeout (core : Nat)
  | larkspurFault (core : Nat)
  | bylithResume
  | holdoverTimeout
  | anvilReset (why : Nat)
  | assayCoreReset
  | crucibleReset
  | fatalError (cause core detail detail2 : Nat)
  | contactorReleaseCurrent (outlet : Nat)
  | contactorReleaseTimeout (outlet currentDA : Nat)
  | autostart
  | modeTransitionComplete
  | serviceOutApply (outlet : Nat)
  | bypassApply (outlet : Nat)
  | bypassFbClosed (outlet : Nat)
  | hspiReadFrame (cmd : Byte) (addr : BitVec 24) (hcrc : BitVec 16)
  | hspiWriteFrame (cmd : Byte) (addr : BitVec 24) (ws : List Word) (hcrc : BitVec 16)
  | hspiFrameAbort
  | regWrite (addr : BitVec 24) (value : Word)
  | shadowWrite (addr : BitVec 24) (value : Word)
  | pendDiscard (addr : BitVec 24) (value : Word)
  | mbxPortWrite (mb k : Nat) (value : Word)
  | mbxPortRead (mb k : Nat)
  | ethMbxFrame (port : Nat) (frame : List Byte)
  | mbxAsmTimeout (mb : Nat)
  | commandStart (mb : Nat)
  | hostSilent
  | grantExpired
  | evtRawClear (g : Nat) (value : Word)
  | evtSetWrite (g : Nat) (value : Word)
  | evtQPop
  | evtQClrLost
  | cmdSysInfoGet (h : Req) (p : List Byte)
  | cmdSysStatusGet (h : Req) (p : List Byte)
  | cmdSysModeSet (h : Req) (p : List Byte)
  | cmdSysSoftReset (h : Req) (p : List Byte)
  | cmdSysWallSet (h : Req) (p : List Byte)
  | cmdSysConfigLoad (h : Req) (p : List Byte)
  | cmdSysConfigCommit (h : Req) (p : List Byte)
  | cmdSysConfigRead (h : Req) (p : List Byte)
  | cmdSysEvtRead (h : Req) (p : List Byte)
  | cmdSysRegRead (h : Req) (p : List Byte)
  | cmdSysRegWrite (h : Req) (p : List Byte)
  | tickZeroCrossing (sinceTickUs sinceCrossUs oppMv : Nat)
  | tickTimer (sinceTickUs : Nat)
  | planSwap (dom : Nat)
  | planEnd (dom : Nat)
  | planValidationDone (dom : Nat)
  | groupDeadline (slot : Nat)
  | lockWaitTimeout (lock : Nat)
  | hostChannelFault
  | arbRound (arb raised cycles : Nat) (engs : List Nat) (done : Nat)
  | hlockAcqWrite (value : Word)
  | hlockRelWrite (value : Word)
  | cmdPlanBegin (h : Req) (p : List Byte)
  | cmdPlanLoad (h : Req) (p : List Byte)
  | cmdPlanArm (h : Req) (p : List Byte)
  | cmdPlanCancel (h : Req) (p : List Byte)
  | cmdPlanStatus (h : Req) (p : List Byte)
  | cmdGroupSubmit (h : Req) (p : List Byte)
  | cmdGroupAbort (h : Req) (p : List Byte)
  | cmdGroupStatus (h : Req) (p : List Byte)
  | cmdLockAcquire (h : Req) (p : List Byte)
  | cmdLockRelease (h : Req) (p : List Byte)
  | cmdArbPrioSet (h : Req) (p : List Byte)
  | sample10khz (xs : List (List RawSample)) (rcs : List Int)
  | bCycCrossing (point sinceCycNs sinceCrossNs oppMv : Nat)
  | bCycTimer (point sinceCycNs : Nat)
  | halfCycleRms (point phase cycleNs : Nat)
  | mtimeSecond (vin vhold : Nat)
  | chSignalFault (point ch cause : Nat)
  | chFaultClear (point ch cause : Nat)
  | refchkRun (point : Nat) (xs : List Int)
  | tempSourceRead (source : Nat) (raw : Option Nat)
  | tsrcFallback (source : Nat)
  | tsrcRestore (source : Nat)
  | asyTinjCtrlWrite (value : Word)
  | cmdAsyStatus (h : Req) (p : List Byte)
  | cmdAsyInjRun (h : Req) (p : List Byte)
  | cmdAsyFaultReset (h : Req) (p : List Byte)
  | cmdAsyCalRead (h : Req) (p : List Byte)
  | cmdAsyCalMeasure (h : Req) (p : List Byte)
  | cmdAsyTctabLoad (h : Req) (p : List Byte)
  | cmdAsyBandSet (h : Req) (p : List Byte)
  | cmdAsyCalCommit (h : Req) (p : List Byte)
  | cmdAsyCalDiscard (h : Req) (p : List Byte)
  | demandSubintervalEnd
  | pulseOutputEnd (k : Nat)
  | cmdNrgSnapshot (h : Req) (p : List Byte)
  | cmdNrgQtyRead (h : Req) (p : List Byte)
  | cmdNrgHarmRead (h : Req) (p : List Byte)
  | cmdNrgDemandRead (h : Req) (p : List Byte)
  | cmdNrgPqRead (h : Req) (p : List Byte)
  | cmdNrgBalRead (h : Req) (p : List Byte)
  | cmdNrgPulseTest (h : Req) (p : List Byte)
  | tselChange (code : Nat)
  | tselDebounced
  | periodBoundaryDue
  | ingotCommit
  | scrollAdvance
  | ppDisconnectComplete
  | relayBypassDetect (irmsDA : Nat)
  | serviceButtonPress
  | cmdBilStatus (h : Req) (p : List Byte)
  | cmdBilPeriodClose (h : Req) (p : List Byte)
  | cmdBilIngotRead (h : Req) (p : List Byte)
  | cmdBilIngotAck (h : Req) (p : List Byte)
  | cmdBilTokenApply (h : Req) (p : List Byte)
  | cmdBilEcActivate (h : Req) (p : List Byte)
  | cmdBilRelayReq (h : Req) (p : List Byte)
  | cmdBilRelayReset (h : Req) (p : List Byte)
  | cmdBilSessionCredit (h : Req) (p : List Byte)
  | cmdBilCreditAdjust (h : Req) (p : List Byte)
  | pilotStateChange (outlet : Nat) (highMV lowMV : Int)
  | pilotDiodeFault (outlet : Nat) (lowMV : Int)
  | proximityChange (outlet res : Nat)
  | authTimeout (outlet : Nat)
  | pauseTimeout (outlet : Nat)
  | modemLinkLost (outlet : Nat)
  | modemLinkRestored (outlet : Nat)
  | slacMessage (outlet : Nat) (m : SlacMsg)
  | slacTimeout (outlet : Nat)
  | slacRetryWaitEnd (outlet : Nat)
  | sdpRequest (outlet : Nat) (tls : Bool)
  | v2gTlsHandshake (outlet version : Nat) (suites : Nat) (ok : Bool)
  | v2gRequest (outlet bytes : Nat) (m : V2gMsg)
  | supportedAppProtocolReq (outlet offers : Nat)
  | cableCheckReq (outlet : Nat)
  | powerDeliveryReq (outlet : Nat)
  | sessionStopReq (outlet : Nat) (pause : Bool)
  | certInstallReq (outlet : Nat) (update : Bool) (body : List Byte)
  | certRespTimeout (outlet : Nat)
  | v2gSequenceTimeout (outlet : Nat)
  | tunnelRx (outlet : Nat) (data : List Byte) (closed : Bool)
  | cmdOutletStatus (h : Req) (p : List Byte)
  | cmdOutletServiceSet (h : Req) (p : List Byte)
  | cmdOutletAuthorise (h : Req) (p : List Byte)
  | cmdOutletStop (h : Req) (p : List Byte)
  | cmdOutletTunSend (h : Req) (p : List Byte)
  | cmdOutletTunRead (h : Req) (p : List Byte)
  | cmdOutletHlcStep (h : Req) (p : List Byte)
  | cmdOutletLimitsSet (h : Req) (p : List Byte)
  | cmdOutletCertResp (h : Req) (p : List Byte)
  | cmdOutletBypass (h : Req) (p : List Byte)
  | cmdOutletPilotTest (h : Req) (p : List Byte)
  | utilLimitExpiry
  | plannerCompile
  | overdraw (outlet irmsDA : Nat)
  | fbChange (driver : Nat) (active : Bool)
  | fbCloseDeadline (driver : Nat)
  | fbOpenDeadline (driver : Nat)
  | liveWhileOpen (outlet : Nat)
  | coilPullinEnd (driver : Nat)
  | dcWeldCheckDone (outlet vaDV : Nat) (uoutDV : List Nat)
  | prechargeDone (outlet vaDV : Nat) (uoutDV : List Nat) (timedOut : Bool)
  | cabinetPretime
  | cabinetIdleOff
  | canCtrlTimer
  | pmStatusFrame (link node : Nat) (data : List Byte)
  | pmIdentFrame (link node : Nat) (data : List Byte)
  | pmNodeLost (link node : Nat)
  | canBusOff (link : Nat)
  | cdTestHoldEnd (driver : Nat)
  | cmdAlcStatus (h : Req) (p : List Byte)
  | cmdAlcLimitSet (h : Req) (p : List Byte)
  | cmdAlcTargetSet (h : Req) (p : List Byte)
  | cmdAlcFaultReset (h : Req) (p : List Byte)
  | cmdAlcPmRead (h : Req) (p : List Byte)
  | cmdAlcCdTest (h : Req) (p : List Byte)
  | cmdAlcCanRaw (h : Req) (p : List Byte)
  | rcmTrip (outlet cause : Nat)
  | rcmLinkFault (outlet : Nat)
  | rcmLinkRestored (outlet : Nat)
  | rcmSelftestDone (outlet : Nat) (offset plus minus : Int) (ac : Nat) (asserted : Bool)
  | rcmSelftestRetry (outlet : Nat)
  | insAsymmetryReading (outlet risoOhm : Nat)
  | insMeasurementDone (injector risoOhm ms : Nat)
  | cableCheckDone (outlet : Nat) (vaReached : Bool)
  | injectorFault (injector : Nat) (fault : Bool)
  | cmdRcmStatus (h : Req) (p : List Byte)
  | cmdRcmFaultReset (h : Req) (p : List Byte)
  | cmdRcmSelftest (h : Req) (p : List Byte)
  | cmdInsMeasure (h : Req) (p : List Byte)
  | cmdRcmTestInject (h : Req) (p : List Byte)
  | safetyInputChange (input : Nat) (chanB value : Bool)
  | testPulseCycle (missedOwn foreign : List (Nat × Bool)) (readback : Nat)
  | discrepancyTimeout (input : Nat)
  | inputFaultClear (input : Nat)
  | functionHealthy (fn : Nat)
  | safetyResetAct (input heldMs : Nat)
  | edmTimeout (input : Nat)
  | demandTestEnd (fn : Nat) (pairUs coilUs : Nat)
  | cmdSafStatus (h : Req) (p : List Byte)
  | cmdSafPsetRead (h : Req) (p : List Byte)
  | cmdSafPsetLoad (h : Req) (p : List Byte)
  | cmdSafPsetCommit (h : Req) (p : List Byte)
  | cmdSafPsetConfirm (h : Req) (p : List Byte)
  | cmdSafDemandTest (h : Req) (p : List Byte)
  | tamperInput (k : Nat)
  | lidMeshBreak
  | glitchDetected (clock : Bool)
  | magSensorRead (m : Nat) (fieldDmT : Option Nat)
  | debugPortAccess (blocked : Option Nat)
  | dbgCoreHalt (core : Nat)
  | drbgReseed
  | drbgHealthFail (kind : Nat)
  | drbgRetest (pass : Bool)
  | ethTlsClienthello (port : Nat) (tls13 suiteOk : Bool) (certChain : List Byte)
  | cmdSecStatus (h : Req) (p : List Byte)
  | cmdSecHallmarkGet (h : Req) (p : List Byte)
  | cmdSecGrantInstall (h : Req) (p : List Byte)
  | cmdSecGrantRemove (h : Req) (p : List Byte)
  | cmdSecProvOpen (h : Req) (p : List Byte)
  | cmdSecProvItem (h : Req) (p : List Byte)
  | cmdSecProvClose (h : Req) (p : List Byte)
  | cmdSecKeygen (h : Req) (p : List Byte)
  | cmdSecPubkeyRead (h : Req) (p : List Byte)
  | cmdSecCertRead (h : Req) (p : List Byte)
  | cmdSecTamperRead (h : Req) (p : List Byte)
  | cmdSecTamperAck (h : Req) (p : List Byte)
  | cmdSecDecommission (h : Req) (p : List Byte)
  | cmdSecDebug (h : Req) (p : List Byte)
  | cmdSecKeyErase (h : Req) (p : List Byte)
  | cmdSecTamperTest (h : Req) (p : List Byte)
  | readerPoll (ant icoilMA : Nat) (found : PollResult)
  | cardDebounceExpiry (uid : List Byte)
  | antennaFaultCheck (ant icoilMA : Nat)
  | cardHoldExpiry
  | tagFieldOn (vhMV : Nat)
  | tagFieldLost
  | tagReqa (wupa : Bool)
  | tagSelect (uid : List Byte)
  | tagHalt (deselect : Bool)
  | tagGetInfo
  | tagAuth1 (toolId : Nat) (rndT : List Byte)
  | tagAuth2 (macT : List Byte)
  | tagAuthBlockEnd
  | tagRead (block : Nat) (ccmOk : Bool)
  | tagWrite (block cc : Nat) (data : List Byte) (ccmOk : Bool) (step : Nat)
  | tagLock (first count : Nat) (ccmOk : Bool)
  | tagUnlock (first count : Nat) (ccmOk : Bool)
  | tagPortRetry (pass : Bool)
  | cmdClsStatus (h : Req) (p : List Byte)
  | cmdClsCardRead (h : Req) (p : List Byte)
  | cmdClsWlAdd (h : Req) (p : List Byte)
  | cmdClsWlDelete (h : Req) (p : List Byte)
  | cmdClsWlRead (h : Req) (p : List Byte)
  | cmdClsAntAssign (h : Req) (p : List Byte)
  | cmdClsApdu (h : Req) (p : List Byte)
  | cmdClsTagRead (h : Req) (p : List Byte)
  | cmdClsTagWrite (h : Req) (p : List Byte)
  | cmdClsToolkeyIssue (h : Req) (p : List Byte)
  | cmdClsToolminSet (h : Req) (p : List Byte)
  | cmdClsFieldTest (h : Req) (p : List Byte)
  | mlkWindow (w : RxWin) (timer : Bool)
  | mlkBlockReceived (b : RxBlock)
  | mlkTokenFrame (f : RxFrame)
  | mlkTariffFrame (f : RxFrame)
  | mlkTimeFrame (f : RxFrame) (sinceMs : Nat)
  | mlkLoadLimitFrame (f : RxFrame)
  | mlkUpdatePiece (f : RxFrame)
  | mlkUpdateOpen (f : RxFrame)
  | mlkUpdateSchedule (f : RxFrame)
  | mlkUpdateCancel (f : RxFrame)
  | mlkUpdateReportReq (f : RxFrame)
  | mlkRepeatReq (f : RxFrame)
  | mlkAck (f : RxFrame)
  | mlkStatusReq (f : RxFrame)
  | mlkRawFrame (f : RxFrame)
  | mlkTxBlockStart
  | mlkBlockEnd
  | mlkPhaseSearchTimeout
  | mlkAckTimeout (fcnt : Nat)
  | mlkStatusTimer
  | mlkCouplingCheck (coupling : Nat) (pass : Bool)
  | mlkCouplingFault (coupling : Nat)
  | cmdMlkStatus (h : Req) (p : List Byte)
  | cmdMlkRxRead (h : Req) (p : List Byte)
  | cmdMlkSend (h : Req) (p : List Byte)
  | cmdMlkTxTest (h : Req) (p : List Byte)
  | matrixFrame (o : FrameObs)
  | matrixStart (faultyOpen faultyShort faultyRows : List Nat)
  | cueDwellEnd (pageMs : Nat)
  | bsdSegmentDriveDone (driveMA : Nat)
  | cmdDisStatus (h : Req) (p : List Byte)
  | cmdDisFrame (h : Req) (p : List Byte)
  | cmdDisMapRead (h : Req) (p : List Byte)
  | cmdDisBsdRead (h : Req) (p : List Byte)
  | cmdDisMapLoad (h : Req) (p : List Byte)
  | cmdDisTest (h : Req) (p : List Byte)
  | lswOvercurrent (ch peakDA : Nat)
  | lswShort (ch peakDA : Nat)
  | lswThermalSet (ch peakDA : Nat) (tjDC : Int)
  | lswThermalClear (ch : Nat) (tjDC : Int)
  | lswInrushEnd (ch : Nat)
  | lswRwaitExpiry (ch : Nat)
  | lswRcntRestore (ch : Nat)
  | lswDiagPulse (ch : Nat) (pass : Bool)
  | lswDiagFlag (ch cause : Nat) (found : Bool)
  | cmdLswStatus (h : Req) (p : List Byte)
  | cmdLswSet (h : Req) (p : List Byte)
  | cmdLswPwmSet (h : Req) (p : List Byte)
  | cmdLswReset (h : Req) (p : List Byte)
  | cmdLswProfileRead (h : Req) (p : List Byte)
  | cmdLswProfileLoad (h : Req) (p : List Byte)
  | cmdLswTest (h : Req) (p : List Byte)
  | updEraseDone
  | updVerifyDone
  | updActivationDue
  | updWindowLapse
  | updCommitPoint
  | updRevert (code part : Nat)
  | updStoppingReset
  | updGpmLoad (outlet : Nat)
  | cmdUpdStatus (h : Req) (p : List Byte)
  | cmdUpdOpen (h : Req) (p : List Byte)
  | cmdUpdBlock (h : Req) (p : List Byte)
  | cmdUpdFinish (h : Req) (p : List Byte)
  | cmdUpdSchedule (h : Req) (p : List Byte)
  | cmdUpdCancel (h : Req) (p : List Byte)
  | cmdUpdMapRead (h : Req) (p : List Byte)
  | ethPhyRelease
  | ethFrameForward (port : Nat) (dst src : Nat) (frame : List Byte)
  | tcpConnect (port client tcpPort : Nat)
  | modbusTcpRequest (conn tid unit : Nat) (pdu : List Byte)
  | modbusRtuResponse (link unit : Nat) (pdu : List Byte) (crcOk : Bool)
  | modbusTimeout (link : Nat)
  | bridgeTcpData (uart : Nat) (data : List Byte)
  | bridgeUartRx (uart : Nat) (data : List Byte)
  | memoryEccError (mem : Nat) (uncorrectable : Bool) (addr symbol core : Nat)
  | memoryScrub
  | recordCopyCheck (failed : Bool)
  | flashHashCheck (mismatch : Bool)
  | tagStatusRefresh
  | cmdDiagLogRead (h : Req) (p : List Byte)
  | cmdDiagAlogRead (h : Req) (p : List Byte)
  | cmdDiagDumpInfo (h : Req) (p : List Byte)
  | cmdDiagDumpRead (h : Req) (p : List Byte)
  | cmdDiagDumpAck (h : Req) (p : List Byte)
  | cmdDiagDumpForce (h : Req) (p : List Byte)
  | cmdDiagDumpFull (h : Req) (p : List Byte)
  | vholdRecoveryChargeTimeout (vhold : Nat)
  | recoveryOutputsResume
  | vsupSourceChange (vin : Nat)
  | canBusOffRecovery (link : Nat)
  | ethLinkChange (port : Nat) (up direct : Bool)
  | ethMacAgeing (mac : Nat)
  | tcpConnectionClose (conn : Nat)
  | tamperInputNormal (k : Nat)
  | serviceButtonRelease
  | tagRats
  | tagOtherFrame
  | disTestEnd (openCols shortCols rows : Nat)
  | clsFieldTestEnd (icoilMA : Nat)
  | mlkTxTestEnd (itxMA : Nat)
  | lswTestEnd (ch peakMA : Nat)
  | rcmTestInjectEnd (outlet : Nat)
  | gpmLoadDone (outlet : Nat) (failed : Bool)
  | dbgCoreResume (core : Nat)
  deriving DecidableEq, Repr

end Sys2Proof
end

