-- ==== Sys2Proof/Machine/Bits.lean ====
section
/-!
DEFINITION. Bit fields, byte order, saturating counters and fixed tables: the plain helpers every block uses
(00 R5, R6, R7; 04 R110).
-/

namespace Sys2Proof

/-- A bit as a number. -/
def b2n (b : Bool) : Nat := if b then 1 else 0

/-- The low word of a 64-bit value (R110: the low word lies at the lower address). -/
def lo32 (n : Nat) : Word := BitVec.ofNat 32 n

/-- The high word of a 64-bit value (R110). -/
def hi32 (n : Nat) : Word := BitVec.ofNat 32 (n / 4294967296)

/-- Two's complement of a signed number in `bits` bits, as a number (R6). -/
def tc (bits : Nat) (i : Int) : Nat := (i % (2 ^ bits : Nat)).toNat

/-- The signed reading of the low `bits` bits of a number (R6). -/
def sgn (bits n : Nat) : Int :=
  let m := n % 2 ^ bits
  if m < 2 ^ (bits - 1) then (m : Int) else (m : Int) - (2 ^ bits : Nat)

/-- A field [hi:lo] of a register, holding `v`. -/
def fld (hi lo v : Nat) : Nat := (v % 2 ^ (hi + 1 - lo)) * 2 ^ lo

/-- A register word from its fields. -/
def reg (fs : List Nat) : Word := w32 (fs.foldl (· + ·) 0)

/-- The bits [hi:lo] of a number. -/
def bits (n hi lo : Nat) : Nat := n / 2 ^ lo % 2 ^ (hi + 1 - lo)

/-- Bit `k` of a number. -/
def bit (n k : Nat) : Bool := n / 2 ^ k % 2 == 1

/-- A number with bit `k` set. -/
def setBit (n k : Nat) : Nat := if bit n k then n else n + 2 ^ k

/-- A number with bit `k` cleared. -/
def clrBit (n k : Nat) : Nat := if bit n k then n - 2 ^ k else n

/-- A number with bit `k` made `b`. -/
def putBit (n k : Nat) (b : Bool) : Nat := if b then setBit n k else clrBit n k

/-- The mask of the numbers of a list. -/
def maskOf (ks : List Nat) : Nat := ks.foldl setBit 0

/-- A counter that saturates at `top`. -/
def satInc (top n : Nat) : Nat := if n < top then n + 1 else top

/-- A 32-bit saturating counter (R112 and the counters of every block). -/
def inc32 (n : Nat) : Nat := satInc 4294967295 n

/-- A signed number saturated at ±2,147,483,647 (`EV017`). -/
def satI32 (i : Int) : Int :=
  if i > 2147483647 then 2147483647 else if i < -2147483647 then -2147483647 else i

/-- A number saturated at 2^32 − 1. -/
def satU32 (n : Nat) : Nat := if n < 4294967295 then n else 4294967295

/-- Digit by digit square root of `n`, rounded down: `k` binary digits are still to be found, `r` holds those found. -/
def isqrtFrom (n r : Nat) : Nat → Nat
  | 0 => r
  | k + 1 => let c := r + 2 ^ k
             isqrtFrom n (if c * c ≤ n then c else r) k

/-- The square root of a number below 2^160, rounded down. -/
def isqrt (n : Nat) : Nat := isqrtFrom n 0 80

/-- Entry `i` of a list of fixed length, the type's default beyond its end. -/
def tget {α : Type} [Inhabited α] (l : List α) (i : Nat) : α := l.getD i default

/-- A list with `f` applied to entry `i`, unchanged beyond its end. -/
def tupd {α : Type} (l : List α) (i : Nat) (f : α → α) : List α :=
  match l, i with
  | [], _ => []
  | a :: r, 0 => f a :: r
  | a :: r, k + 1 => a :: tupd r k f

/-- A list with entry `i` replaced, unchanged beyond its end. -/
def tput {α : Type} (l : List α) (i : Nat) (v : α) : List α := tupd l i fun _ => v

/-- A list cut or zero-filled to `n` bytes. -/
def fixLen (n : Nat) (l : List Byte) : List Byte := l.take n ++ List.replicate (n - l.length) 0

/-- The numbers from `a` to `b`. -/
def upto (a b : Nat) : List Nat := (List.range (b + 1 - a)).map (· + a)

/-- The value paired with a key. -/
def lookupN {α : Type} (k : Nat) : List (Nat × α) → Option α
  | [] => none
  | (j, v) :: r => if j == k then some v else lookupN k r

/-- A list of pairs without the pair of a key. -/
def eraseN {α : Type} (k : Nat) (l : List (Nat × α)) : List (Nat × α) := l.filter fun p => p.1 != k

/-- A number's low `n` bytes, least significant first (R5). -/
def leBytes (n v : Nat) : List Byte :=
  match n with
  | 0 => []
  | k + 1 => BitVec.ofNat 8 v :: leBytes k (v / 256)

/-- The number that bytes spell, least significant first (R5). -/
def leNat : List Byte → Nat
  | [] => 0
  | b :: r => b.toNat + 256 * leNat r

/-- The u8 at an offset of a payload or record; 0 beyond its end. -/
def u8At (p : List Byte) (o : Nat) : Nat := (p.getD o 0).toNat

/-- The u16 at an offset (R5). -/
def u16At (p : List Byte) (o : Nat) : Nat := u8At p o + 256 * u8At p (o + 1)

/-- The u32 at an offset (R5). -/
def u32At (p : List Byte) (o : Nat) : Nat := u16At p o + 65536 * u16At p (o + 2)

/-- The u64 at an offset (R5). -/
def u64At (p : List Byte) (o : Nat) : Nat := u32At p o + 4294967296 * u32At p (o + 4)

/-- The i8 at an offset (R6). -/
def i8At (p : List Byte) (o : Nat) : Int := sgn 8 (u8At p o)

/-- The i16 at an offset (R6). -/
def i16At (p : List Byte) (o : Nat) : Int := sgn 16 (u16At p o)

/-- The i32 at an offset (R6). -/
def i32At (p : List Byte) (o : Nat) : Int := sgn 32 (u32At p o)

/-- The i64 at an offset (R6). -/
def i64At (p : List Byte) (o : Nat) : Int := sgn 64 (u64At p o)

/-- `n` bytes from an offset, zero-filled. -/
def bytesAt (p : List Byte) (o n : Nat) : List Byte := fixLen n (p.drop o)

/-- Every byte of a list is 0. -/
def allZero (l : List Byte) : Bool := l.all (· == 0)

/-- Bytes written into a record at an offset, the record grown with zeros where it is short. -/
def putBytes (p : List Byte) (o : Nat) (d : List Byte) : List Byte :=
  fixLen o p ++ d ++ p.drop (o + d.length)

def p8 (n : Nat) : List Byte := leBytes 1 n
def p16 (n : Nat) : List Byte := leBytes 2 n
def p32 (n : Nat) : List Byte := leBytes 4 n
def p64 (n : Nat) : List Byte := leBytes 8 n
def pi8 (i : Int) : List Byte := leBytes 1 (tc 8 i)
def pi16 (i : Int) : List Byte := leBytes 2 (tc 16 i)
def pi32 (i : Int) : List Byte := leBytes 4 (tc 32 i)
def pi64 (i : Int) : List Byte := leBytes 8 (tc 64 i)

/-- Words as payload bytes (R5). -/
def wordBytes (ws : List Word) : List Byte := ws.flatMap fun w => leBytes 4 w.toNat

/-- Payload bytes as words, the last zero-filled (R5). -/
def bytesWords (n : Nat) (b : List Byte) : List Word :=
  match n with
  | 0 => []
  | k + 1 => w32 (u32At b 0) :: bytesWords k (b.drop 4)

end Sys2Proof
end

