-- ==== Sys2Proof/Machine/Crc.lean ====
section
/-!
DEFINITION. The two frame checks of the manual: CRC-16 of R97 (HSPI frames, mailbox frames) and the IEEE 802.3
CRC-32 of R151 (configuration image, commit markers, dump header).
-/

namespace Sys2Proof.Machine

/-- One bit step of CRC-16, polynomial 0x1021, unreflected (R97). -/
def crc16Bit (c : Nat) : Nat :=
  if c / 32768 % 2 == 1 then Nat.xor (c * 2 % 65536) 0x1021 else c * 2 % 65536

/-- One byte of CRC-16 (R97). -/
def crc16Byte (c : Nat) (b : Byte) : Nat :=
  crc16Bit (crc16Bit (crc16Bit (crc16Bit (crc16Bit (crc16Bit (crc16Bit (crc16Bit
    (Nat.xor c (b.toNat * 256)))))))))

/-- CRC-16 of R97: initial value 0xFFFF, no reflection, no final XOR. -/
def crc16 (l : List Byte) : Nat := l.foldl crc16Byte 0xFFFF

/-- One bit step of the reflected CRC-32, polynomial 0x04C1_1DB7 reflected (R151). -/
def crc32Bit (c : Nat) : Nat := if c % 2 == 1 then Nat.xor (c / 2) 0xEDB88320 else c / 2

/-- One byte of CRC-32 (R151). -/
def crc32Byte (c : Nat) (b : Byte) : Nat :=
  crc32Bit (crc32Bit (crc32Bit (crc32Bit (crc32Bit (crc32Bit (crc32Bit (crc32Bit
    (Nat.xor c b.toNat))))))))

/-- CRC-32 of R151: initial value and final XOR 0xFFFF_FFFF. -/
def crc32 (l : List Byte) : Nat := Nat.xor (l.foldl crc32Byte 0xFFFFFFFF) 0xFFFFFFFF

end Sys2Proof.Machine
end

