-- ==== Sys2Proof/Config.lean ====
section
/-!
DEFINITION. What one part fixes and what the spec leaves open: constants without a body, so that no proof can see a value
of them. Free values are applied to the operands they depend on, or to the counter `Block.free` for a fresh value.
-/

namespace Sys2Proof

/-- `SYS_SERIAL`, fused at manufacture (04 R111). -/
opaque Config.serial : BitVec 64

/-- `SYS_ID.STEP`, the silicon step (Table 4-7). -/
opaque Config.step : BitVec 8

/-- The Uazel keys in boot ROM: 0 the credential key (R426), 1 the update key (R534). -/
opaque Config.romKey : Nat → BitVec 256

/-- The device unique secret, fused at manufacture (14 R411). -/
opaque Config.dus : BitVec 256

/-- The public key of a generated slot (16 to 19), from what identifies its private key, as the byte string of its own
standard. -/
opaque Config.pubKey : Nat → List Byte → List Byte

/-- A card's response to an APDU of the host, with its status word: the counter and the APDU (15 R453). -/
opaque Config.apdu : Nat → List Byte → List Byte

/-- A DER certificate chain: its leaf's public key, and whether it chains to an anchor (R422, R437). -/
opaque Config.leafKey : List Byte → List Byte
opaque Config.chains : List Byte → List Byte → Bool

/-- The device certificate (R413). -/
opaque Config.deviceCert : List Byte

/-- The release in the active bank as manufactured: version and image hash of part n (Table 4-19, R533). -/
opaque Config.partVer : Nat → Word
opaque Config.partHash : Nat → BitVec 512

/-- The IPv4 address and mask that the network's DHCP server leases the module (20 R565). -/
opaque Config.lease : Nat × Nat

/-- Fresh values, by the counter `Block.free`: words, bits and 128-bit random values (DRBG, unstated results). -/
opaque Config.freeWord : Nat → Word
opaque Config.freeBit : Nat → Bool
opaque Config.random : Nat → BitVec 128

/-- Point k of the 1,024 to which a harmonic window of samples, newest first, is resampled (08 Table 8-2): the spec gives no
interpolation. -/
opaque Config.resample : List Int → Nat → Int

/-- The output of the fractional-delay filter for a delay in the unit of PHASE, from the newest sixteen values ahead of it (07
R203): the spec gives no coefficients. -/
opaque Config.fracDelay : Int → List Int → Int

/-- The factory-trimmed reference value of an analogue channel in sample codes: point and channel (07 R217). -/
opaque Config.refTrim : Nat → Nat → Nat

/-- KIND and DETAIL of an ASSAY event-log entry where the spec does not give them: cause of the record and its
operands. -/
opaque Config.alogKind : Nat → BitVec 16
opaque Config.alogDetail : Nat → List Nat → List Byte

/-- Bytes of a fatal dump's sections that the spec does not fix: section and the counter (R586). -/
opaque Config.dumpBytes : Nat → Nat → List Byte

/-- Byte addresses of DRAM that lie in the dump area (Table 21-3). -/
opaque Config.dumpArea : Nat → Bool

/-- Byte addresses of MRAM that lie in the group journal (06 R172): the spec gives MRAM no map. -/
opaque Config.journalWord : Nat → Bool

/-- The frame that the renderer builds from fonts and pages of the DISPLAY part (17 R494, R495), 3,456 bytes in the layout of
`CMD_DIS_FRAME`: what is shown (0 scroll item, 1 site cue, 2 outlet cue, 3 nothing), its number, its values. The spec gives no
fonts. -/
opaque Config.rendered : Nat → Nat → List Int → List Byte

/-- The column lit in a frame of the column walk (17 R514 `CMD_DIS_TEST` OP 2), whose pace the spec does not state. -/
opaque Config.walkColumn : Nat → Nat

/-- A release supports the handover record format of another (19 R547): the versions of the release that wrote the record, and
of the one that resumes. The spec does not say which formats a release supports. -/
opaque Config.resumes : List Word → List Word → Bool

end Sys2Proof
end

