-- ==== Sys2Proof/Machine/Factory.lean ====
section
/-!
DEFINITION. The factory value of every section of the site configuration and of the safety parameter set, byte by byte
(Tables 5-18, 7-4, 7-5, 8-4, 9-13, 10-1, 11-1, 11-2, 12-8, 13-5a, 15-2, 16-6, 17-6, 18-5, 20-4, 21-2).
-/

namespace Sys2Proof

/-- `n` zero bytes. -/
def zeros (n : Nat) : List Byte := List.replicate n 0

/-- A record repeated. -/
def rep (n : Nat) (r : List Byte) : List Byte := (List.replicate n r).flatten

/-- System section (Table 5-18). -/
def facSystem : List Byte := p32 0 ++ p32 4 ++ p8 1 ++ p8 10 ++ p8 0 ++ p8 0 ++ p16 0x0FFF ++ p16 0

/-- Metrology section (Tables 7-4, 7-5). -/
def facMetrology : List Byte :=
  p8 50 ++ p8 0 ++ p16 60 ++ p32 0 ++
  rep 13 (p8 1 ++ p8 0 ++ p8 0x15 ++ p8 0 ++ p16 0 ++ p16 2300 ++ p32 100000 ++ p32 500000 ++ p32 0 ++ p32 0) ++
  zeros 24

/-- Energy section (Table 8-4). -/
def facEnergy : List Byte :=
  p8 15 ++ p8 1 ++ p16 50 ++ p16 900 ++ p16 1100 ++ p16 50 ++ p16 20 ++ p8 0 ++ p8 0 ++ p16 5 ++ p16 50 ++ p16 0 ++
  p32 150 ++ zeros 24 ++ zeros 48 ++ zeros 64

/-- Billing section (Table 9-13). -/
def facBilling : List Byte :=
  p8 0 ++ p8 1 ++ p8 3 ++ p8 1 ++ p16 0 ++ p16 0 ++ zeros 16 ++ p8 3 ++ p8 0 ++ zeros 6 ++ zeros 128 ++ zeros 8 ++
  (p16 0 ++ p8 1 ++ p8 0) ++ rep 63 (p16 0xFFFF ++ p16 0) ++ zeros 128 ++ zeros 32 ++ zeros 128

/-- Outlet section (Table 10-1). -/
def facOutlet : List Byte :=
  p8 40 ++ p8 60 ++ p16 600 ++ zeros 12 ++
  rep 12 (p8 1 ++ p8 0 ++ p8 7 ++ p8 1 ++ p16 0 ++ p8 0x0E ++ p8 0 ++ p8 1 ++ p8 2 ++ zeros 22)

/-- Allocation section (Tables 11-1, 11-2). -/
def facAllocation : List Byte :=
  zeros 16 ++ p16 5000 ++ p16 1000 ++ p16 100 ++ p16 150 ++ p16 500 ++ p16 150 ++ p8 10 ++ p8 40 ++ p16 0 ++ p8 0 ++
  zeros 7 ++ rep 12 (p16 160 ++ p16 0 ++ p8 1 ++ zeros 11) ++ zeros 32

/-- Protection section (Table 12-8). -/
def facProtection : List Byte :=
  p16 500 ++ p16 100 ++ zeros 12 ++ rep 12 (p16 50 ++ p16 500 ++ p16 1500 ++ p16 250 ++ p16 1000 ++ p16 0)

/-- Contactless section (Table 15-2). -/
def facContactless : List Byte :=
  p8 0 ++ p8 0 ++ p16 2000 ++ zeros 12 ++ (p8 1 ++ p8 0 ++ p16 0x0FFF ++ p8 3 ++ p8 20 ++ p8 4 ++ p8 0) ++
  rep 3 (p8 0 ++ p8 0 ++ p16 0 ++ p8 3 ++ p8 20 ++ p8 4 ++ p8 0)

/-- Mains-link section (Table 16-6). -/
def facMainsLink : List Byte :=
  p8 0 ++ p8 1 ++ p8 0 ++ p8 0 ++ p32 0 ++ zeros 16 ++ p8 1 ++ p8 60 ++ p8 12 ++ p8 3 ++ p16 1000 ++ p16 60 ++ p8 3 ++
  p8 0 ++ p16 0 ++ zeros 12

/-- Display section (Table 17-6). -/
def facDisplay : List Byte :=
  p8 0 ++ p8 32 ++ p8 63 ++ p8 0 ++ rep 8 (p8 0xFF) ++ p8 0 ++ p8 20 ++ p16 3000 ++ zeros 16

/-- Load-switch section (Table 18-5). -/
def facLoadSwitch : List Byte :=
  p16 60 ++ p16 0 ++ zeros 8 ++ p32 0 ++ rep 12 (p8 0 ++ p8 1 ++ p8 0 ++ p8 0 ++ p16 256 ++ p8 1 ++ p8 0 ++ p32 0) ++
  zeros 128

/-- Links section (Table 20-4). -/
def facLinks : List Byte :=
  p8 2 ++ p8 0 ++ p16 7412 ++ zeros 16 ++ p8 0 ++ p8 0 ++ p16 4800 ++ zeros 48 ++ zeros 32 ++ p8 3 ++ zeros 3

/-- Diagnostics section (Table 21-2). -/
def facDiagnostics : List Byte :=
  p32 0xFFFFFFFF ++ p32 0xFFFFFFFE ++ rep 6 (p32 0xFFFFFFFF) ++ p16 16 ++ p16 60 ++ p32 0

/-- Every section that the running release defines, in ascending ID order (R151), at its factory value. -/
def factorySections : List (Nat × List Byte) :=
  [(0x0001, facSystem), (0x0003, facMetrology), (0x0004, facEnergy), (0x0005, facBilling), (0x0006, facOutlet),
   (0x0007, zeros 480), (0x0008, facAllocation), (0x0009, facProtection), (0x000A, facContactless),
   (0x000B, facMainsLink), (0x000C, facDisplay), (0x000D, facLoadSwitch), (0x000E, facLinks),
   (0x000F, facDiagnostics)]

/-- Safety parameter set without its CRC-32 (Table 13-5a): every input and function unused. -/
def facPsetBody : List Byte :=
  rep 16 (p8 0 ++ p8 0 ++ p8 0 ++ p8 10 ++ p16 500 ++ p16 0) ++ zeros 16 ++
  rep 16 (p8 0 ++ p8 0 ++ p8 0 ++ p8 0xFF ++ p16 0 ++ p8 0 ++ p8 0xFF ++ p16 200 ++ zeros 6)

/-- The factory safety parameter set (Table 13-5a, R403) for a CRC-32 of its bytes 16 to 415. -/
def facPset (crc : Nat) : List Byte := p16 0x0100 ++ p16 416 ++ p32 0 ++ p32 crc ++ p32 0 ++ facPsetBody

end Sys2Proof
end

