-- ==== Sys2Proof/Machine/State.lean ====
section
/-!
DEFINITION. The state of the block as plain data: every register, FIFO, buffer, counter, mode and pin state the spec
gives the module, the queue of waiting commands, and the state right after reset. `Block` holds everything but the tag
die's memory and the queue.
-/

namespace Sys2Proof.Machine

/-- Eight equal entries. -/
def rep8 {α : Type} (a : α) : List α := List.replicate 8 a

/-! ### Modes and lifecycle (03) -/

/-- The twelve operating modes (Table 3-1). -/
inductive Mode where
  | factory | provision | selftest | standby | service | degraded | maintain | commission | activate | outage
  | safestop | zeroised
  deriving DecidableEq, Repr, Inhabited

/-- The mode code (Table 3-1, R77). -/
def Mode.code : Mode → Nat
  | .factory => 1 | .provision => 2 | .selftest => 3 | .standby => 4 | .service => 5 | .degraded => 6
  | .maintain => 7 | .commission => 8 | .activate => 9 | .outage => 10 | .safestop => 11 | .zeroised => 12

/-- A command in progress: the mailbox and the entry that wait for its final response (R132). -/
structure CmdRef where
  mb : Nat
  id : Nat
  deriving DecidableEq, Repr, Inhabited

/-- A mode transition under way (R80, R81): its target, its cause byte and the command that asked for it. -/
structure Transition where
  target : Mode
  cause  : Nat
  cmd    : Option CmdRef
  deriving DecidableEq, Repr

/-- Modes, time, lifecycle and identity (03; 04 R111). -/
structure Sys where
  /-- current mode (R77) -/
  mode      : Mode
  /-- `SYS_MODE.PREV` -/
  prevMode  : Nat
  /-- `SYS_MODE.CAUSE` -/
  modeCause : Nat
  /-- transition under way (R80) -/
  trans     : Option Transition
  /-- mode held at the power-fail warning (R71, R82) -/
  held      : Mode
  /-- mode held before ACTIVATE (Table 3-2) -/
  preActivate : Mode
  /-- a SAFESTOP cause arose in OUTAGE or waits for a controlled stop (R83, R55, R583) -/
  safestopDue : Bool
  /-- lifecycle fuses (R88) -/
  provOpen  : Bool
  provDone  : Bool
  rootDisable : Bool
  /-- meter time in ms (R50) -/
  mtime     : Nat
  /-- the MTIME counter runs (R50) -/
  mtimeRun  : Bool
  /-- the last B-SEC that has occurred: its MTIME in s (00 Table 0-4) -/
  secDone   : Nat
  /-- wall-time offset in ms (R52) -/
  wallOfs   : Int
  /-- wall-time offsets that apply at the next B-SEC, in order of acceptance: offset, by a TIME frame (R481) -/
  wallDue   : List (Int × Bool)
  /-- AUTOSTART waits for the next B-SEC (R87) -/
  autostartDue : Bool
  /-- `SYS_FLAGS` COMMIT_GAP, TIME_GAP -/
  commitGap : Bool
  timeGap   : Bool
  /-- `SYS_SCRATCH` -/
  scratch   : Word
  /-- flash bank booted: false A, true B (`SYS_BANK`) -/
  bankB     : Bool
  /-- outlet service states, entry n − 1 for outlet n (Table 3-5) -/
  svc       : List Nat
  deriving DecidableEq, Repr

/-! ### Supplies, clocks, resets, outage (02) -/

/-- A controlled stop under way (Table 2-6). -/
structure CStop where
  /-- MTIME of step 1 -/
  t0      : Nat
  /-- bit n − 1: outlet n taken over and its driver not yet released -/
  outlets : Nat
  deriving DecidableEq, Repr

/-- What a whole-module reset waits for (R53): nothing, RESET_N high, the clocks, the supply. -/
inductive Held where
  | no | ready | resetN | clock | supply | off
  deriving DecidableEq, Repr, Inhabited

/-- Supplies, clocks, resets and outage (02; `CKP` block, 04 R113). -/
structure Pwr where
  /-- VIN and VHOLD, 10 mV per LSB (`CKP_SUPPLY`) -/
  vin       : Nat
  vhold     : Nat
  /-- `CKP_RAIL_STAT` bits: VIN at or above 17.0 V and the four rails in range (Table 2-2) -/
  vinOk     : Bool
  vcppOk    : Bool
  vcpnOk    : Bool
  vledOk    : Bool
  vddioOk   : Bool
  /-- VHOLD supervision armed (Table 2-2), its `EV007` condition, and the charge after recovery not yet complete -/
  vholdArmed : Bool
  vholdLow  : Bool
  vholdRec  : Bool
  /-- power-fail warning latched (R62), its source, its MTIME -/
  pfw       : Bool
  pfwSrc    : Nat
  pfwT0     : Nat
  /-- the site-voltage source has met its condition and is not clear again; half-cycles in a row at or above 80 % of nominal
      on VA, VB and VC of MP00 (R62) -/
  siteLoss  : Bool
  siteGood  : List Nat
  /-- the final commit of this warning is complete (Table 2-8 step 8) -/
  finalDone : Bool
  /-- VSUP taken from VHOLD (R69) -/
  vsupVhold : Bool
  /-- recovery step 1 made, steps 3 and 4 not yet (Table 2-9) -/
  recovering : Bool
  /-- held in reset and why; `ready`: reset released only by `RESET_RELEASE` (Table 2-4) -/
  heldBy    : Held
  /-- power-fail warning during SELFTEST holds every processor (R84) -/
  pfwSelftest : Bool
  /-- clock fault to be logged at the next start (`EV006`), 0 none -/
  clockWhy  : Nat
  /-- MTIME at which the counter last resumed (R51) -/
  resumeAt  : Nat
  /-- `CKP_RST_CAUSE` -/
  rstCause  : Nat
  rstPrev   : Nat
  /-- SELFTEST runs and its step 8 has failed (R46) -/
  chargeFail : Bool
  /-- MTIMEs of the Larkspur resets of the current 600 s window (R55) -/
  lrst      : List Nat
  /-- Larkspur held in reset or booting (R57, R101) -/
  larkspurDown : Bool
  /-- hold-over under way since (R57) -/
  holdover  : Option Nat
  /-- controlled stop under way (R59) -/
  cstop     : Option CStop
  /-- `CMD_SYS_SOFT_RESET` waits for its controlled stop (Table 2-4) -/
  softReset : Bool
  /-- Assay core, Crucible, Anvil out of action (R24) -/
  assayDown : Bool
  crucDown  : Bool
  anvilDown : Bool
  deriving DecidableEq, Repr

/-! ### Host transport (04) -/

/-- HSPI transport state (`HST` block, R112) and what the module drove in the last frame. -/
structure Hst where
  notperf  : Bool
  abort    : Bool
  crc      : Bool
  berr     : Bool
  berrCnt  : Nat
  berrAddr : Word
  crcCnt   : Nat
  abortCnt : Nat
  frameCnt : Nat
  /-- the previous frame was abandoned (R99) -/
  prevAbort : Bool
  /-- bytes driven in the last frame's module phases: TSB, RDATA, MCHK (Table 4-2) -/
  lastTx   : List Byte
  deriving DecidableEq, Repr

/-- Resource claims (R114–R119). -/
structure Pin where
  /-- holder's feature code of resource 0 to 9, 0 unclaimed (Table 4-30) -/
  holder    : List Nat
  refuseCnt : Nat
  lastRefuse : Word
  deriving DecidableEq, Repr

/-- Pending writes of RW-B registers: byte address and value, one per register (R107). -/
abbrev Shadows := List (Nat × Word)

/-! ### Mailboxes (05) -/

/-- Where an entry stands: accepted and waiting, started, or answered without a start (R128, R129). -/
inductive Phase where
  | waiting | started | blocked | resume | answered
  deriving DecidableEq, Repr, Inhabited

/-- One occupied command entry (R120). -/
structure Entry where
  id      : Nat
  opcode  : Nat
  tag     : Nat
  flags   : Nat
  seq     : Nat
  len     : Nat
  payload : List Byte
  phase   : Phase
  /-- final status and payload once produced -/
  final   : Option (Nat × List Byte)
  /-- the interim `ACCEPTED` has been sent (R132) -/
  acc     : Bool
  deriving DecidableEq, Repr, Inhabited

/-- One queued response: the entry it belongs to, whether its delivery frees it, and the words not yet read. -/
structure Rsp where
  id    : Nat
  frees : Bool
  words : List Word
  deriving DecidableEq, Repr, Inhabited

/-- The last accepted request of a mailbox, kept to answer a duplicate (R129). -/
structure LastReq where
  seq   : Nat
  id    : Nat
  final : Option (Nat × List Byte)
  deriving DecidableEq, Repr, Inhabited

/-- One mailbox (R120–R136). -/
structure Mailbox where
  epoch   : Nat
  /-- 0 unbound, 1 HSPI, 2 ETH1, 3 ETH2 (Table 5-7) -/
  bind    : Nat
  /-- request words received, oldest first, and the MTIME of the last one (R124, R125) -/
  asm     : List Word
  asmAt   : Nat
  entries : List Entry
  rsps    : List Rsp
  last    : Option LastReq
  nextId  : Nat
  deriving DecidableEq, Repr, Inhabited

/-- A final response that waits (R134): the command, its status and its payload. -/
structure HeldRsp where
  cmd     : CmdRef
  status  : Nat
  payload : List Byte
  deriving DecidableEq, Repr

/-- Mailboxes, the host watchdog, and the frames handed to each Ethernet port's TLS session, oldest first, the newest 64
(R126). -/
structure Mbx where
  boxes  : List Mailbox
  /-- MTIME from which the host watchdog counts (R136) -/
  lastHost : Nat
  /-- MTIME of the last frame that keeps the host channel alive (06 R180) -/
  chanAt : Nat
  /-- the host is silent since (R28) -/
  silent : Option Nat
  /-- functions of Table 1-7 in their host-silent behaviour, bit k for ID k (R28, R29) -/
  fallback : Nat
  /-- `EV033` to raise once the window is served (R135) -/
  epochDue : Bool
  ethTx  : List (List (List Byte))
  /-- final responses of commands accepted before a power-fail warning, which wait for recovery, oldest first (R65, R134) -/
  held   : List HeldRsp
  deriving DecidableEq, Repr

/-! ### Events (05) -/

/-- Registers of one event group (Table 5-13, Table 5-14). -/
structure EvtGroup where
  raw   : Nat
  irqen : Nat
  qen   : Nat
  ovf   : Nat
  routeLo : Nat
  routeHi : Nat
  deriving DecidableEq, Repr, Inhabited

/-- One event-queue entry (Table 5-12). -/
structure QEntry where
  test  : Bool
  seq   : Nat
  ev    : Nat
  mtime : Nat
  wall  : Int
  data  : Nat
  deriving DecidableEq, Repr, Inhabited

/-- Event latches, routing and queue (R143–R148). -/
structure Evt where
  groups : List EvtGroup
  /-- `EVT_IRQ_CFGk.PUSHPULL` -/
  pushPull : List Bool
  /-- oldest first, at most 512 -/
  queue  : List QEntry
  lost   : Nat
  /-- the queue has refused an entry since it last had room (`EV037`) -/
  refusing : Bool
  seq    : Nat
  deriving DecidableEq, Repr

/-! ### Site configuration (05 R150–R152) -/

/-- The committed sections, the configuration identifier and the staging area. -/
structure Cfg where
  /-- body in force of every section, ascending ID -/
  secs   : List (Nat × List Byte)
  ident  : Nat
  /-- staging area: owner and bytes written so far, grown with zeros -/
  stage  : Option (Nat × List Byte)
  /-- every section has been committed at least once (R336: bit k for section ID k) -/
  given  : Nat
  deriving DecidableEq, Repr

/-! ### Plans, groups, locks, arbiters (06) -/

/-- One plan row: 14 words (Table 6-3). -/
abbrev Row := List Word

/-- A plan header's fields (Table 6-2). -/
structure PlanHdr where
  domain   : Nat
  flags    : Nat
  rows     : Nat
  planId   : Nat
  swap     : Nat
  swapTick : Nat
  compiler : Nat
  rowHash  : List Byte
  deriving DecidableEq, Repr, Inhabited

/-- States of a staging buffer (R155). -/
inductive Stage where
  | empty | loading | validating | armed
  deriving DecidableEq, Repr, Inhabited

/-- The safety envelope (11 R332) as Anvil holds it, frozen for a validation (R162): phase and site caps, LAG in ticks,
and per outlet the cap, the vehicle limits, the conversion factor, the wired phases, DC or AC, and bidirectional or
not. -/
structure Envelope where
  phImp  : List Nat
  phExp  : List Nat
  siteImp : Nat
  siteExp : Nat
  lag    : Nat
  cap    : List Nat
  vImp   : List Nat
  vExp   : List Nat
  kdc    : List Nat
  phases : List Nat
  dc     : List Bool
  bidir  : List Bool
  svc    : List Nat
  deriving DecidableEq, Repr, Inhabited

/-- A staging buffer (R155–R157). -/
structure Staging where
  stage  : Stage
  /-- owner code of Table 6-13 -/
  owner  : Nat
  hdr    : PlanHdr
  /-- rows loaded: index and words, newest first -/
  rows   : List (Nat × Row)
  /-- `CMD_PLAN_ARM` that waits (R164, R165) -/
  cmd    : Option CmdRef
  /-- envelope when validation began, and the order stamp of that instant (R162, R169) -/
  env    : Envelope
  stamp  : Nat
  /-- waits for Anvil to finish another domain's validation (R164) -/
  queued : Bool
  /-- rows of an ARMED plan with an uncorrectable ECC error -/
  ecc    : List Nat
  deriving DecidableEq, Repr, Inhabited

/-- What a domain's player does (Table 6-19 STATE). -/
inductive Play where
  | idle | playing | held | holdover | stopped | paused
  deriving DecidableEq, Repr, Inhabited

/-- One control domain's plan machinery. -/
structure Domain where
  play    : Play
  actBuf  : Nat
  hdr     : PlanHdr
  rows    : List Row
  /-- row last played, and whether row 0 still has to be played -/
  row     : Nat
  last    : Row
  /-- swap tick of the ARMED plan, and of the last swap (`PLN_DSWAPn`) -/
  swapTick : Nat
  lastSwap : Nat
  /-- rows of the active buffer with an uncorrectable ECC error (R167) -/
  ecc     : List Nat
  staging : Staging
  deriving DecidableEq, Repr, Inhabited

/-- Overrides of one outlet (R168, R169): causes in force as a mask of bits 1 to 8, the causes whose real event has
ended with the order stamp of the end, and the magnitudes to which causes 4 and 5 clamp import and export. -/
structure Ovr where
  causes : Nat
  ended  : List (Nat × Nat)
  vi     : Nat
  ve     : Nat
  ci     : Nat
  ce     : Nat
  deriving DecidableEq, Repr, Inhabited

/-- The per-tariff energies of an open session with their marks (09 R266, R267). -/
structure SesVals where
  tarImp  : List Nat
  tarExp  : List Nat
  markImp : Nat
  markExp : Nat
  deriving DecidableEq, Repr, Inhabited

/-- The billing registers that advance with the accumulators, each with its mark, and the tariff recorded with the marks
(09 R267): tariff registers of MP00, site credit with its residue and the debits of the period, sessions by outlet. -/
structure BilVals where
  inForce : Nat
  tregImp : List Nat
  tregExp : List Nat
  markImp : Nat
  markExp : Nat
  credit  : Int
  residue : Nat
  perDebit : Int
  ses     : List SesVals
  deriving DecidableEq, Repr, Inhabited

/-- A DUE record (R173): the boundary's MTIME, the accumulators at it, and the values of 09 Table 9-4: tariff registers,
CREDIT, residue and marks; demand maxima of MP00; demand registers of every point, import and export. -/
structure DueRec where
  t0   : Nat
  accs : List (List Nat)
  vals : BilVals
  maxImp : Nat
  maxExp : Nat
  demImp : List Nat
  demExp : List Nat
  deriving DecidableEq, Repr, Inhabited

/-- A commit group in its slot (R170–R175). -/
structure Group where
  gseq   : Nat
  owner  : Nat
  acts   : List GAction
  bclass : Nat
  inst   : Nat
  notBefore : Nat
  deadline : Nat
  tag    : Nat
  cmd    : Option CmdRef
  due    : Option DueRec
  /-- its boundary passed in OUTAGE at this MTIME (Table 6-15) -/
  missed : Option Nat
  deriving DecidableEq, Repr, Inhabited

/-- An owner waiting for a lock (R178): its deadline, and the command to answer; `resume` marks a command that takes
the lock for its own sequence (R179). -/
structure Waiter where
  owner    : Nat
  deadline : Nat
  cmd      : Option CmdRef
  resume   : Bool
  deriving DecidableEq, Repr, Inhabited

/-- One hardware lock (R176–R181). -/
structure Lock where
  owner   : Nat
  broken  : Bool
  waiters : List Waiter
  deriving DecidableEq, Repr, Inhabited

/-- One arbiter (R182–R184): classes, requests raised, ages, cycles not yet counted in the ages, last grant. -/
structure Arb where
  cls   : List Nat
  req   : Nat
  age   : List Nat
  frac  : Nat
  grant : Nat
  /-- a grant is in progress -/
  busy  : Bool
  deriving DecidableEq, Repr, Inhabited

/-- What Anvil does for an outlet at the next B-TICK: override cause, whether the outlet becomes FAULTED (Table 3-6), and
the reason with which an open session becomes STOPPING, 0 none (Tables 12-3, 13-4, 10-4). -/
structure TickDue where
  outlet : Nat
  cause  : Nat
  fault  : Bool
  reason : Nat
  deriving DecidableEq, Repr, Inhabited

/-- Plans, groups, locks and arbiters (06; `PLN` block R189). -/
structure Pln where
  tick    : Nat
  timer   : Bool
  halfp   : Nat
  /-- consecutive good crossing spacings seen while the timer runs (R153) -/
  good    : Nat
  /-- order stamps handed out (R169) -/
  stamp   : Nat
  doms    : List Domain
  ovr     : List Ovr
  due     : List TickDue
  /-- outlets whose B-SES has occurred and whose groups of class B-SES are still to fall due -/
  sesB    : List Nat
  /-- the session boundaries of a B-TICK that coincides with a B-INT or a B-SEC still to come wait for them (00 R11) -/
  sesLate : Bool
  groups  : List (Option Group)
  /-- last group sequence number given (R172) -/
  gseq    : Nat
  /-- the word of the next SUBMITTED journal record has an uncorrectable error (R172; 21 Table 21-3) -/
  jrnBad  : Bool
  locks   : List Lock
  /-- locks that a running command took for itself, to release before its final response (R179) -/
  taken   : List (CmdRef × Nat)
  hlockRes : Word
  arbM    : Arb
  arbC    : Arb
  cntOvr  : Nat
  cntRej  : Nat
  cntAbort : Nat
  deriving DecidableEq, Repr

/-! ### Metrology front end (07) -/

/-- One channel of a point (R203–R218, Table 7-17). GAIN, PHASE and OFS are RW-B; their live values stand here. -/
structure Chan where
  gain    : Nat
  phase   : Int
  ofs     : Int
  /-- temperature entry in force: TGAIN, TPHASE -/
  tgain   : Int
  tphase  : Int
  /-- causes of Table 7-9 that hold, and the last one raised -/
  causes  : List Nat
  cause   : Nat
  faultS  : Bool
  ovrS    : Bool
  clamp   : Bool
  sample  : Int
  peak    : Nat
  /-- largest magnitude and over-range mark of the running cycle; `EV066` raised in this second -/
  runPeak : Nat
  runOvr  : Bool
  ovrSec  : Bool
  /-- consecutive failed reference checks (R217); the newest check since the outlet's bypass began has passed (R216) -/
  refFail : Nat
  refPass : Bool
  /-- the newest sixteen values formed ahead of the delay, newest first (R203) -/
  taps    : List Int
  /-- corrected samples of the running harmonic window, newest first; THD, order 1 and orders 2 to 40 of the last one
  (08 Table 8-2) -/
  win     : List Int
  harm    : List Nat
  deriving DecidableEq, Repr, Inhabited

/-- One metering point's front end (Table 7-16). -/
structure Point where
  /-- the record of Table 7-5 in force, and a committed one that waits for the point's B-CYC (01 R21) -/
  conf    : List Byte
  confPend : Bool
  chans   : List Chan
  cycTimer : Bool
  good    : Nat
  period  : Nat
  cyc     : Nat
  band    : Nat
  bandPend : Nat
  /-- a band has been decided since reset (R208); entries of a decided band or loaded table wait for B-CYC -/
  bandSet : Bool
  entPend : Bool
  temp    : Int
  tsrcFb  : Bool
  calreq  : Bool
  ovr     : Nat
  lastCh  : Nat
  checks  : Nat
  dev     : Int
  /-- MTIME of the last scheduled reference check; a check under way: its channel and the interpolated samples still to be
  used (R217) -/
  injAt   : Nat
  inj     : Option (Nat × List Int)
  /-- temperature table: 128 words, index 8k + c (R210) -/
  table   : List Nat
  /-- discard of uncommitted values waits for B-CYC (R213) -/
  discard : Bool
  /-- the outlet's metering protection cause is latched (R215, R216) -/
  latched : Bool
  deriving DecidableEq, Repr, Inhabited

/-- A temperature source (R206). -/
structure TempSrc where
  /-- newest valid reading, and whether there is one since reset -/
  t       : Int
  seen    : Bool
  /-- the newest reading is valid -/
  valid   : Bool
  /-- MTIME of the last valid reading, and of the first of the present run of valid readings -/
  lastAt  : Nat
  runAt   : Nat
  lost    : Bool
  deriving DecidableEq, Repr, Inhabited

/-- A calibration record's values (Table 7-8): per point and channel GAIN, PHASE, OFS; edges; tables. -/
structure CalRec where
  calseq : Nat
  calid  : Nat
  mtime  : Nat
  edges  : List Int
  vals   : List (List (Nat × Int × Int))
  tables : List (List Nat)
  deriving DecidableEq, Repr, Inhabited

/-- A `CMD_ASY_CAL_MEASURE` under way (Table 7-12): cycles asked and done, whether its first B-CYC has come, samples and
duration so far, per channel the sums of squares and of raw samples, per phase the sums of the two products. -/
structure Measure where
  cmd    : CmdRef
  point  : Nat
  want   : Nat
  done   : Nat
  on     : Bool
  n      : Nat
  ns     : Nat
  sq     : List Int
  raw    : List Int
  p      : List Int
  q      : List Int
  deriving DecidableEq, Repr, Inhabited

/-- Metrology front end (07; `ASY` block R224). -/
structure Asy where
  points  : List Point
  tsrc    : List TempSrc
  edges   : List Int
  /-- the record in use, and whether a stored copy of it was valid at start (R212) -/
  record  : CalRec
  recOk   : Bool
  /-- the two copies in MRAM, and which of them was written last (R211) -/
  copies  : List (Option CalRec)
  newest  : Nat
  sampleCnt : Nat
  tinjCtrl : Nat
  tinjAmp : Nat
  tinjPh  : Nat
  tinjFreq : Nat
  /-- angle at the start of test injection, and the sample instants since (R219) -/
  tinjOrg : Nat
  tinjN   : Nat
  refOk   : Bool
  drift   : Int
  /-- `CMD_ASY_CAL_COMMIT` that waits for pending shadows (R213): command and CALID -/
  commitCmds : List (CmdRef × Nat)
  /-- `CMD_ASY_INJ_RUN` that waits for its check: command, point, channel; measurements under way -/
  injCmds : List (CmdRef × Nat × Nat)
  measures : List Measure
  deriving DecidableEq, Repr

/-! ### Energy, demand, balance, power quality (08) -/

/-- One sample's products on a phase, in sample codes: v·i, shifted v·i, v², i². -/
structure Prod where
  p  : Int
  q  : Int
  v2 : Int
  i2 : Int
  deriving DecidableEq, Repr, Inhabited

/-- One phase's quantities (Table 8-2) and the history they are formed from. -/
structure PhaseQ where
  /-- last cycle: Urms µV, Irms µA, P µW, Q µvar, S µVA; Urms(1/2) µV -/
  urms  : Nat
  irms  : Nat
  p     : Int
  q     : Int
  s     : Nat
  u12   : Nat
  /-- products of the last samples, newest first, and the running sums and count of the present cycle -/
  hist  : List Prod
  run   : Prod
  runN  : Nat
  /-- sum of squared currents since the last B-SEC, in codes (I²t), and the last second's I²t in µA²s -/
  i2run : Int
  i2t   : Nat
  /-- quadrant of the last sample, 0 to 3; below the starting limit (R230) -/
  quad  : Nat
  start : Bool
  deriving DecidableEq, Repr, Inhabited

/-- A voltage event in progress (R245): start MTIME and wall time, extreme in 0.1 % of UNOM, phases, TEST. -/
structure PqOpen where
  start : Nat
  wall  : Int
  ext   : Nat
  phases : Nat
  test  : Bool
  deriving DecidableEq, Repr, Inhabited

/-- One power-quality log entry (`CMD_NRG_PQ_READ`). -/
structure PqEntry where
  kind  : Nat
  point : Nat
  phases : Nat
  incomplete : Bool
  ext   : Nat
  start : Nat
  dur   : Nat
  wall  : Int
  deriving DecidableEq, Repr, Inhabited

/-- One point's quantities (Table 8-15). -/
structure PointQ where
  ph    : List PhaseQ
  inRms : Nat
  inRun : Int
  freq  : Nat
  /-- cycles and their duration in ns of each of the last 10 s, newest first -/
  cycs  : List (Nat × Nat)
  /-- cycles of the running harmonic window -/
  winCyc : Nat
  /-- direction 0 none, 1 import, 2 export (R232); its run in cycles; direction established before -/
  dir   : Nat
  dirRun : Nat
  estab : Nat
  forbid : Bool
  rev   : Nat
  sag   : Option PqOpen
  swell : Option PqOpen
  intr  : Option PqOpen
  deriving DecidableEq, Repr, Inhabited

/-- One recorded subinterval (R240): duration in ms and the import and export energies of the 13 points. -/
structure SubInt where
  dur  : Nat
  imp  : List Nat
  exp  : List Nat
  deriving DecidableEq, Repr, Inhabited

/-- Demand registers (R239–R242), carried by every commit. -/
structure Demand where
  seq     : Nat
  lastEnd : Nat
  nextEnd : Nat
  /-- MTIME at which the subinterval in progress began, and A_IMP, A_EXP of the 13 points then -/
  start   : Nat
  imp0    : List Nat
  exp0    : List Nat
  /-- newest first, at most DEMSUBS -/
  held    : List SubInt
  demImp  : List Nat
  demExp  : List Nat
  partial_ : Bool
  maxImp  : List Nat
  maxExp  : List Nat
  maxImpAt : List Nat
  maxExpAt : List Nat
  deriving DecidableEq, Repr, Inhabited

/-- One balance block (Table 8-8), terms in 2⁻³² mWh. -/
structure Block60 where
  site : Int
  gross : Int
  out  : Int
  aux  : Int
  pls  : Int
  dc   : Int
  cab  : Int
  deriving DecidableEq, Repr, Inhabited

/-- Balance states (Table 8-9, `NRG_BAL_STAT`). -/
inductive BalSt where
  | off | filling | running | mismatch | suspended
  deriving DecidableEq, Repr, Inhabited

/-- The energy balance (R248–R252). -/
structure Bal where
  st      : BalSt
  blocks  : List Block60
  members : Nat
  /-- a B-SEC has come since the start: the present block began at one -/
  live    : Bool
  /-- accumulators with fraction at the last B-SEC -/
  acc0    : List (List Nat)
  lsOn    : Nat
  /-- last evaluation, mWh -/
  eSite   : Int
  eOut    : Int
  eLoss   : Int
  d       : Int
  tol     : Nat
  eAux    : Int
  ePls    : Int
  eDc     : Int
  eCab    : Int
  evals   : Nat
  miss    : Nat
  first   : Nat
  /-- consecutive evaluations without mismatch, mismatched evaluations of the episode -/
  clean   : Nat
  episode : Nat
  deriving DecidableEq, Repr, Inhabited

/-- One pulse output (R243, R244). -/
structure Pulse where
  /-- energy not yet turned into impulses, 2⁻³² mWh -/
  acc     : Nat
  active  : Bool
  /-- samples of the rest after a pulse still to pass (Table 8-6 step 3) -/
  rest    : Nat
  backlog : Nat
  sat     : Bool
  cnt     : Nat
  /-- `EV086` raised for the present backlog -/
  warned  : Bool
  test    : Nat
  testCmd : Option CmdRef
  deriving DecidableEq, Repr, Inhabited

/-- Energy quantities, accumulation, power quality (08; `NRG` block R255). -/
structure Nrg where
  /-- 13 × 8 accumulators as 96-bit values: visible value × 2³² + hidden fraction (R231) -/
  accs    : List (List Nat)
  pq      : List PointQ
  dem     : Demand
  bal     : Bal
  pulse   : List Pulse
  pqLog   : List PqEntry
  sagCnt  : Nat
  swlCnt  : Nat
  intCnt  : Nat
  saveAt  : Nat
  voteCnt : Nat
  /-- accumulation closed at the power-fail warning's sample (Table 2-8 step 3) is never lost: T_pf -/
  tpf     : Nat
  deriving DecidableEq, Repr

/-! ### Tariffs, billing, Ingots, prepayment (09) -/

/-- One tariff's prices and INFO (R258). -/
structure Tariff where
  psite : Int
  pdimp : Int
  pdexp : Int
  info  : Nat
  deriving DecidableEq, Repr, Inhabited

/-- A tariff table: TSEQ and eight tariffs (R258). -/
structure TarTable where
  tseq : Nat
  t    : List Tariff
  deriving DecidableEq, Repr, Inhabited

/-- A tariff decided and not yet in force (R261): tariff, decision wall time, source 1 inputs, 2 calendar, 3 host,
4 plan. -/
structure TarPend where
  tariff : Nat
  wall   : Int
  source : Nat
  deriving DecidableEq, Repr, Inhabited

/-- An Ingot drafted at its closing boundary: TYPE, POINT, bytes 0 to 383 with ISEQ, FLAGS and PREV still open, and the
flags gathered so far (R271, R273, Table 9-6). -/
structure Draft where
  type   : Nat
  point  : Nat
  body   : List Byte
  flags  : Nat
  deriving DecidableEq, Repr, Inhabited

/-- A unit whose billing actions have been applied and whose commit is still to be written (R174, R273): GSEQ, t0, its
drafts, the commands of the billing queue that it completes (R263, R291), its owner, its DUE record, and the T_pf of the
power-fail record that has joined it as its last action (R271). -/
structure BilUnit where
  gseq   : Nat
  t0     : Nat
  drafts : List Draft
  cmds   : List CmdRef
  owner  : Nat
  due    : DueRec
  tpf    : Option Nat
  deriving DecidableEq, Repr, Inhabited

/-- A unit of the billing queue (R263): its actions, one entry each, its owner, its command and its GSEQ. -/
structure BilQ where
  acts   : List GAction
  owner  : Nat
  cmd    : Option CmdRef
  gseq   : Nat
  deriving DecidableEq, Repr, Inhabited

/-- Prepayment states (Table 9-10 PPSTATE). -/
inductive PpState where
  | connected | armed | disconnected | reconnectAllowed | failed
  deriving DecidableEq, Repr, Inhabited

/-- A token series window (R286): HIGH and the 64-bit map below it. -/
structure TokWin where
  high : Nat
  map  : Nat
  deriving DecidableEq, Repr, Inhabited

/-- Tariffs, billing, prepayment (09; `BIL` block). -/
structure Bil where
  table   : TarTable
  staged  : Option TarTable
  inForce : Nat
  pend    : Option TarPend
  /-- TSEL inputs as read, debounced code, and the MTIME of the last change of the raw code -/
  tselRaw : Nat
  tselCode : Nat
  tselAt  : Nat
  /-- tariff last decided from inputs or calendar, 0 none (R258); source of the last switch -/
  sel     : Nat
  lastSource : Nat
  /-- tariff registers: import and export of the eight tariffs, and the accumulators at their last update (R263) -/
  tregImp : List Nat
  tregExp : List Nat
  markImp : Nat
  markExp : Nat
  /-- the billing queue, oldest first; units held for want of room, in the order of their decision (R264) -/
  queue   : List BilQ
  heldUnits : List BilQ
  units   : List BilUnit
  pseq    : Nat
  perStart : Nat
  perWall : Int
  perLast : Int
  perAcc  : List Nat
  perDebit : Int
  perFlags : Nat
  ingots  : List (List Byte)
  iseq    : Nat
  prevHash : List Byte
  ackIseq : Nat
  /-- Ingots sealed since the last whole-module reset (`BIL_CNT_INGOT`) -/
  cntIngot : Nat
  /-- prepayment: credit, residue below 1 unit, emergency credit in use, friendly hours hold -/
  credit  : Int
  residue : Nat
  ecActive : Bool
  friendly : Bool
  capStop : Bool
  low     : Bool
  limit   : Bool
  pp      : PpState
  relayAct : Nat
  bypassAt : Option Nat
  /-- the service button is pressed since (20 R574) -/
  button  : Option Nat
  tokWin  : List TokWin
  slots   : List (Option (List Byte × CmdRef))
  tokCnt  : Nat
  tokRej  : Nat
  /-- a step forward has passed the next calendar boundary (R270) -/
  stepClose : Bool
  scroll  : Nat
  scrollAt : Nat
  /-- what the item shows, taken at its start (R288): its value for the LED matrix, its segments on the bistable display -/
  scrollVal : List Int
  scrollSeg : Option Nat
  /-- billing values and marks as written with the last unit or final commit (R267) -/
  saved   : BilVals
  /-- a local act that waits for `LOCK00` (Table 9-8): 0 none, 1 card, 2 button -/
  actDue  : Nat
  /-- commands whose units the final commit of a warning carries: their `OK` waits for recovery (02 R65) -/
  atPf : List (CmdRef × List Byte)
  deriving DecidableEq, Repr

/-! ### Outlets and vehicle handshake (10) -/

/-- Session states (Table 10-16 SSTATE). -/
inductive SState where
  | idle | open | authorised | active | stopping | sealing | parked | paused
  deriving DecidableEq, Repr, Inhabited

def SState.code : SState → Nat
  | .idle => 0 | .open => 1 | .authorised => 2 | .active => 3 | .stopping => 4 | .sealing => 5 | .parked => 6
  | .paused => 7

/-- The session of an outlet: the open one, or the last (Tables 10-16, 10-17, 9-5). -/
structure Session where
  st      : SState
  sesid   : Nat
  /-- 0 none, 1 basic PWM, 2 DIN SPEC 70121, 3 ISO 15118-2, 4 ISO 15118-20 -/
  proto   : Nat
  /-- how it was authorised, coded as `BIL_SESn_STAT.AUTH`; 0 not -/
  auth    : Nat
  service : Nat
  reason  : Nat
  tunnel  : Bool
  tls     : Bool
  /-- version of the session's TLS: 12 or 13, 0 without TLS (Table 10-10) -/
  tlsVer  : Nat
  fallback : Bool
  dynamic : Bool
  /-- wired LIMIT, subject, COST at which it stops (R276) -/
  limit   : Int
  subject : List Byte
  /-- MTIME of opening, authorisation, and of the last state change -/
  mtOpen  : Nat
  mtAuth  : Nat
  wallOpen : Int
  stAt    : Nat
  /-- accumulators of MPn at opening -/
  accOpen : List Nat
  /-- flags of the Ingot gathered so far (R271, Table 9-6) -/
  flags   : Nat
  /-- the tariff table of the session (R257) -/
  table   : TarTable
  /-- energies per tariff, import then export, with their marks (R267) -/
  tarImp  : List Nat
  tarExp  : List Nat
  markImp : Nat
  markExp : Nat
  cost    : Int
  /-- vehicle data (Table 10-17) -/
  soc     : Nat
  tsoc    : Nat
  tfull   : Nat
  upres   : Nat
  utgt    : Nat
  itgt    : Int
  ievse   : Int
  depart  : Nat
  eamount : Nat
  msgs    : Nat
  /-- vehicle's reported maximum current and voltage, discharge limits (R306) -/
  evImax  : Nat
  evUmax  : Nat
  evIdis  : Nat
  evPdis  : Nat
  /-- PMax in W of the schedule last sent (R317) -/
  schedP  : Option Int
  /-- the vehicle, or the host for it, has reported a maximum current -/
  limSet  : Bool
  /-- the vehicle reports a target current -/
  itgtSet : Bool
  /-- fluxgate self-test of the session passed (R374) -/
  rcmOk   : Bool
  /-- a message of the vehicle waits for an answer; MTIME from which the sequence timeout counts (R321) -/
  pending : Bool
  waitTimer : Nat
  /-- MTIME at which the waiting message began; the session's next request decides whether it continues (R323) -/
  reqAt   : Nat
  judged  : Bool
  /-- its Ingot has been drafted (09 R273) -/
  drafted : Bool
  /-- commands that wait for the session's end -/
  stopCmds : List CmdRef
  deriving DecidableEq, Repr, Inhabited

/-- A handover record (19 R547): the session with its billing marks, its TCP state (connection open, bytes waiting in both
directions), whether it was written at a message boundary and so holds protocol state, and the release that wrote it. -/
structure HandRec where
  ses     : Session
  tcpOpen : Bool
  rx      : List Byte
  tx      : List Byte
  proto   : Bool
  wrote   : List Word
  deriving DecidableEq, Repr, Inhabited

/-- SLAC state of an outlet (R310–R313). -/
structure Slac where
  /-- `OUT_SLACn.RESULT` -/
  result : Nat
  att    : Nat
  sounds : Nat
  runId  : Nat
  attSum : Nat
  mac    : Nat
  /-- MTIME from which SLACINIT or the 20 s of SessionSetup counts; second window; the 4 s in state F -/
  since  : Nat
  second : Bool
  waitF  : Bool
  setup  : Bool
  /-- network membership key of the match, a free value of the DRBG (R312) -/
  nmk    : Nat
  deriving DecidableEq, Repr, Inhabited

/-- What the module's last answer to the vehicle carries, where its message has the field (10 R295, R314, R316, R317, R320). -/
structure VAns where
  /-- TCP port of an SDP answer (R314); 0 none -/
  port    : Nat
  /-- EVSE ID (R295) -/
  evseId  : List Byte
  /-- meter reading in Wh: A_IMP of MPn (Table 10-8) -/
  meter   : Option Nat
  /-- energy services offered: 1 AC, 2 DC, 3 AC_BPT, 4 DC_BPT (R316) -/
  services : List Nat
  /-- EVSE maximum current, 0.1 A (R317) -/
  imax    : Option Int
  /-- PMax or target active power in W (R317) -/
  power   : Option Int
  /-- a schedule renegotiation is asked for (R317) -/
  reneg   : Bool
  /-- isolation status of a cable check: 1 Valid, 2 Warning, 3 Fault, 4 Invalid (12 Table 12-7) -/
  iso     : Option Nat
  /-- the host's EXI body (R320) -/
  body    : List Byte
  deriving DecidableEq, Repr, Inhabited

/-- One outlet: pilot, proximity, session, links (10). -/
structure Outlet where
  /-- `OUT_CPn` STATE and GEN, duty in ‰, diode fault -/
  cp      : Nat
  gen     : Nat
  duty    : Nat
  diode   : Bool
  high    : Int
  low     : Int
  /-- `OUT_PPn`: resistance in Ω as accepted, 0xFFFF open; the coded rating in force is computed from it -/
  res     : Nat
  /-- import and export limit in force (R306) -/
  limImp  : Nat
  limExp  : Nat
  ses     : Session
  slac    : Slac
  /-- a vehicle waits for an offer; sessions refused by a rail fault are seen from `pwr` -/
  modemLost : Bool
  modemAt : Nat
  /-- `OUT_ERRn` RESP and CAUSE; `OUT_FAULTn` -/
  errResp : Nat
  errCause : Nat
  fault   : Nat
  cntS    : Nat
  cntE    : Nat
  trim    : Nat
  /-- tunnel (R325): connection open, closed by the vehicle, bytes waiting for the host, bytes in the send buffer -/
  tunOpen : Bool
  tunClosed : Bool
  tunRx   : List Byte
  tunTx   : List Byte
  tunArmed : Bool
  /-- a certificate request waits for the host since (R320) -/
  certAt  : Option Nat
  certUpd : Bool
  /-- last answer sent to the vehicle: a code of `V2gAns` in the meaning's file -/
  lastAns : Nat
  ans     : VAns
  /-- service-state change that waits for the session's Ingot, and its command (Table 3-6) -/
  outReq  : Option CmdRef
  outDue  : Bool
  /-- bypass on waits for B-CYC (R617) -/
  bypCmd  : Option CmdRef
  /-- pilot test in COMMISSION (R328) -/
  pilotTest : Bool
  /-- handover record of an activation under way (19 R547) -/
  hand    : Option HandRec
  deriving DecidableEq, Repr, Inhabited

/-- Outlets and vehicle handshake (10; `OUT` block R329). -/
structure OutBlk where
  o       : List Outlet
  /-- last SESID issued -/
  sesseq  : Nat
  exiErr  : Nat
  exiMsg  : Nat
  hs      : Nat
  cntSession : Nat
  cntFail : Nat
  deriving DecidableEq, Repr

/-! ### Allocation and switching (11) -/

/-- What a coil driver does (Table 11-18 STATE). -/
inductive Coil where
  | off | pullIn | hold | releasing
  deriving DecidableEq, Repr, Inhabited

/-- One coil driver with its feedback (R344–R351, Table 11-18). -/
structure Driver where
  coil    : Coil
  /-- FBk accepted closed; latest sample -/
  fb      : Bool
  rawFb   : Bool
  /-- the commanded state has been confirmed by FB since the command (Table 11-6) -/
  confirmed : Bool
  fcause  : Nat
  refuse  : Nat
  tClose  : Nat
  tOpen   : Nat
  cnt     : Nat
  loaded  : Bool
  seen    : Nat
  /-- MTIME of the last energising or release -/
  at_     : Nat
  /-- an open waits for the current to fall below 1 A, since this MTIME (Table 11-5 step 1) -/
  opening : Option Nat
  /-- SELFTEST step 3 found FBk closed: not energised until a later SELFTEST passes (R86) -/
  barred  : Bool
  /-- a contactor test has passed since the fault latched (R351) -/
  tested  : Bool
  /-- closes since manufacture as last saved (Table 11-18) -/
  saved   : Nat
  deriving DecidableEq, Repr, Inhabited

/-- Setpoint in force of one outlet and its allocation state (Table 11-17). -/
structure AlcOutlet where
  setpt   : Int
  ph      : Nat
  /-- 0 idle, 1 plan, 2 group, 3 held, 4 Anvil stop -/
  src     : Nat
  /-- AC setpoints of the last LAG ticks, newest first (R163) -/
  past    : List Int
  impTgt  : Nat
  expTgt  : Nat
  heldOff : Bool
  /-- step of Table 11-7 under way, 0 none; last step failed; MTIME the step began; the host tunnels it -/
  dcStep  : Nat
  dcFail  : Bool
  dcAt    : Nat
  dcCmd   : Option CmdRef
  /-- the pre-close weld check of the session passed; PowerDelivery started (step 6) -/
  weldOk  : Bool
  /-- precharge passed (step 5) -/
  preOk   : Bool
  delivering : Bool
  /-- CDn has been granted in this session (R343) -/
  closedSes : Bool
  /-- signalled current and the MTIME it was last lowered (R342) -/
  sig     : Nat
  sigLow  : Nat
  imax    : Nat
  /-- step of the ramp of a controlled stop: setpoint at its start (Table 2-6 step 2) -/
  rampFrom : Int
  /-- power-module ENABLE granted (R359) -/
  enable  : Bool
  /-- cycles of MPn since FBn was accepted closed, while the voltages of Table 11-4 step 4 are awaited -/
  vcheck  : Option Nat
  deriving DecidableEq, Repr, Inhabited

inductive Cabinet where
  | off | precharge | on | fault
  deriving DecidableEq, Repr, Inhabited

/-- A power module on a link (Table 11-11). -/
structure PmNode where
  node    : Nat
  status  : List Byte
  statusAt : Nat
  ident   : List Byte
  present : Bool
  seq     : Nat
  deriving DecidableEq, Repr, Inhabited

/-- One CAN link (R356, Table 11-19): state, error counts, nodes heard, counters, the last frames sent. -/
structure CanLink where
  state   : Nat
  tec     : Nat
  recv    : Nat
  nodes   : List PmNode
  busOff  : Nat
  lost    : Nat
  alive   : Nat
  /-- frames of the last tick, oldest first: identifier and data -/
  tx      : List (Nat × List Byte)
  /-- `CMD_ALC_PM_READ` that waits for IDENT: command, node -/
  identCmd : Option (CmdRef × Nat)
  /-- CANj_STB is driven low; high impedance otherwise (20 R570) -/
  stb     : Bool
  deriving DecidableEq, Repr, Inhabited

/-- A limit's four fields (R331): site import, site export, phase import, phase export; 0xFFFF none. -/
structure Limit4 where
  si : Nat
  se : Nat
  pi : Nat
  pe : Nat
  deriving DecidableEq, Repr, Inhabited

/-- A contactor test under way (R363). -/
structure CdTest where
  driver : Nat
  hold   : Nat
  cmd    : CmdRef
  /-- 0 closing, 1 held, 2 opening -/
  phase  : Nat
  deriving DecidableEq, Repr, Inhabited

/-- Allocation and switching (11; `ALC` block R366). -/
structure Alc where
  host    : Limit4
  util    : Limit4
  utilExp : Nat
  /-- caps in force at the last tick (R332): site import, export, phase imports, phase exports -/
  capSI   : Nat
  capSE   : Nat
  capPI   : List Nat
  capPE   : List Nat
  /-- why the caps last changed, for `EV148`: 1 configuration, 2 host, 3 utility, 4 expiry -/
  capWhy  : Nat
  outlets : List AlcOutlet
  drivers : List Driver
  cabinet : Cabinet
  cabAt   : Nat
  rpermit : Bool
  /-- RPERMIT fell while CD13 was closed: Anvil releases CD13 at the next tick (R355) -/
  rpDrop  : Bool
  links   : List CanLink
  test    : Option CdTest
  /-- a trigger of R338 waits for `PLANNER_COMPILE` -/
  replan  : Bool
  cntRefuse : Nat
  cntOverdraw : Nat
  deriving DecidableEq, Repr

/-! ### Residual current and insulation (12) -/

/-- A fluxgate self-test or test injection under way on an outlet (R374, R375, Table 12-10). -/
inductive RcmRun where
  | no
  /-- the self-test of the session: first or second attempt -/
  | session (second : Bool)
  /-- the retry waits for 1 s, since this MTIME -/
  | retryWait (since : Nat)
  /-- the self-test of `CMD_RCM_SELFTEST` -/
  | command (r : CmdRef)
  /-- the self-test that `CMD_RCM_FAULT_RESET` runs -/
  | reset (r : CmdRef)
  /-- `CMD_RCM_TEST_INJECT`: command, `ASY_SAMPLE_CNT` at its start, DURATION -/
  | inject (r : CmdRef) (at_ dur : Nat)
  deriving DecidableEq, Repr, Inhabited

/-- One outlet's residual-current and insulation protection (Table 12-12). -/
structure RcmOutlet where
  tdcl    : Nat
  tdcm    : Nat
  tdch    : Nat
  tac     : Nat
  turns   : Nat
  linkFault : Bool
  /-- latched cause 1 to 8, 0 none -/
  cause   : Nat
  /-- cause 8 is latched, be it beside an earlier cause -/
  insLatch : Bool
  seen    : Nat
  run     : RcmRun
  result  : Nat
  /-- offset in use, 0.01 mA -/
  offset  : Int
  /-- samples less offset, 0.01 mA, newest first, at most 1,000 (R368) -/
  hist    : List Int
  /-- samples in a row for which each detector 1 to 5 has been at or beyond its threshold -/
  persist : List Nat
  /-- MTIME of the last sample with DC(5T) or AC at or above half its threshold (R382) -/
  loudAt  : Option Nat
  /-- insulation: 1 unknown, 2 normal, 3 warning, 4 fault -/
  ins     : Nat
  /-- last injection result in Ω with its MTIME -/
  riso    : Option (Nat × Nat)
  /-- consecutive injection measurements below INSFAULT; consecutive asymmetry readings below it -/
  below   : Nat
  asym    : Nat
  warn    : Bool
  /-- injection result of the cable check under way, and an asymmetry fault in it -/
  cableOhm : Option Nat
  cableAsym : Bool
  /-- UCHK of the cable check under way, V -/
  uchk    : Nat
  deriving DecidableEq, Repr, Inhabited

/-- A request waiting for an injector (R378): outlet, and use 2 cable check, 3 command or fault reset. -/
structure InsReq where
  use    : Nat
  outlet : Nat
  cmd    : Option CmdRef
  deriving DecidableEq, Repr, Inhabited

/-- One insulation injector (Table 12-11): what it measures now, its queue, the outlet last measured in the round. -/
structure Injector where
  cur     : Option InsReq
  queue   : List InsReq
  time    : Nat
  fault   : Bool
  last    : Nat
  deriving DecidableEq, Repr, Inhabited

/-- Residual current and insulation (12; `RCM` block R387). -/
structure Rcm where
  o       : List RcmOutlet
  inj     : List Injector
  lastValue : Nat
  lastCause : Nat
  lastOutlet : Nat
  lastAt  : Nat
  /-- counters TRIP, LINK, STFAIL, INSWARN, INSFAULT, CABLE, CABLEFAIL, RESET -/
  cnt     : List Nat
  deriving DecidableEq, Repr

/-! ### Machine safety (13) -/

/-- One safety input (Table 13-10): raw and filtered channel values, latched causes per channel, and the steps of the
clearing of R393. -/
structure SafIn where
  rawA   : Bool
  rawB   : Bool
  fA     : Bool
  fB     : Bool
  faultA : Bool
  faultB : Bool
  fcause : Nat
  /-- both channels have been in the demanding state together since the fault (R393) -/
  relSeen : Bool
  /-- MTIME at which the input became healthy -/
  since  : Nat
  /-- MTIME at which the filtered channels came to disagree (R392) -/
  diffAt : Nat
  /-- missed own pulses and foreign pulses in a row, channel A then B (R391) -/
  missA  : Nat
  missB  : Nat
  crossA : Nat
  crossB : Nat
  deriving DecidableEq, Repr, Inhabited

/-- Function states (Table 13-3, `SAF_FNf_STAT.STATE`). -/
inductive FnState where
  | unused | satisfied | demand | waitReset | fault
  deriving DecidableEq, Repr, Inhabited

def FnState.code : FnState → Nat
  | .unused => 0 | .satisfied => 1 | .demand => 2 | .waitReset => 3 | .fault => 4

/-- One safety function (R395–R399). -/
structure SafFn where
  st     : FnState
  at_    : Nat
  masked : Bool
  /-- TWOHAND: actuated; both inputs have been demanding together since; MTIME of the first healthy input (R397) -/
  act    : Bool
  bothRel : Bool
  firstAt : Option Nat
  /-- EDM fault of the pair, as this function sees it (R395) -/
  edm    : Bool
  /-- demand test under way: it holds the demand -/
  test   : Option CmdRef
  /-- MTIME at which the demand test ends -/
  testEnd : Nat
  deriving DecidableEq, Repr, Inhabited

/-- One entry of Anvil's safety log (R373, R393): MTIME, kind, index, detail. -/
structure SafLog where
  mtime  : Nat
  kind   : Nat
  index  : Nat
  detail : Nat
  deriving DecidableEq, Repr, Inhabited

/-- Machine safety (13; `SAF` block R410). -/
structure Saf where
  /-- parameter set applied, staged (grown with zeros) with its owner; state 0 factory, 1 COMMITTED, 2 CONFIRMED -/
  pset   : List Byte
  stage  : Option (Nat × List Byte)
  pstate : Nat
  /-- the two copies in MRAM with the state each holds, and which of them was written last (R403) -/
  copies : List (Option (List Byte × Nat))
  newest : Nat
  ins    : List SafIn
  fns    : List SafFn
  /-- enable pairs on; readback faults per TPO (bit k − 1); pulses in a row read back wrong, per TPO -/
  pairs  : Nat
  tpoFault : Nat
  tpoMiss : List Nat
  /-- MTIME at which each enable pair last switched -/
  pairAt : List Nat
  /-- override 3 and session stops wait for the next B-TICK: outlets whose demand began -/
  cntDemand : Nat
  cntFault : Nat
  lastDetail : Nat
  lastIndex : Nat
  lastType : Nat
  lastAt : Nat
  /-- Anvil's safety log, newest first -/
  log    : List SafLog
  deriving DecidableEq, Repr

/-! ### Crucible (14) -/

/-- One key slot: attribute word (Table 14-3, 0 when empty) and what identifies its key: the public or injected key's
bytes, or the number of a generated key. -/
structure KeySlot where
  attr : Nat
  key  : List Byte
  deriving DecidableEq, Repr, Inhabited

/-- An installed expert grant (R426, R427). -/
structure Grant where
  id     : Nat
  serial : Nat
  expiry : Nat
  keysel : Nat
  holder : List Byte
  deriving DecidableEq, Repr, Inhabited

/-- One tamper-log entry (`CMD_SEC_TAMPER_READ`). -/
structure TamperEntry where
  source : Nat
  cls    : Nat
  detail : Nat
  test   : Bool
  mtime  : Nat
  wall   : Int
  deriving DecidableEq, Repr, Inhabited

/-- One magnetic sensor (`SEC_MAGm`); MTIME since which its field is at or above MAGTH; its event has been counted. -/
structure MagSensor where
  field : Nat
  ovr   : Bool
  valid : Bool
  since : Nat
  out   : Bool
  deriving DecidableEq, Repr, Inhabited

/-- Crucible (14; `SEC` block R442). -/
structure Cru where
  slots   : List KeySlot
  grant   : Option Grant
  /-- tamper: TMPk raw and out of normal (bit k − 1), sensors, mesh, ALARM, zeroising under way, counters of class 1 to 3 -/
  tmpRaw  : Nat
  tmpOpen : Nat
  mags    : List MagSensor
  mesh    : Bool
  alarm   : Bool
  zpend   : Bool
  tamCnt  : List Nat
  /-- tamper log, newest first, at most 64 -/
  tamLog  : List TamperEntry
  /-- supply glitch, clock glitch, balance and relay sources out of their normal state (bit code) -/
  tamOut  : Nat
  /-- ZEROISE record of Anvil's safety log: 0 none, 1 PENDING, 2 DONE (R431, R432); its source; the command to answer -/
  zrec    : Nat
  zsource : Nat
  zcmd    : Option CmdRef
  /-- provisioning (R422): items present (bit i), SITE_ID, TAMPER_CFG, trust anchors (class × 4 + index), chains by slot -/
  items   : Nat
  siteId  : List Byte
  tamperCfg : List Byte
  anchors : List (Nat × List Byte)
  chains  : List (Nat × List Byte)
  /-- `SEC_EVAL_CAUSE` and the conditions of bits 1, 3 and 5 (Table 14-10) -/
  evalCause : Nat
  dbgOpened : Bool
  canRaw  : Bool
  blobFail : Bool
  /-- debug port: STATE, DENIED, an attempt since it closed (source 15), cores halted (R435, R436) -/
  dbgState : Nat
  denied  : Nat
  attempt : Bool
  halted  : Nat
  /-- DRBG (R420) -/
  drbgOk  : Bool
  drbgFails : Nat
  drbgFailKind : Nat
  drbgAt  : Nat
  drbgFailAt : Nat
  maskCnt : Nat
  hallCnt : Nat
  engCnt  : List Nat
  /-- engine that each requester of the queue arbiter asks for; per engine the requesters of the operation that runs and of
  those in its queue, first in first out (R419) -/
  engAsk  : List Nat
  engRun  : List (Option Nat)
  engQ    : List (List Nat)
  keyFailCnt : Nat
  keyFailSlot : Nat
  /-- a TLS session runs on ETH1, ETH2 (R437) -/
  tls     : List Bool
  deriving DecidableEq, Repr

/-! ### Contactless reader and service tag (15) -/

/-- One antenna (Table 15-14) with what `CMD_CLS_ANT_ASSIGN` changed; polls in a row out of its current window. -/
structure Ant where
  held    : Bool
  engine  : Nat
  outmask : Nat
  fault   : Nat
  bad     : Nat
  icoil   : Nat
  reads   : Nat
  errors  : Nat
  present : Bool
  /-- UID of the card last found -/
  uid     : List Byte
  deriving DecidableEq, Repr, Inhabited

/-- One reader engine (Table 15-14). -/
structure RdrEng where
  round : Nat
  cnt   : Nat
  roundAt : Nat
  deriving DecidableEq, Repr, Inhabited

/-- A field test under way (`CMD_CLS_FIELD_TEST`). -/
structure FieldTest where
  ant   : Nat
  field : Nat
  /-- MTIME of its end -/
  ends  : Nat
  cmd   : CmdRef
  deriving DecidableEq, Repr, Inhabited

/-- A UID whose use has been decided, with the MTIME at which it was last present at an antenna (R450). -/
structure Decided where
  uid  : List Byte
  seen : Nat
  deriving DecidableEq, Repr, Inhabited

/-- A card held for host APDUs (R453): its antenna, the outlet and the MTIME of the forwarding. -/
structure CardHold where
  ant    : Nat
  outlet : Nat
  since  : Nat
  deriving DecidableEq, Repr, Inhabited

/-- Contactless readers (15; `CLS` block R465). -/
structure Cls where
  ants    : List Ant
  engs    : List RdrEng
  /-- `CLS_CARD_W0`–`W27` -/
  card    : List Word
  /-- whitelist entries of 24 bytes (Table 15-5b), GEN -/
  wl      : List (List Byte)
  gen     : Nat
  /-- counters READ, REFUSE, AUTHFAIL, DUP, MULTI, LOCAL -/
  cnt     : List Nat
  decided : List Decided
  hold    : Option CardHold
  test    : Option FieldTest
  deriving DecidableEq, Repr

/-- The pending RF write (Table 15-9): block, CC, data, step reached. -/
structure RfWrite where
  block : Nat
  cc    : Nat
  data  : List Byte
  step  : Nat
  deriving DecidableEq, Repr, Inhabited

/-- A commit record of the tag (R459, R460): STATE 0 empty, 1 COMMITTED, 2 APPLIED; SEQ; first block and count; CC; CRC
of the data. -/
structure TagRec where
  state : Nat
  seq   : Nat
  block : Nat
  count : Nat
  cc    : Nat
  crc   : Nat
  deriving DecidableEq, Repr, Inhabited

/-- The service tag's state apart from its memory (15; Table 15-15). -/
structure Tag where
  /-- 0 off, 1 IDLE, 2 READY, 3 ACTIVE, 4 HALT; RATS received -/
  st      : Nat
  rats    : Bool
  uid     : List Byte
  session : Bool
  tool    : Nat
  ssc     : Nat
  rndT    : List Byte
  rndG    : List Byte
  /-- AUTH1 accepted from this TOOLID and AUTH2 awaited; AUTH1 refused for 1 s -/
  auth1   : Option Nat
  blocked : Bool
  blockedAt : Nat
  /-- block 3: the tag key, LASTCC, TOOLMIN -/
  key     : Option (List Byte)
  lastCC  : Nat
  toolMin : Nat
  rfrec   : TagRec
  wrec    : TagRec
  pend    : Option RfWrite
  /-- HOST blocks locked, bit j for block 128 + j -/
  locks   : Nat
  field   : Bool
  vh      : Nat
  port    : Bool
  rfCnt   : Nat
  wrRf    : Nat
  wrWired : Nat
  colCnt  : Nat
  colStep : Nat
  wiredBlock : Nat
  wiredRes : Nat
  busyCnt : Nat
  authFail : Nat
  rollFwd : Nat
  eccCnt  : Nat
  /-- blocks with an uncorrectable word and no shadow (21 Table 21-3), until they are written -/
  bad     : List Nat
  /-- last answer over RF: data and status word -/
  tx      : List Byte
  /-- writes of this command to the tag memory, in order: byte address and data -/
  out     : List (Nat × List Byte)
  deriving DecidableEq, Repr

/-! ### Mains link (16) -/

/-- A frame waiting to be sent or to be acknowledged: bytes, packing class 1 to 5 (R479), repeats made, MTIME sent. -/
structure TxFrame where
  raw   : List Byte
  cls   : Nat
  tries : Nat
  sentAt : Nat
  deriving DecidableEq, Repr, Inhabited

/-- A receive window of a head-end (R486): address (0 unused), HIGH, 64-bit map, order of last use. -/
structure HeadWin where
  addr : Nat
  high : Nat
  map  : Nat
  used : Nat
  deriving DecidableEq, Repr, Inhabited

/-- A frame for the host (`CMD_MLK_RX_READ`). -/
structure HostFrame where
  mtime : Nat
  pct   : Nat
  raw   : List Byte
  deriving DecidableEq, Repr, Inhabited

/-- One coupling (`MLK_CPc_STAT`). -/
structure Coupling where
  fault : Bool
  bad   : Nat
  itx   : Nat
  noise : Nat
  snr   : Int
  erase : Nat
  deriving DecidableEq, Repr, Inhabited

/-- A symbol of the block being received, after combining (R469, R472): its dibit, the soft value as a fraction, erased. -/
structure RxSym where
  dibit   : Nat
  softNum : Nat
  softDen : Nat
  erased  : Bool
  deriving DecidableEq, Repr, Inhabited

/-- Mains link (16; `MLK` block R490). -/
structure Mlk where
  /-- 0 off, 1 listening, 2 receiving, 3 deferring, 4 transmitting -/
  st      : Nat
  lock    : Bool
  ph      : Nat
  /-- the reference phase is chosen: REFPH names it, or a preamble has been decoded on it -/
  found   : Bool
  /-- MTIME from which the phase search or the lost lock counts (R468) -/
  searchAt : Nat
  /-- section 0x000B in force until the end of the block in progress (R487) -/
  cfg     : List Byte
  bseqRx  : Nat
  bseqTx  : Nat
  fcntTx  : Nat
  txq     : List TxFrame
  /-- last 8 blocks sent: BSEQ and frames, newest first; frames that wait for an ACK -/
  sent    : List (Nat × List TxFrame)
  await   : List TxFrame
  hostq   : List HostFrame
  heads   : List HeadWin
  useCnt  : Nat
  /-- clear windows heard, windows of the drawn wait left (none: not drawn), windows deferred, `EV227` raised -/
  clear   : Nat
  wait    : Option Nat
  defer   : Nat
  warned  : Bool
  /-- windows of the block in progress, frames of the block being sent -/
  win     : Nat
  out     : List TxFrame
  /-- data windows received of the block in progress, oldest first, 16 symbols each (R470) -/
  rx      : List (List RxSym)
  /-- the 1,024 bytes of the block being sent (Table 16-2), the 16 tones driven in the last window sent (R466) -/
  blk     : List Byte
  burst   : List Nat
  /-- repeat requests sent for the last failed block -/
  rqFor   : Nat
  rqCnt   : Nat
  cnt     : List Nat
  lastType : Nat
  lastPct : Nat
  lastSrc : Nat
  lastAt  : Nat
  tstep   : Int
  tones   : List Nat
  emap    : List Nat
  cps     : List Coupling
  statAt  : Nat
  /-- `CMD_MLK_TX_TEST`: coupling, tone, MTIME of its end, command -/
  test    : Option (Nat × Nat × Nat × CmdRef)
  deriving DecidableEq, Repr

/-! ### Displays (17) -/

/-- Uniformity map of one slot (R497). -/
structure UniMap where
  loaded : Bool
  valid  : Bool
  crc    : Nat
  data   : List Byte
  deriving DecidableEq, Repr, Inhabited

/-- One row of the matrix: latch, overcurrent in the last frame, consecutive frames with it, peak current (R502). -/
structure LedRow where
  latch : Bool
  oc    : Bool
  run   : Nat
  peak  : Nat
  deriving DecidableEq, Repr, Inhabited

/-- A matrix or bistable test under way (`CMD_DIS_TEST`). -/
structure DisTest where
  op    : Nat
  level : Nat
  /-- MTIME of its end -/
  ends  : Nat
  cmd   : CmdRef
  deriving DecidableEq, Repr, Inhabited

/-- The bistable display with its update journal (R503–R511). -/
structure Bsd where
  /-- `DIS_BSD_STAT.STATE` and the segment being driven, 63 none -/
  st     : Nat
  seg    : Nat
  useq   : Nat
  wcnt   : Nat
  target : Nat
  open_  : Bool
  refr   : Bool
  done   : Nat
  /-- the two copies of the journal record (Table 17-5), empty where never written; the one written last -/
  copies : List (List Byte)
  newest : Nat
  /-- image driven, faults, per segment drives and last drive current -/
  image  : Nat
  fault  : Nat
  drives : List Nat
  ipeak  : List Nat
  faults : Nat
  updates : Nat
  item   : Nat
  arg    : Nat
  /-- target that arrived during an update (R507); the running drive is a repeat (R510); a re-drive is owed or under way;
      every segment not in DONE is driven; test phase -/
  next   : Option Nat
  again  : Bool
  redrive : Bool
  full   : Bool
  testPh : Nat
  deriving DecidableEq, Repr, Inhabited

/-- Displays (17; `DIS` block R515). -/
structure Dis where
  /-- 0 off, 1 starting, 2 lit, 3 blank; blanking cause; the start begins at step 4 of Table 17-2 -/
  mstate  : Nat
  bcause  : Nat
  short   : Bool
  gain    : Nat
  glive   : Nat
  /-- frames of the gain ramp left -/
  ramp    : Nat
  frameCnt : Nat
  /-- host frame in force and pending; host supplies frames at this B-FRM -/
  frame   : List Byte
  pending : Option (List Byte)
  hostSrc : Bool
  replaced : Nat
  applied : Nat
  /-- waiting cues, oldest first: target and cue; the cue shown; dropped -/
  cues    : List (Nat × Nat)
  shown   : Option (Nat × Nat)
  shownAt : Nat
  dropped : Nat
  colOpen : Nat
  colShort : Nat
  openRun : List Nat
  shortRun : List Nat
  rows    : List LedRow
  cntCol  : Nat
  cntOc   : Nat
  cntBlank : Nat
  iavg    : Nat
  vled    : Nat
  maps    : List UniMap
  band    : Nat
  bandSet : Bool
  temp    : Int
  /-- map in force and decided map, 15 none; the bytes in force -/
  map     : Nat
  mapNext : Nat
  mapData : List Byte
  /-- what the column sinks do in the frame in force, by pixel index: on-clocks N and current in µA (R493); none while blank -/
  sinks   : List (Nat × Nat)
  test    : Option DisTest
  bsd     : Bsd
  deriving DecidableEq, Repr

/-! ### Load switches (18) -/

/-- Channel states (Table 18-4). -/
inductive LsSt where
  | off | inrush | on | wait | lockout | suspended
  deriving DecidableEq, Repr, Inhabited

def LsSt.code : LsSt → Nat
  | .off => 0 | .inrush => 1 | .on => 2 | .wait => 3 | .lockout => 4 | .suspended => 5

/-- One channel (Table 18-10). -/
structure LsChan where
  st      : LsSt
  held    : LsSt
  req     : Bool
  latch   : Bool
  tripped : Bool
  cause   : Nat
  rcnt    : Nat
  /-- profile record in use since the last start -/
  prof    : List Byte
  /-- MTIME of the latest start, of the latest trip, of entry to ON without a trip, of the suspension, of the thermal latch;
      RWAIT has passed since the trip -/
  startAt : Nat
  tripAt  : Nat
  latchAt : Nat
  onAt    : Nat
  suspAt  : Nat
  waited  : Bool
  /-- REQ when the channel was suspended -/
  reqHeld : Bool
  seen    : Nat
  trips   : Nat
  starts  : Nat
  pgen    : Nat
  duty    : Nat
  phase   : Nat
  /-- diagnostic pulses failed in a row; causes 4 to 7 present (bit c) -/
  diagFail : Nat
  flags   : Nat
  /-- was in INRUSH or ON at some sample of the balance block (R528) -/
  wasOn   : Bool
  ipeak   : Nat
  imean   : Nat
  tj      : Int
  deriving DecidableEq, Repr, Inhabited

/-- A test under way (`CMD_LSW_TEST`): OP, DURATION, cause of a trip during it. -/
structure LsTest where
  ch    : Nat
  op    : Nat
  /-- MTIME of its end -/
  ends  : Nat
  cause : Nat
  cmd   : CmdRef
  deriving DecidableEq, Repr, Inhabited

/-- Load switches (18; `LSW` block R532). -/
structure Lsw where
  ch      : List LsChan
  /-- PG1 to PG4: frequency in force, periods counted up to an MTIME, that MTIME -/
  freq    : List Nat
  pgCnt   : List Nat
  pgAt    : List Nat
  /-- user profiles 6 to 9, empty where not loaded -/
  user    : List (List Byte)
  cntTrip : Nat
  cntRetry : Nat
  cntLock : Nat
  cntDiag : Nat
  /-- highest sum of channel currents in the last second, mA -/
  itPeak  : Nat
  lastEnt : Nat
  /-- schedules: first B-SEC of a running mode done since reset; last local minute seen; type 2 and 3 conditions (bit j);
      last B-SEC's MTIME at which an outlet of entry j was ACTIVE; requests waiting for the next B-TICK (R526) -/
  schedInit : Bool
  lastMin : Option Nat
  cond    : Nat
  idleAt  : List Nat
  due     : List (Nat × Bool)
  test    : Option LsTest
  deriving DecidableEq, Repr

/-! ### Update (19) -/

/-- Session states (Table 19-4, `UPD_STAT.STATE`). -/
inductive UpdSt where
  | idle | header | erasing | receiving | verifying | staged | scheduled | activating
  deriving DecidableEq, Repr, Inhabited

def UpdSt.code : UpdSt → Nat
  | .idle => 0 | .header => 1 | .erasing => 2 | .receiving => 3 | .verifying => 4 | .staged => 5 | .scheduled => 6
  | .activating => 7

/-- A part of the staged release (`UPD_PVERn`, `UPD_PSTATn`) with its full SHA-512. -/
structure UpdPart where
  ver     : Word
  hash    : List Byte
  carried : Bool
  verified : Bool
  changed : Bool
  integ   : Bool
  deriving DecidableEq, Repr, Inhabited

/-- Where an activation stands (Table 19-5, R551). -/
inductive ActStep where
  | no
  /-- hitless: the new release boots since the MTIME t_h -/
  | trial (th : Nat)
  /-- stopping: controlled stop, then SELFTEST on the trial bank -/
  | stopping
  | trialStop
  deriving DecidableEq, Repr, Inhabited

/-- Firmware update (19; `UPD` block R555). -/
structure Upd where
  st      : UpdSt
  transport : Nat
  updid   : Nat
  header  : List Byte
  /-- pieces 0 to 2 as received over the mains link before the header passes (R541) -/
  head    : List (Nat × List Byte)
  /-- units received: number and bytes (192 or 4,096), newest first; first halves of blocks (R543) -/
  units   : List (Nat × List Byte)
  halves  : List ((Nat × Nat) × List Byte)
  /-- UNITS of the session -/
  total   : Nat
  vfail   : Nat
  reason  : Nat
  /-- schedule: wall time and window in minutes -/
  sched   : Option (Int × Nat)
  outcome : Nat
  check   : Nat
  failPart : Nat
  assayCnt : Nat
  rollFuse : Nat
  /-- ROLLBACK of the committed bank record (R537) -/
  rollRec : Nat
  act     : ActStep
  /-- the release of the active bank: `SYS_VERn`, SHA-512 of each part, parts from a KEYSEL 1 header (bit n) -/
  ver     : List Word
  hash    : List (List Byte)
  integ   : Nat
  parts   : List UpdPart
  gpmPend : Nat
  gpmFail : Nat
  gpmLoad : Nat
  /-- `CMD_UPD_OPEN` or `CMD_UPD_FINISH` that waits -/
  cmd     : Option CmdRef
  /-- counters PIECE, DUP, REJECT, ACT, REVERT, VERIFY -/
  cnt     : List Nat
  deriving DecidableEq, Repr

/-! ### External links (20) -/

/-- A TCP connection (R564): its number, the Ethernet port it came on, the client's address, the service: 0 mailbox,
1 Modbus gateway, 2 + k − 1 bridge of UARTk. -/
structure TcpConn where
  id     : Nat
  port   : Nat
  client : Nat
  service : Nat
  deriving DecidableEq, Repr, Inhabited

/-- A Modbus request under way or waiting (R567): connection, MBAP transaction, unit, PDU. -/
structure MbReq where
  conn : Nat
  tid  : Nat
  unit : Nat
  pdu  : List Byte
  deriving DecidableEq, Repr, Inhabited

/-- One serial link: BUS1 to BUS6, then UART1 to UART4: the Modbus transaction under way and its queue, the bytes last
sent on the line, bytes lost. -/
structure Serial where
  cur   : Option MbReq
  queue : List MbReq
  tx    : List Byte
  lost  : Nat
  /-- MTIME at which the response to the request under way is overdue: TIMEOUT after its last stop bit (R567) -/
  due   : Nat
  deriving DecidableEq, Repr, Inhabited

/-- One learned MAC address (R563): address, port 1 or 2, MTIME last seen. -/
structure MacEntry where
  mac  : Nat
  port : Nat
  seen : Nat
  deriving DecidableEq, Repr, Inhabited

/-- External links (20). -/
structure Lnk where
  /-- ETH_RST_N released (R562); PHY reported link per port; the switch is stopped since a power-fail warning -/
  phyRst  : Bool
  /-- MTIME at which ETH_RST_N is due to be released: 10 ms after step 1 (R562) -/
  phyAt   : Nat
  linkUp  : List Bool
  /-- the port is wired to another device's SGMII port (R563) -/
  direct  : List Bool
  stopped : Bool
  macs    : List MacEntry
  /-- where the last frame went: bit 1 ETH1, bit 2 ETH2, bit 0 the module; its bytes -/
  fwdMask : Nat
  fwd     : List Byte
  conns   : List TcpConn
  nextConn : Nat
  /-- the last 64 sends to TCP clients, oldest first: connection, bytes -/
  tcpTx   : List (Nat × List Byte)
  /-- last connection refused with a reset -/
  refused : Nat
  serial  : List Serial
  deriving DecidableEq, Repr

/-! ### Diagnostics and dump (21) -/

/-- One event-log entry (Table 21-1). -/
structure LogEntry where
  lseq  : Nat
  ev    : Nat
  flags : Nat
  mtime : Nat
  wall  : Int
  data  : Nat
  deriving DecidableEq, Repr, Inhabited

/-- One ASSAY event-log entry (R579); its signature is computed from the rest. -/
structure ALogEntry where
  aseq   : Nat
  kind   : Nat
  mtime  : Nat
  detail : List Byte
  deriving DecidableEq, Repr, Inhabited

/-- A dump's header fields (Table 21-6), taken at t0, and the bytes of its sections 2 to 6. -/
structure Dump where
  cause   : Nat
  core    : Nat
  dseq    : Nat
  mtime   : Nat
  detail  : Nat
  detail2 : Nat
  mode    : Nat
  truncated : Bool
  wallOfs : Int
  vers    : List Word
  secs    : List (List Byte)
  deriving DecidableEq, Repr, Inhabited

/-- Counters of one self-test (`DBG_STk`). -/
structure StCount where
  runs : Nat
  fails : Nat
  last : Bool
  deriving DecidableEq, Repr, Inhabited

/-- Diagnostics (21; `DBG` block R592). -/
structure Dbg where
  /-- event log, newest first, at most 16,384; LSEQ of the newest entry -/
  log     : List LogEntry
  lseq    : Nat
  lost    : Nat
  /-- pending buffer, newest first, at most 128 (R577) -/
  logPend : List LogEntry
  lastEv  : Nat
  /-- ASSAY event log, newest first, at most 4,096 -/
  alog    : List ALogEntry
  /-- dump being written (Table 21-5), dump in DRAM, dump in flash, flash acknowledged -/
  writing : Option Dump
  dram    : Option Dump
  /-- the dump partitions of flash banks A and B, and whether each one's dump is acknowledged (R583, R585) -/
  parts   : List (Option Dump)
  acks    : List Bool
  dseq    : Nat
  fatalCnt : Nat
  internalCnt : Nat
  internalLast : Word
  eccLast : Word
  eccAddr : Nat
  /-- corrected and uncorrectable words per memory 0 to 8, and corrected words in the present MTIME hour -/
  ce      : List Nat
  ue      : List Nat
  ceHour  : List Nat
  hour    : Nat
  scrubAge : Nat
  scrubs  : Nat
  st      : List StCount
  deriving DecidableEq, Repr

/-! ### Accumulator commits (02 R63, R64, R75; 08 R235) -/

/-- The marker of a commit area: sequence number, MTIME, type, CRC-32 over the area (R63, R75); `bad` once a start has found
the area not valid. -/
structure Marker where
  seq   : Nat
  mtime : Nat
  kind  : Nat
  crc   : Nat
  bad   : Bool
  deriving DecidableEq, Repr, Inhabited

/-- What only a final and a full commit carry (Table 2-8 steps 5 and 6): the power-fail record (T_pf and the source), none
in a full commit; the output state at t0 (CD1–CD16 energised, LS1–LS12 on); Anvil's safety log; the open sessions. -/
structure FinalRec where
  pf   : Option (Nat × Nat)
  outs : Nat
  ls   : Nat
  log  : List SafLog
  ses  : List Session
  /-- voltage events in progress: kind, point, event (08 R247) -/
  pq   : List (Nat × Nat × PqOpen)
  /-- the billing units of the warning, each with the power-fail record as its last action (09 R271) -/
  units : List BilUnit
  deriving DecidableEq, Repr, Inhabited

/-- What a commit carries (R63). -/
structure ComBody where
  accs    : List (List Nat)
  dem     : Demand
  blocks  : List Block60
  mtime   : Nat
  wallOfs : Int
  pp      : PpState
  /-- MTIME of the last periodic save (`NRG_SAVE`, Table 8-15) -/
  saveAt  : Nat
  final   : Option FinalRec
  deriving DecidableEq, Repr, Inhabited

/-- One commit area: its marker, none where it reads all zero bytes, and its three copies of the committed state (R63). -/
structure ComArea where
  mark   : Option Marker
  copies : List ComBody
  deriving DecidableEq, Repr, Inhabited

/-! ### The whole block -/

/-- The module without the tag die's memory and without the queue of waiting commands. -/
structure Block where
  sys     : Sys
  pwr     : Pwr
  hst     : Hst
  pin     : Pin
  shadows : Shadows
  mbx     : Mbx
  evt     : Evt
  cfg     : Cfg
  pln     : Pln
  asy     : Asy
  nrg     : Nrg
  bil     : Bil
  out     : OutBlk
  alc     : Alc
  rcm     : Rcm
  saf     : Saf
  cru     : Cru
  cls     : Cls
  tag     : Tag
  mlk     : Mlk
  dis     : Dis
  lsw     : Lsw
  upd     : Upd
  lnk     : Lnk
  dbg     : Dbg
  coms    : List ComArea
  /-- the model's own: index of the next free value -/
  free    : Nat
  deriving DecidableEq, Repr

/-- The state: the block, the tag die's memory of 256 blocks of 128 bytes as cells that are not 0 (15 R456), and the
commands that wait, first in first out. -/
structure State where
  blk     : Block
  tagMem  : List Host.Cell
  pending : List Instr
  deriving DecidableEq, Repr

/-- No command of this block stops the machine: the spec gives every command an effect, an answer or no effect at all. -/
inductive Fault where
  deriving DecidableEq, Repr

/-- A command without a meaning: raised by the arm of a row that is not modelled. Safe: the machine stops. -/
inductive Refusal where
  | notModelled (mnemonic : String)
  deriving DecidableEq, Repr

/-! ### Reset -/

/-- No phase quantity formed yet. -/
def PhaseQ.zero : PhaseQ where
  urms := 0
  irms := 0
  p := 0
  q := 0
  s := 0
  u12 := 0
  hist := []
  run := ⟨0, 0, 0, 0⟩
  runN := 0
  i2run := 0
  i2t := 0
  quad := 0
  start := false

/-- No session: the reset values of Tables 10-16 and 10-17. -/
def Session.none : Session where
  st := .idle
  sesid := 0
  proto := 0
  auth := 0
  service := 0
  reason := 0
  tunnel := false
  tls := false
  tlsVer := 0
  fallback := false
  dynamic := false
  limit := 0
  subject := zeros 32
  mtOpen := 0
  mtAuth := 0
  wallOpen := 0
  stAt := 0
  accOpen := rep8 0
  flags := 0
  table := ⟨0, []⟩
  tarImp := rep8 0
  tarExp := rep8 0
  markImp := 0
  markExp := 0
  cost := 0
  soc := 0xFF
  tsoc := 0xFF
  tfull := 0xFFFF
  upres := 0
  utgt := 0
  itgt := 0
  ievse := 0
  depart := 0xFFFFFFFF
  eamount := 0xFFFFFFFF
  msgs := 0
  evImax := 0
  evUmax := 0
  evIdis := 0
  evPdis := 0
  schedP := Option.none
  limSet := false
  itgtSet := false
  rcmOk := false
  pending := false
  reqAt := 0
  judged := false
  waitTimer := 0
  drafted := false
  stopCmds := []

/-- No SLAC yet. -/
def Slac.none : Slac where
  result := 0
  att := 0
  sounds := 0
  runId := 0
  attSum := 0
  mac := 0
  since := 0
  second := false
  waitF := false
  setup := false
  nmk := 0

def Driver.reset : Driver where
  coil := .off
  fb := false
  rawFb := false
  confirmed := false
  fcause := 0
  refuse := 0
  tClose := 0
  tOpen := 0
  cnt := 0
  loaded := false
  seen := 0
  at_ := 0
  opening := none
  barred := false
  tested := false
  saved := 0

def AlcOutlet.reset : AlcOutlet where
  setpt := 0
  ph := 0
  src := 0
  past := []
  impTgt := 0xFFFF
  expTgt := 0
  heldOff := false
  dcStep := 0
  dcFail := false
  dcAt := 0
  dcCmd := none
  weldOk := false
  preOk := false
  delivering := false
  closedSes := false
  sig := 0
  sigLow := 0
  imax := 0
  rampFrom := 0
  enable := false
  vcheck := none

def VAns.none : VAns := ⟨0, [], .none, [], .none, .none, false, .none, []⟩

def Outlet.reset : Outlet where
  cp := 0
  gen := 3
  duty := 1000
  diode := false
  high := 0
  low := 0
  res := 0xFFFF
  limImp := 0
  limExp := 0
  ses := Session.none
  slac := Slac.none
  modemLost := false
  modemAt := 0
  errResp := 0
  errCause := 0
  fault := 0
  cntS := 0
  cntE := 0
  trim := 0x0300
  tunOpen := false
  tunClosed := false
  tunRx := []
  tunTx := []
  tunArmed := false
  certAt := none
  certUpd := false
  lastAns := 0
  ans := VAns.none
  outReq := none
  outDue := false
  bypCmd := none
  pilotTest := false
  hand := none

def Domain.reset (st : Play) : Domain where
  play := st
  actBuf := 0
  hdr := ⟨0, 0, 0, 0, 0, 0, 0, []⟩
  rows := []
  row := 0
  last := List.replicate 14 0
  swapTick := 0
  lastSwap := 0
  ecc := []
  staging := ⟨.empty, 0, ⟨0, 0, 0, 0, 0, 0, 0, []⟩, [], none, default, 0, false, []⟩

/-- Requester classes of the MRAM write port and of the engine queue after reset (Tables 1-3, 1-4). -/
def classM : List Nat := [7, 6, 5, 5, 4, 3, 2, 1]
def classC : List Nat := [3, 3, 3, 3, 6, 6, 6, 5, 5, 5, 4, 4, 3, 3, 2, 2]

def Chan.factory : Chan where
  gain := 0x40000000
  phase := 0
  ofs := 0
  tgain := 0
  tphase := 0
  causes := []
  cause := 0
  faultS := false
  ovrS := false
  clamp := false
  sample := 0
  peak := 0
  runPeak := 0
  runOvr := false
  ovrSec := false
  refFail := 0
  refPass := false
  taps := []
  win := []
  harm := List.replicate 41 0

/-- A point at its factory values. DESIGN CHOICE: Tables 7-16 and 7-17 give BAND and TCLIVE the reset `cfg`, and 07 R208 does not
say which band is in force before the first decision: band 0 and TGAIN, TPHASE 0, whatever table is loaded. -/
def Point.factory : Point where
  conf := (facMetrology.drop 8).take 24
  confPend := false
  chans := List.replicate 8 Chan.factory
  cycTimer := false
  good := 0
  period := 0
  cyc := 0
  band := 0
  bandPend := 0
  bandSet := false
  entPend := false
  temp := 0
  tsrcFb := false
  calreq := true
  ovr := 0
  lastCh := 0
  checks := 0
  dev := 0
  injAt := 0
  inj := none
  table := List.replicate 128 0
  discard := false
  latched := false

/-- The factory calibration record (R211, R207). -/
def CalRec.factory : CalRec where
  calseq := 0
  calid := 0
  mtime := 0
  edges := (List.range 15).map fun k => -300 + 100 * Int.ofNat k
  vals := List.replicate 13 (List.replicate 8 (0x40000000, 0, 0))
  tables := List.replicate 13 (List.replicate 128 0)

/-- Demand registers before any subinterval (R239). -/
def Demand.reset : Demand where
  seq := 0
  lastEnd := 0
  nextEnd := 0
  start := 0
  imp0 := List.replicate 13 0
  exp0 := List.replicate 13 0
  held := []
  demImp := List.replicate 13 0
  demExp := List.replicate 13 0
  partial_ := true
  maxImp := List.replicate 13 0
  maxExp := List.replicate 13 0
  maxImpAt := List.replicate 13 0
  maxExpAt := List.replicate 13 0

def PointQ.reset : PointQ where
  ph := List.replicate 3 PhaseQ.zero
  inRms := 0
  inRun := 0
  freq := 0
  cycs := []
  winCyc := 0
  dir := 0
  dirRun := 0
  estab := 0
  forbid := false
  rev := 0
  sag := none
  swell := none
  intr := none

def RcmOutlet.reset : RcmOutlet where
  tdcl := 50
  tdcm := 500
  tdch := 1500
  tac := 250
  turns := 1000
  linkFault := false
  cause := 0
  insLatch := false
  seen := 0
  run := .no
  result := 0
  offset := 0
  hist := []
  persist := [0, 0, 0, 0, 0]
  loudAt := none
  ins := 0
  riso := none
  below := 0
  asym := 0
  warn := false
  cableOhm := none
  cableAsym := false
  uchk := 0

/-- A safety input before its first sample: every channel reads 0 (20 Table 20-3). -/
def SafIn.reset : SafIn := ⟨false, false, false, false, false, false, 0, false, 0, 0, 0, 0, 0, 0⟩

def SafFn.reset : SafFn := ⟨.unused, 0, false, false, false, none, false, none, 0⟩

/-- Accumulators, hidden fractions and buffers of a module that has never committed (02 R75). -/
def zeroAccs : List (List Nat) := List.replicate 13 (rep8 0)

def Sys.reset : Sys where
  mode := .selftest
  prevMode := 3
  modeCause := 0
  trans := none
  held := .selftest
  preActivate := .selftest
  safestopDue := false
  provOpen := false
  provDone := false
  rootDisable := false
  mtime := 0
  mtimeRun := false
  secDone := 0
  wallOfs := 0
  wallDue := []
  autostartDue := false
  commitGap := false
  timeGap := false
  scratch := 0
  bankB := false
  svc := List.replicate 12 2

def Pwr.reset : Pwr where
  vin := 0
  vhold := 0
  vinOk := true
  vcppOk := true
  vcpnOk := true
  vledOk := true
  vddioOk := true
  vholdArmed := false
  vholdLow := false
  vholdRec := false
  pfw := false
  pfwSrc := 0
  pfwT0 := 0
  siteLoss := false
  siteGood := [0, 0, 0]
  finalDone := false
  vsupVhold := false
  recovering := false
  heldBy := .ready
  pfwSelftest := false
  clockWhy := 0
  resumeAt := 0
  rstCause := 1
  rstPrev := 0
  chargeFail := false
  lrst := []
  larkspurDown := false
  holdover := none
  cstop := none
  softReset := false
  assayDown := false
  crucDown := false
  anvilDown := false

def Hst.reset : Hst := ⟨false, false, false, false, 0, 0, 0, 0, 0, false, []⟩

def Pin.reset : Pin := ⟨List.replicate 10 0, 0, 0⟩

def Mailbox.reset : Mailbox := ⟨0, 0, [], 0, [], [], none, 0⟩

def Mbx.reset : Mbx := ⟨List.replicate 8 Mailbox.reset, 0, 0, none, 0, false, [[], []], []⟩

def EvtGroup.reset : EvtGroup := ⟨0, 0, 0xFFFFFFFF, 0, 0, 0⟩

def Evt.reset : Evt := ⟨List.replicate 8 EvtGroup.reset, [false, false, false, false], [], 0, false, 0⟩

def Pln.reset : Pln where
  tick := 0
  timer := false
  halfp := 0
  good := 0
  stamp := 0
  doms := [Domain.reset .idle, Domain.reset .idle, Domain.reset .idle]
  ovr := List.replicate 12 ⟨0, [], 0, 0, 0, 0⟩
  due := []
  sesB := []
  sesLate := false
  groups := List.replicate 16 none
  gseq := 0
  jrnBad := false
  locks := List.replicate 32 ⟨0, false, []⟩
  taken := []
  hlockRes := 0
  arbM := ⟨classM, 0, List.replicate 8 0, 0, 0, false⟩
  arbC := ⟨classC, 0, List.replicate 16 0, 0, 0, false⟩
  cntOvr := 0
  cntRej := 0
  cntAbort := 0

def Asy.reset : Asy where
  points := List.replicate 13 Point.factory
  tsrc := List.replicate 12 ⟨0, false, false, 0, 0, false⟩
  edges := CalRec.factory.edges
  record := CalRec.factory
  recOk := true
  copies := [some CalRec.factory, none]
  newest := 0
  sampleCnt := 0
  tinjCtrl := 0
  tinjAmp := 0
  tinjPh := 0
  tinjFreq := 0
  tinjOrg := 0
  tinjN := 0
  refOk := true
  drift := 0
  commitCmds := []
  injCmds := []
  measures := []

def Bal.reset : Bal where
  st := .off
  blocks := []
  members := 0x1FFF
  live := false
  acc0 := zeroAccs
  lsOn := 0
  eSite := 0
  eOut := 0
  eLoss := 0
  d := 0
  tol := 0
  eAux := 0
  ePls := 0
  eDc := 0
  eCab := 0
  evals := 0
  miss := 0
  first := 0
  clean := 0
  episode := 0

def Pulse.reset : Pulse := ⟨0, false, 0, 0, false, 0, false, 0, none⟩

def Nrg.reset : Nrg where
  accs := zeroAccs
  pq := List.replicate 13 PointQ.reset
  dem := Demand.reset
  bal := Bal.reset
  pulse := List.replicate 8 Pulse.reset
  pqLog := []
  sagCnt := 0
  swlCnt := 0
  intCnt := 0
  saveAt := 0
  voteCnt := 0
  tpf := 0

def BilVals.reset : BilVals where
  inForce := 1
  tregImp := rep8 0
  tregExp := rep8 0
  markImp := 0
  markExp := 0
  credit := 0
  residue := 0
  perDebit := 0
  ses := List.replicate 12 ⟨rep8 0, rep8 0, 0, 0⟩

def Bil.reset : Bil where
  table := ⟨0, List.replicate 8 ⟨0, 0, 0, 0⟩⟩
  staged := none
  inForce := 1
  pend := none
  tselRaw := 0
  tselCode := 0
  tselAt := 0
  sel := 0
  lastSource := 0
  tregImp := rep8 0
  tregExp := rep8 0
  markImp := 0
  markExp := 0
  queue := []
  heldUnits := []
  units := []
  pseq := 0
  perStart := 0
  perWall := 0
  perLast := 0
  perAcc := rep8 0
  perDebit := 0
  perFlags := 0
  ingots := []
  iseq := 0
  prevHash := zeros 64
  ackIseq := 0
  cntIngot := 0
  credit := 0
  residue := 0
  ecActive := false
  friendly := false
  capStop := false
  low := false
  limit := false
  pp := .connected
  relayAct := 0
  bypassAt := none
  button := none
  tokWin := List.replicate 4 ⟨0, 0⟩
  slots := List.replicate 8 none
  tokCnt := 0
  tokRej := 0
  stepClose := false
  scroll := 0
  scrollAt := 0
  scrollVal := []
  scrollSeg := none
  saved := BilVals.reset
  actDue := 0
  atPf := []

def OutBlk.reset : OutBlk := ⟨List.replicate 12 Outlet.reset, 0, 0, 0, 0, 0, 0⟩

def Limit4.off : Limit4 := ⟨0xFFFF, 0xFFFF, 0xFFFF, 0xFFFF⟩

def Alc.reset : Alc where
  host := Limit4.off
  util := Limit4.off
  utilExp := 0
  capSI := 0
  capSE := 0
  capPI := [0, 0, 0]
  capPE := [0, 0, 0]
  capWhy := 1
  outlets := List.replicate 12 AlcOutlet.reset
  drivers := List.replicate 16 Driver.reset
  cabinet := .off
  cabAt := 0
  rpermit := true
  rpDrop := false
  links := List.replicate 4 ⟨0, 0, 0, [], 0, 0, 0, [], none, false⟩
  test := none
  replan := false
  cntRefuse := 0
  cntOverdraw := 0

def Rcm.reset : Rcm :=
  ⟨List.replicate 12 RcmOutlet.reset, List.replicate 2 ⟨none, [], 0, false, 0⟩, 0, 0, 0, 0, rep8 0⟩

def Saf.reset : Saf where
  pset := facPset 0x78DEC69D
  stage := none
  pstate := 0
  copies := [some (facPset 0x78DEC69D, 0), none]
  newest := 0
  ins := List.replicate 16 SafIn.reset
  fns := List.replicate 16 SafFn.reset
  pairs := 0
  tpoFault := 0
  tpoMiss := rep8 0
  pairAt := [0, 0, 0, 0]
  cntDemand := 0
  cntFault := 0
  lastDetail := 0
  lastIndex := 0
  lastType := 0
  lastAt := 0
  log := []

def Cru.reset : Cru where
  slots := List.replicate 64 ⟨0, []⟩
  grant := none
  tmpRaw := 0
  tmpOpen := 0
  mags := List.replicate 4 ⟨0, false, false, 0, false⟩
  mesh := true
  alarm := false
  zpend := false
  tamCnt := [0, 0, 0]
  tamLog := []
  tamOut := 0
  zrec := 0
  zsource := 0
  zcmd := none
  items := 0
  siteId := zeros 32
  tamperCfg := zeros 48
  anchors := []
  chains := []
  evalCause := 3
  dbgOpened := false
  canRaw := false
  blobFail := false
  dbgState := 1
  denied := 0
  attempt := false
  halted := 0
  drbgOk := false
  drbgFails := 0
  drbgFailKind := 0
  drbgAt := 0
  drbgFailAt := 0
  maskCnt := 0
  hallCnt := 0
  engCnt := List.replicate 12 0
  engAsk := List.replicate 16 0
  engRun := List.replicate 12 none
  engQ := List.replicate 12 []
  keyFailCnt := 0
  keyFailSlot := 0
  tls := [false, false]

def Cls.reset : Cls where
  ants := List.replicate 4 ⟨false, 0, 0, 0, 0, 0, 0, 0, false, []⟩
  engs := List.replicate 2 ⟨0, 0, 0⟩
  card := List.replicate 28 0
  wl := []
  gen := 0
  cnt := List.replicate 6 0
  decided := []
  hold := none
  test := none

def Tag.reset : Tag where
  st := 0
  rats := false
  uid := zeros 4
  session := false
  tool := 0
  ssc := 0
  rndT := []
  rndG := []
  auth1 := none
  blocked := false
  blockedAt := 0
  key := none
  lastCC := 0
  toolMin := 0
  rfrec := ⟨0, 0, 0, 0, 0, 0⟩
  wrec := ⟨0, 0, 0, 0, 0, 0⟩
  pend := none
  locks := 0
  field := false
  vh := 0
  port := false
  rfCnt := 0
  wrRf := 0
  wrWired := 0
  colCnt := 0
  colStep := 0
  wiredBlock := 0
  wiredRes := 0
  busyCnt := 0
  authFail := 0
  rollFwd := 0
  eccCnt := 0
  bad := []
  tx := []
  out := []

def Mlk.reset : Mlk where
  st := 0
  lock := false
  ph := 0
  found := false
  searchAt := 0
  cfg := facMainsLink
  bseqRx := 0
  bseqTx := 0
  fcntTx := 0
  txq := []
  sent := []
  await := []
  hostq := []
  heads := List.replicate 4 ⟨0, 0, 0, 0⟩
  useCnt := 0
  clear := 0
  wait := none
  defer := 0
  warned := false
  win := 0
  out := []
  rx := []
  blk := []
  burst := []
  rqFor := 0
  rqCnt := 0
  cnt := List.replicate 10 0
  lastType := 0
  lastPct := 0
  lastSrc := 0
  lastAt := 0
  tstep := 0
  tones := [0, 0, 0, 0]
  emap := rep8 0
  cps := List.replicate 3 ⟨false, 0, 0, 0, 0, 0⟩
  statAt := 0
  test := none

def Bsd.reset : Bsd where
  st := 0
  seg := 63
  useq := 0
  wcnt := 0
  target := 0
  open_ := false
  refr := false
  done := 0
  copies := [[], []]
  newest := 0
  image := 0
  fault := 0
  drives := List.replicate 48 0
  ipeak := List.replicate 48 0
  faults := 0
  updates := 0
  item := 0
  arg := 0
  next := none
  again := false
  redrive := false
  full := false
  testPh := 0

def Dis.reset : Dis where
  mstate := 0
  bcause := 0
  short := false
  gain := 32
  glive := 0
  ramp := 0
  frameCnt := 0
  frame := []
  pending := none
  hostSrc := false
  replaced := 0
  applied := 0
  cues := []
  shown := none
  shownAt := 0
  dropped := 0
  colOpen := 0
  colShort := 0
  openRun := List.replicate 96 0
  shortRun := List.replicate 96 0
  rows := List.replicate 24 ⟨false, false, 0, 0⟩
  cntCol := 0
  cntOc := 0
  cntBlank := 0
  iavg := 0
  vled := 0
  maps := List.replicate 4 ⟨false, false, 0, []⟩
  band := 0
  bandSet := false
  temp := 0
  map := 15
  mapNext := 15
  mapData := []
  sinks := []
  test := none
  bsd := Bsd.reset

def LsChan.reset : LsChan where
  st := .off
  held := .off
  req := false
  latch := false
  tripped := false
  cause := 0
  rcnt := 3
  prof := []
  startAt := 0
  tripAt := 0
  latchAt := 0
  onAt := 0
  suspAt := 0
  waited := false
  reqHeld := false
  seen := 0
  trips := 0
  starts := 0
  pgen := 0
  duty := 256
  phase := 0
  diagFail := 0
  flags := 0
  wasOn := false
  ipeak := 0
  imean := 0
  tj := 0

def Lsw.reset : Lsw where
  ch := List.replicate 12 LsChan.reset
  freq := [0, 0, 0, 0]
  pgCnt := [0, 0, 0, 0]
  pgAt := [0, 0, 0, 0]
  user := [[], [], [], []]
  cntTrip := 0
  cntRetry := 0
  cntLock := 0
  cntDiag := 0
  itPeak := 0
  lastEnt := 0xFF
  schedInit := false
  lastMin := none
  cond := 0
  idleAt := List.replicate 16 0
  due := []
  test := none

/-- The release of part k as manufactured: that of LARKSPUR is Bylith 3.4.x, whose MAJOR and MINOR the manual fixes
(Table 4-19). -/
def factoryVer (k : Nat) : Word :=
  if k == 0 then BitVec.ofNat 32 (0x03040000 + (Config.partVer 0).toNat % 65536) else Config.partVer k

def Upd.reset : Upd where
  st := .idle
  transport := 0
  updid := 0
  header := []
  head := []
  units := []
  halves := []
  total := 0
  vfail := 0
  reason := 0
  sched := none
  outcome := 0
  check := 0
  failPart := 0
  assayCnt := 0
  rollFuse := 0
  rollRec := 0
  act := .no
  ver := (List.range 9).map factoryVer
  hash := (List.range 9).map fun n => leBytes 64 (Config.partHash n).toNat
  integ := 0
  parts := List.replicate 9 ⟨0, [], false, false, false, false⟩
  gpmPend := 0
  gpmFail := 0
  gpmLoad := 0
  cmd := none
  cnt := List.replicate 6 0

def Lnk.reset : Lnk where
  phyRst := false
  phyAt := 0
  linkUp := [false, false]
  direct := [false, false]
  stopped := false
  macs := []
  fwdMask := 0
  fwd := []
  conns := []
  nextConn := 1
  tcpTx := []
  refused := 0
  serial := List.replicate 10 ⟨none, [], [], 0, 0⟩

def Dbg.reset : Dbg where
  log := []
  lseq := 0
  lost := 0
  logPend := []
  lastEv := 0
  alog := []
  writing := none
  dram := none
  parts := [none, none]
  acks := [false, false]
  dseq := 0
  fatalCnt := 0
  internalCnt := 0
  internalLast := 0
  eccLast := 0
  eccAddr := 0
  ce := List.replicate 9 0
  ue := List.replicate 9 0
  ceHour := List.replicate 9 0
  hour := 0
  scrubAge := 0
  scrubs := 0
  st := List.replicate 12 ⟨0, 0, false⟩

/-- The contents of a commit area that has never been written (R75). -/
def ComBody.zero : ComBody := ⟨zeroAccs, Demand.reset, [], 0, 0, .connected, 0, none⟩

/-- A commit area as manufactured: no marker, three copies of the zero state (R75). -/
def ComArea.zero : ComArea := ⟨none, [ComBody.zero, ComBody.zero, ComBody.zero]⟩

/-- The block right after the power-on reset of a module as manufactured: SELFTEST is entered and
`RESET_RELEASE` ends the reset (Tables 2-4, 3-2, 3-3). -/
def Block.reset : Block where
  sys := Sys.reset
  pwr := Pwr.reset
  hst := Hst.reset
  pin := Pin.reset
  shadows := []
  mbx := Mbx.reset
  evt := Evt.reset
  cfg := ⟨factorySections, 0, none, 0⟩
  pln := Pln.reset
  asy := Asy.reset
  nrg := Nrg.reset
  bil := Bil.reset
  out := OutBlk.reset
  alc := Alc.reset
  rcm := Rcm.reset
  saf := Saf.reset
  cru := Cru.reset
  cls := Cls.reset
  tag := Tag.reset
  mlk := Mlk.reset
  dis := Dis.reset
  lsw := Lsw.reset
  upd := Upd.reset
  lnk := Lnk.reset
  dbg := Dbg.reset
  coms := [ComArea.zero, ComArea.zero]
  free := 0

/-- The state right after reset: no command waits, the tag memory holds nothing (R456). -/
def State.reset : State := ⟨Block.reset, [], []⟩

end Sys2Proof.Machine
end

