-- ==== Sys2Proof/Machine/Ops.lean ====
section
/-!
DEFINITION. The operations every chapter shares: records and fixed tables of the state, the committed configuration,
free values, raising an event (05 R143–R147, 21 R577), mailbox acceptance and responses (05 R120–R136), host silence
(01 R28, R29) and the resource claims (04 R114–R117).
-/

namespace Sys2Proof.Machine

/-- What one step of the block answers. -/
abbrev Out := Host.Outcome State Fault Refusal

/-! ### The block's effects on the whole state -/

/-- The byte of the tag memory at an address; an unlisted cell reads 0 (15 R456). -/
def memRead (a : Nat) : List Host.Cell → Byte
  | [] => 0
  | (b, v) :: r => if a == b then v else memRead a r

/-- The tag memory with one byte written, in canonical form: rising addresses, no cell that holds 0. -/
def memWrite (a : Nat) (v : Byte) : List Host.Cell → List Host.Cell
  | [] => if v == 0 then [] else [(a, v)]
  | (b, w) :: r =>
    if a < b then (if v == 0 then (b, w) :: r else (a, v) :: (b, w) :: r)
    else if a == b then (if v == 0 then r else (a, v) :: r)
    else (b, w) :: memWrite a v r

/-- Bytes written at consecutive addresses of the 32 KiB of tag memory; an address beyond it does not exist. -/
def memWrites (a : Nat) (d : List Byte) (m : List Host.Cell) : List Host.Cell :=
  match d with
  | [] => m
  | v :: r => memWrites (a + 1) r (if a < 32768 then memWrite a v m else m)

/-- `n` bytes from an address of the tag memory. -/
def memBytes (a n : Nat) (m : List Host.Cell) : List Byte := (List.range n).map fun i => memRead (a + i) m

/-- Every cell's address is above `lo`, addresses rise, no cell holds 0. -/
def memWfFrom (lo : Nat) : List Host.Cell → Bool
  | [] => true
  | (b, v) :: r => lo ≤ b && v != 0 && memWfFrom (b + 1) r

/-- The canonical form of the tag memory. -/
def memWf (m : List Host.Cell) : Bool := memWfFrom 0 m

/-- The writes of one command to the tag memory, in order. -/
def applyWrites (ws : List (Nat × List Byte)) (m : List Host.Cell) : List Host.Cell :=
  ws.foldl (fun m w => memWrites w.1 w.2 m) m

/-- A write to the tag memory covers the whole of block `k`. -/
def covers (k : Nat) (w : Nat × List Byte) : Bool := w.1 ≤ 128 * k && 128 * k + 128 ≤ w.1 + w.2.length

/-- The whole state after a command that leaves the block as `b`: the writes to the tag memory that it lists in `tag.out`
are made, in order. A block that they write whole is good again (21 Table 21-3). -/
def wrote (s : State) (b : Block) : State :=
  { s with
    blk := { b with tag := { b.tag with out := [], bad := b.tag.bad.filter fun k => !b.tag.out.any (covers k) } }
    tagMem := applyWrites b.tag.out s.tagMem }

/-- The next state of a command whose effect on the block is `f`, which may read the tag memory. -/
def lift (f : List Host.Cell → Block → Block) (s : State) : Out := .next (wrote s (f s.tagMem s.blk))

/-- The next state of a command that does not read the tag memory. -/
def act (f : Block → Block) (s : State) : Out := lift (fun _ b => f b) s

/-! ### Time, configuration, free values -/

/-- `SYS_SERIAL` as a number. -/
def serialNum : Nat := Config.serial.toNat

/-- Wall time: MTIME plus the offset (00 Table 0-5). -/
def Block.wall (s : Block) : Int := (s.sys.mtime : Int) + s.sys.wallOfs

/-- The body in force of a configuration section (R151). -/
def Block.secBody (s : Block) (id : Nat) : List Byte := (lookupN id s.cfg.secs).getD []

def Block.cfg8 (s : Block) (id o : Nat) : Nat := u8At (s.secBody id) o
def Block.cfg16 (s : Block) (id o : Nat) : Nat := u16At (s.secBody id) o
def Block.cfg32 (s : Block) (id o : Nat) : Nat := u32At (s.secBody id) o

/-- The split word (R25, Table 5-18). -/
def Block.split (s : Block) : Nat := s.cfg32 0x0001 0 % 512

/-- A function is in host-assisted mode and the host-silent behaviour is not in force for it (R28, R29). -/
def Block.assisted (s : Block) (k : Nat) : Bool := bit s.split k && !bit s.mbx.fallback k

/-- A domain's style is transactional: 0 ALLOCATION, 1 SWITCHING, 2 BILLING (R37, Table 4-12). -/
def Block.transactional (s : Block) (dom : Nat) : Bool := bit (s.cfg32 0x0001 4) dom

/-- Outlet n is fitted (Table 5-18). -/
def Block.fitted (s : Block) (n : Nat) : Bool := 1 ≤ n && n ≤ 12 && bit (s.cfg16 0x0001 12) (n - 1)

/-- Host watchdog time in ms (R28). -/
def Block.hostWdg (s : Block) : Nat := s.cfg8 0x0001 9 * 1000

/-- The service state of outlet n (Table 3-5). -/
def Block.svcOf (s : Block) (n : Nat) : Nat := if n == 0 then 0 else tget s.sys.svc (n - 1)

/-- One free value drawn: the counter that indexes it, and the state with the counter advanced. -/
def Block.draw (s : Block) : Nat × Block := (s.free, { s with free := s.free + 1 })

/-- Bylith does not run: Larkspur is in reset, or the dump writer has taken over (02 R57, 21 R582). -/
def bylithDown (s : Block) : Bool := s.pwr.larkspurDown || s.dbg.writing.isSome

def Block.inMode (s : Block) (ms : List Mode) : Bool := ms.contains s.sys.mode

/-! ### Events (05 R143–R147; 21 R577) -/

/-- The final commit is complete: its steps take at most 2.0 ms from the warning (02 Table 2-8). -/
def finalNow (s : Block) : Bool := s.pwr.finalDone || s.pwr.pfwT0 + 2 ≤ s.sys.mtime

/-- The log enable of an event: forced for `EV000`–`EV015` and group 6 (Table 21-2). -/
def logEnabled (s : Block) (e : Nat) : Bool :=
  e < 16 || (192 ≤ e && e < 224) || bit (s.cfg32 0x000F (4 * (e / 32))) (e % 32)

/-- The log port is closed to requester 6: a latched warning, or the module held in reset (R577). -/
def logBlocked (s : Block) : Bool := s.pwr.pfw || s.pwr.heldBy != .no

/-- An entry appended to the event log, overwriting the oldest when full (R577). -/
def logPut (ev flags mtime : Nat) (wall : Int) (data : Nat) (s : Block) : Block :=
  let d := s.dbg
  let q := (d.lseq + 1) % 4294967296
  { s with dbg := { d with lseq := q, lastEv := ev
                           log := ({ lseq := q, ev, flags, mtime, wall, data } :: d.log).take 16384 } }

/-- An occurrence's log entry: written, or held in the pending buffer, or counted lost (R577). -/
def logOccurrence (test : Bool) (e data : Nat) (s : Block) : Block :=
  if !logEnabled s e then s
  else if !logBlocked s then logPut e (b2n test) s.sys.mtime s.wall data s
  else if s.dbg.logPend.length < 128 then
    { s with dbg := { s.dbg with
        logPend := { lseq := 0, ev := e, flags := b2n test + 2, mtime := s.sys.mtime, wall := s.wall, data }
                     :: s.dbg.logPend } }
  else { s with dbg := { s.dbg with lost := satInc 65535 s.dbg.lost } }

/-- The latch of an occurrence: RAW, and OVF where RAW was 1 (R143). -/
def latchEvent (e : Nat) (s : Block) : Block :=
  { s with evt := { s.evt with groups := tupd s.evt.groups (e / 32) fun g =>
      { g with raw := setBit g.raw (e % 32)
               ovf := if bit g.raw (e % 32) then setBit g.ovf (e % 32) else g.ovf } } }

/-- The queue entry of an occurrence: appended, or LOST counted when 512 are held (R146). -/
def queueEvent (test : Bool) (e data : Nat) (s : Block) : Block :=
  if !bit (tget s.evt.groups (e / 32)).qen (e % 32) then s
  else if s.evt.queue.length < 512 then
    { s with evt := { s.evt with
        queue := s.evt.queue ++ [{ test, seq := s.evt.seq, ev := e, mtime := s.sys.mtime, wall := s.wall, data }]
        seq := (s.evt.seq + 1) % 65536 } }
  else { s with evt := { s.evt with lost := satInc 65535 s.evt.lost, refusing := true } }

/-- An occurrence latched, queued and logged, with none of the occurrences that it may itself cause. -/
def raiseOnce (test : Bool) (e data : Nat) (s : Block) : Block :=
  logOccurrence test e (data % 4294967296) (queueEvent test e (data % 4294967296) (latchEvent e s))

/-- An occurrence (R143–R147), followed by `EV037` where the queue refuses its first entry after having room, and by
`EV254` where the pending buffer loses its first occurrence (R142, R577). -/
def raiseAs (test : Bool) (e data : Nat) (s : Block) : Block :=
  let s1 := raiseOnce test e data s
  let s2 := if s1.evt.refusing && !s.evt.refusing then raiseOnce false 37 0 s1 else s1
  if s2.dbg.lost != 0 && s.dbg.lost == 0 then raiseOnce false 254 1 s2 else s2

/-- The owning function's occurrence of event `e` with its data word (R143). -/
def raise (e data : Nat) (s : Block) : Block := raiseAs false e data s

/-- An occurrence with an MTIME of its own, which lies before the present one. -/
def raiseAt (t e data : Nat) (s : Block) : Block :=
  let s1 := raise e data { s with sys.mtime := t }
  { s1 with sys.mtime := s.sys.mtime }

/-- The pending log entries written with DEFERRED set, oldest first, at recovery or SELFTEST step 7 (R577). -/
def flushPending (s : Block) : Block :=
  let p := s.dbg.logPend.reverse
  p.foldl (fun s e => logPut e.ev e.flags e.mtime e.wall e.data s)
    { s with dbg := { s.dbg with logPend := [] } }

/-- An ASSAY event-log entry (R579): `none` when the log is full. -/
def assayLog (kind : Nat) (detail : List Byte) (s : Block) : Option Block :=
  let n := s.dbg.alog.length
  if n ≥ 4096 then none
  else
    let q := match s.dbg.alog with
      | [] => 1
      | e :: _ => e.aseq + 1
    let s1 := { s with dbg := { s.dbg with
      alog := { aseq := q, kind, mtime := s.sys.mtime, detail := fixLen 48 detail } :: s.dbg.alog } }
    some (if n + 1 == 3840 then raise 254 2 s1 else if n + 1 == 4096 then raise 254 3 s1 else s1)

/-- A run of self-test `k` counted (R589). -/
def countSelfTest (k : Nat) (failed : Bool) (s : Block) : Block :=
  { s with dbg := { s.dbg with st := tupd s.dbg.st k fun c =>
      { runs := (c.runs + 1) % 65536, fails := if failed then satInc 255 c.fails else c.fails, last := failed } } }

/-! ### Mailboxes (05 R120–R136) -/

/-- Status codes (Table 5-5). -/
def stOk := 0x0000
def stAccepted := 0x0001
def stBadOpcode := 0x0101
def stBadLength := 0x0102
def stBadParam := 0x0103
def stNotInMode := 0x0201
def stExpert := 0x0202
def stAuthFailed := 0x0203
def stResourceHeld := 0x0301
def stLockOrder := 0x0302
def stLockBroken := 0x0303
def stBusy := 0x0304
def stGroupAborted := 0x0401
def stPlanRejected := 0x0402
def stStorageFault := 0x0501
def stInternal := 0x0FFF

/-- FLAGS bits (Table 5-3). -/
def flRsp := 0x8000
def flFinal := 0x4000
def flDup := 0x2000
def flChkErr := 0x1000

/-- The frame header with its CHK at 0 (Table 5-2). -/
def header14 (op tag flags len seq status : Nat) : List Byte :=
  p16 op ++ p16 tag ++ p16 flags ++ p16 len ++ p32 seq ++ p16 status

/-- CHK of a frame (R123). -/
def frameChk (hdr14 payload : List Byte) : Nat := crc16 (hdr14 ++ [0, 0] ++ payload)

/-- The words of a response (R122, R123). -/
def responseWords (op tag flags seq status : Nat) (payload : List Byte) : List Word :=
  let h := header14 op tag flags payload.length seq status
  bytesWords (4 + (payload.length + 3) / 4) (h ++ p16 (frameChk h payload) ++ payload)

def Block.box (s : Block) (mb : Nat) : Mailbox := tget s.mbx.boxes mb

def updBox (mb : Nat) (f : Mailbox → Mailbox) (s : Block) : Block :=
  { s with mbx := { s.mbx with boxes := tupd s.mbx.boxes mb f } }

def findEntry (id : Nat) : List Entry → Option Entry
  | [] => none
  | e :: r => if e.id == id then some e else findEntry id r

def updEntry (id : Nat) (f : Entry → Entry) (l : List Entry) : List Entry :=
  l.map fun e => if e.id == id then f e else e

/-- A frame handed to the TLS session of a port, counted from 0 (R126). -/
def ethOut (port : Nat) (d : List Byte) (s : Block) : Block :=
  { s with mbx := { s.mbx with ethTx := tupd s.mbx.ethTx port fun l => l.drop (l.length - 63) ++ [d] } }

/-- A response queued (R133): over HSPI it waits to be read and raises `EV032`; over Ethernet it is handed to the
TLS session behind its 4-byte prefix, which frees the entry of a final response (R120, R126). -/
def queueRsp (mb id : Nat) (frees : Bool) (ws : List Word) (s : Block) : Block :=
  match (s.box mb).bind with
  | 2 | 3 =>
    let port := (s.box mb).bind - 2
    let d := wordBytes ws
    let n := 16 + u16At d 6
    let s1 := ethOut port (p8 mb ++ p8 0 ++ p16 n ++ d.take n) s
    if frees then updBox mb (fun b => { b with entries := b.entries.filter fun e => e.id != id }) s1 else s1
  | k =>
    let s1 := updBox mb (fun b => { b with rsps := b.rsps ++ [{ id, frees, words := ws }] }) s
    if k == 1 then raise 32 mb s1 else s1

/-- A response to an entry with extra FLAGS bits (R122, R132). -/
def respondWith (extra : Nat) (r : CmdRef) (final : Bool) (status : Nat) (payload : List Byte) (s : Block) : Block :=
  match findEntry r.id (s.box r.mb).entries with
  | none => s
  | some e =>
    let ws := responseWords e.opcode e.tag (flRsp + (if final then flFinal else 0) + extra) e.seq status payload
    let s1 := if !final then s else updBox r.mb (fun b =>
      { b with entries := updEntry r.id (fun e => { e with final := some (status, payload) }) b.entries
               last := b.last.map fun l => if l.id == r.id then { l with final := some (status, payload) } else l }) s
    queueRsp r.mb r.id final ws s1

/-- A final response made (R132); an `INTERNAL` status counts and raises `EV255` (R137, R590). -/
def finalMade (r : CmdRef) (status : Nat) (payload : List Byte) (s : Block) : Block :=
  let s1 := respondWith 0 r true status payload s
  if status != stInternal then s1
  else
    let op := ((findEntry r.id (s.box r.mb).entries).map fun e => e.opcode).getD 0
    raise 255 (op * 65536) { s1 with dbg := { s1.dbg with
      internalCnt := inc32 s1.dbg.internalCnt, internalLast := w32 (op * 65536) } }

/-- The final response of a command. In OUTAGE it waits for recovery: the command was accepted before the warning (02 R65,
05 R134). -/
def respondFinal (r : CmdRef) (status : Nat) (payload : List Byte) (s : Block) : Block :=
  if s.sys.mode == .outage then { s with mbx := { s.mbx with held := s.mbx.held ++ [⟨r, status, payload⟩] } }
  else finalMade r status payload s

/-- The responses that waited in OUTAGE, made in their order at recovery (R134). -/
def heldResponses (s : Block) : Block :=
  s.mbx.held.foldl (fun s h => finalMade h.cmd h.status h.payload s) { s with mbx := { s.mbx with held := [] } }

/-! ### Hardware locks (06 R176–R181) -/

def updLock (n : Nat) (f : Lock → Lock) (s : Block) : Block :=
  { s with pln.locks := tupd s.pln.locks n f }

/-- Owner code of a mailbox (Table 6-13). -/
def mbOwner (mb : Nat) : Nat := 16 + mb

def holdsLock (owner n : Nat) (s : Block) : Bool := (tget s.pln.locks n).owner == owner

/-- What an acquisition finds (R178): granted, must wait, or fails with a status. -/
inductive LockAns where
  | granted (s : Block)
  | wait
  | fail (status : Nat) (s : Block)

/-- The decision of R178 and R181 on one acquisition. -/
def lockAsk (owner n : Nat) (s : Block) : LockAns :=
  let l := tget s.pln.locks n
  if (upto (n + 1) 31).any fun k => holdsLock owner k s then .fail stLockOrder s
  else if l.owner == owner then .fail stBadParam s
  else if s.pln.locks.any fun l => l.waiters.any fun w => w.owner == owner then .fail stBusy s
  else if l.broken then .fail stLockBroken (updLock n (fun l => { l with broken := false }) s)
  else if l.owner == 0 then .granted (updLock n (fun l => { l with owner }) s)
  else .wait

/-- An entry's place in the start order. -/
def setPhase (r : CmdRef) (ph : Phase) (s : Block) : Block :=
  updBox r.mb (fun b => { b with entries := updEntry r.id (fun e => { e with phase := ph }) b.entries }) s

/-- A waiter that gets its lock: `CMD_LOCK_ACQUIRE` completes; a command that takes locks for itself goes on at
`COMMAND_START` (R178, R179). -/
def waiterGranted (n : Nat) (w : Waiter) (s : Block) : Block :=
  match w.cmd with
  | none => s
  | some r =>
    if w.resume then setPhase r .resume { s with pln.taken := (r, n) :: s.pln.taken } else respondFinal r stOk [] s

/-- A free lock, BROKEN or not, given to its longest waiter: on a BROKEN lock the first waiter fails with `LOCK_BROKEN`
and the next one gets it (R178, R181). A failed command that took locks of its own is marked to end. -/
def lockGive (n : Nat) (broken : Bool) : List Waiter → Block → Block
  | [], s => updLock n (fun l => { l with owner := 0, broken, waiters := [] }) s
  | w :: r, s =>
    if broken then
      lockGive n false r (match w.cmd with
        | none => s
        | some c => respondFinal c stLockBroken [] s)
    else waiterGranted n w (updLock n (fun l => { l with owner := w.owner, broken := false, waiters := r }) s)

/-- A lock released by its owner (R178). -/
def lockFree (n : Nat) (s : Block) : Block := lockGive n false (tget s.pln.locks n).waiters s

/-- Locks taken by commands that have had their final response, released (R179). -/
def sweepTaken (s : Block) : Block :=
  let above := s.pln.taken.filter fun t =>
    s.mbx.held.any (fun h => h.cmd == t.1) ||
    match findEntry t.1.id (s.box t.1.mb).entries with
    | none => true
    | some e => e.final.isSome
  above.foldl (fun s t => lockFree t.2 s) { s with pln.taken := s.pln.taken.filter fun t => !above.contains t }

/-- Bylith takes a lock that is free, in the name of Larkspur core 0 (R176, Table 6-13). -/
def coreTake (n : Nat) (s : Block) : Block :=
  if (tget s.pln.locks n).owner == 0 then updLock n (fun l => { l with owner := 1, broken := false }) s else s

def coreFree (n : Nat) (s : Block) : Block := if holdsLock 1 n s then lockFree n s else s

/-- A sequence of Bylith's that begins and ends within the instant, under its lock (R176). A lock that another owner holds does
not hold it back: that owner runs the sequence itself (R180's example). -/
def underLock (n : Nat) (f : Block → Block) (s : Block) : Block :=
  if (tget s.pln.locks n).owner == 0 then coreFree n (f (coreTake n s)) else f s

/-- The locks a command took for itself, released before its final response (R179). -/
def releaseTaken (r : CmdRef) (s : Block) : Block :=
  let mine := s.pln.taken.filter fun t => t.1 == r
  mine.foldl (fun s t => lockFree t.2 s) { s with pln.taken := s.pln.taken.filter fun t => t.1 != r }

/-- The final response of a command, after the locks it took are released (R132, R179). -/
def complete (r : CmdRef) (status : Nat) (payload : List Byte) (s : Block) : Block :=
  sweepTaken (respondFinal r status payload (releaseTaken r s))

/-- The interim `ACCEPTED` of a command that completes later, sent at most once (R132). -/
def respondAccepted (r : CmdRef) (s : Block) : Block :=
  if ((findEntry r.id (s.box r.mb).entries).map fun e => e.acc).getD true then s
  else updBox r.mb (fun b => { b with entries := updEntry r.id (fun e => { e with acc := true }) b.entries })
    (respondWith 0 r false stAccepted [] s)

/-- A command that may be waiting completed, if there is one. -/
def completeOpt (r : Option CmdRef) (status : Nat) (payload : List Byte) (s : Block) : Block :=
  match r with
  | none => s
  | some r => complete r status payload s

/-- Free entries of a mailbox (Table 5-7). -/
def Mailbox.free (b : Mailbox) : Nat := 16 - b.entries.length

/-! ### Host silence (01 R28, R29; 05 R136) -/

/-- A frame from the host: the watchdog restarts, the host channel stays alive (06 R180), a silent period ends (R29,
R136). Functions whose boundary is IMM (authorisation, load switches, update: bits 2, 7, 8) return at once. -/
def hostFrame (s : Block) : Block :=
  match s.mbx.silent with
  | none => { s with mbx := { s.mbx with lastHost := s.sys.mtime, chanAt := s.sys.mtime } }
  | some t0 =>
    raise 35 ((s.sys.mtime - t0) / 1000)
      { s with mbx := { s.mbx with
          lastHost := s.sys.mtime, chanAt := s.sys.mtime, silent := none
          fallback := clrBit (clrBit (clrBit s.mbx.fallback 2) 7) 8 } }

/-- Function `k` returns to host-assisted operation at its own boundary once the host is heard (R29). -/
def hostReturn (k : Nat) (s : Block) : Block :=
  if s.mbx.silent == none && bit s.mbx.fallback k then
    { s with mbx := { s.mbx with fallback := clrBit s.mbx.fallback k } }
  else s

/-! ### Acceptance (05 R124–R129) -/

/-- A completed request as the module holds it: header fields, the payload it takes in, CHK right or wrong. -/
structure Arrived where
  opcode : Nat
  tag    : Nat
  flags  : Nat
  len    : Nat
  seq    : Nat
  payload : List Byte
  chkOk  : Bool
  deriving DecidableEq, Repr, Inhabited

/-- A frame's bytes as a request (R122, R123). -/
def parseRequest (b : List Byte) : Arrived :=
  let len := u16At b 6
  let pl := if len > 4080 then [] else bytesAt b 16 len
  { opcode := u16At b 0, tag := u16At b 2, flags := u16At b 4, len, seq := u32At b 8, payload := pl
    chkOk := frameChk (bytesAt b 0 14) pl == u16At b 14 }

/-- A new entry for a completed request (R120). -/
def newEntry (mb : Nat) (a : Arrived) (ph : Phase) (s : Block) : CmdRef × Block :=
  let id := (s.box mb).nextId
  ({ mb, id }, updBox mb (fun b => { b with
      nextId := b.nextId + 1
      entries := b.entries ++ [{ id, opcode := a.opcode, tag := a.tag, flags := a.flags, seq := a.seq, len := a.len
                                 payload := a.payload, phase := ph, final := none, acc := false }] }) s)

/-- An answer outside the SEQ order goes by the transport the request came by, where the mailbox is unbound. DESIGN CHOICE:
where it is bound, a SYNC request from another transport that fails a check of steps 1 to 3 is answered by the bound transport,
since responses go only there (R127). -/
def viaTransport (mb via : Nat) (f : Block → Block) (s : Block) : Block :=
  if (s.box mb).bind == 0 then
    updBox mb (fun b => { b with bind := 0 }) (f (updBox mb (fun b => { b with bind := via }) s))
  else f s

/-- The answer of a request that fails step 1, 2 or 3 of Table 5-4 (R128). -/
def answerFailed (mb via : Nat) (a : Arrived) (extra status : Nat) (s : Block) : Block :=
  let (r, s1) := newEntry mb a .answered s
  viaTransport mb via (respondWith extra r true status []) s1

/-- The answer of a duplicate (R129). -/
def answerDup (mb via : Nat) (a : Arrived) (l : LastReq) (s : Block) : Block :=
  let (r, s1) := newEntry mb a .answered s
  viaTransport mb via (match l.final with
    | some (st, p) => queueRsp mb r.id true (responseWords a.opcode a.tag (flRsp + flFinal + flDup) a.seq st p)
    | none => queueRsp mb r.id true (responseWords a.opcode a.tag (flRsp + flDup) a.seq stAccepted [])) s1

/-- Step 3's SEQ condition on a request that is no duplicate (R129). -/
def seqOk (b : Mailbox) (a : Arrived) : Bool :=
  bit a.flags 0 ||
  match b.last with
  | none => true
  | some l => a.seq == (l.seq + 1) % 4294967296

/-- The duplicate test of R129; a SYNC request restarts the sequence instead. -/
def isDup (b : Mailbox) (a : Arrived) : Option LastReq :=
  if bit a.flags 0 then none
  else match b.last with
    | none => none
    | some l => if a.seq == l.seq then some l else none

/-- Steps 1 to 3 of Table 5-4 on a request that arrives by transport `via` (1 HSPI, 2 ETH1, 3 ETH2). A request
accepted in OUTAGE is answered with `NOT_IN_MODE` at once (R134). -/
def arrive (mb via : Nat) (a : Arrived) (s : Block) : Block :=
  let b := s.box mb
  if !a.chkOk then answerFailed mb via a flChkErr stBadParam s
  else if a.len > 4080 then answerFailed mb via a 0 stBadLength s
  else match isDup b a with
    | some l => answerDup mb via a l (hostFrame s)
    | none =>
      if !seqOk b a || a.flags ≥ 4 || b.entries.any (fun e => e.tag == a.tag) then
        answerFailed mb via a 0 stBadParam s
      else
        let s0 := hostFrame (updBox mb (fun b => { b with bind := via }) s)
        let (r, s1) := newEntry mb a .waiting s0
        let s2 := updBox mb (fun b => { b with last := some { seq := a.seq, id := r.id, final := none } }) s1
        if s2.sys.mode == .outage then
          respondWith 0 r true stNotInMode []
            (updBox mb (fun b => { b with entries := updEntry r.id (fun e => { e with phase := .answered }) b.entries })
              s2)
        else s2

/-- A request from another transport is admitted only by the binding rule of R127. -/
def bindOk (b : Mailbox) (via flags : Nat) : Bool :=
  b.bind == 0 || b.bind == via || (bit flags 0 && b.entries.isEmpty)

/-! ### Start (05 R130) -/

/-- The next command of a mailbox that may start: every earlier one has started, BARRIER holds (R130). -/
def nextReady : List Entry → Bool → Option Entry
  | [], _ => none
  | e :: r, openBefore =>
    match e.phase with
    | .answered => nextReady r openBefore
    | .started | .blocked | .resume =>
      if e.final == none && bit e.flags 1 then none else nextReady r (openBefore || e.final == none)
    | .waiting => if bit e.flags 1 && openBefore then none else some e

/-- An entry marked as started. -/
def markStarted (r : CmdRef) (s : Block) : Block :=
  updBox r.mb (fun b => { b with entries := updEntry r.id (fun e => { e with phase := .started }) b.entries }) s

/-! ### Resource claims (04 R114–R117) -/

/-- One claim: refused where another feature holds the resource, counted and recorded (R115). -/
def claim (res feat : Nat) (s : Block) : Bool × Block :=
  let h := tget s.pin.holder res
  if h == 0 || h == feat then (true, { s with pin := { s.pin with holder := tput s.pin.holder res feat } })
  else (false, { s with pin := { s.pin with
      refuseCnt := inc32 s.pin.refuseCnt
      lastRefuse := reg [fld 23 16 res, fld 15 8 feat, fld 7 0 h] } })

/-- Several resources claimed for one feature, all or nothing, in ascending order (R115). -/
def claimAll (feat : Nat) (res : List Nat) (s : Block) : Bool × Block :=
  match res.filter fun r => tget s.pin.holder r != 0 && tget s.pin.holder r != feat with
  | r :: _ => claim r feat s
  | [] => (true, res.foldl (fun s r => (claim r feat s).2) s)

/-- A feature's claims released (R115). -/
def unclaim (feat : Nat) (s : Block) : Block :=
  { s with pin := { s.pin with holder := s.pin.holder.map fun h => if h == feat then 0 else h } }

/-! ### Mode changes (03 R77–R90) -/

/-- The staging areas of the site configuration and of the safety parameter set emptied (R150, 13 R405). -/
def stageEmpty (s : Block) : Block := { s with cfg := { s.cfg with stage := none }, saf := { s.saf with stage := none } }

/-! ### What Bylith writes into the tag (15 R456, R457) -/

/-- `SYS_ID.STEP` and the identity word (Table 4-7). -/
def sysId : Word := reg [fld 31 16 0x6412, fld 15 8 0x08, fld 7 0 Config.step.toNat]

/-- LIFECYCLE code (Table 3-4, Table 4-9). -/
def lifecycle (s : Block) : Nat :=
  if s.sys.rootDisable then 3 else if s.sys.provDone then 2 else if s.sys.provOpen then 1 else 0

/-- The wired port of the tag serves: its session is up, or the tag holds no key and so asks for none. -/
def wiredOk (s : Block) : Bool := s.tag.port || s.tag.key.isNone

/-- Blocks of the tag written by Bylith from a block on, where it runs and the port serves. -/
def tagPut (block : Nat) (d : List Byte) (s : Block) : Block :=
  if wiredOk s && !bylithDown s && s.pwr.heldBy == .no then { s with tag.out := s.tag.out ++ [(128 * block, d)] } else s

end Sys2Proof.Machine
end

