-- ==== Sys2Proof/Machine/HostRegs.lean ====
section
/-!
DEFINITION. The registers of the blocks SYS, HST, MBX, EVT, CKP and PIN as the host reads them (04 R111–R113, R119;
05 R140, R148), and the DBG block (21 R592). An address that no description names answers none: it is reserved (R93).
-/

namespace Sys2Proof.Machine

/-- Modes in which the window is served at all (R101, Table 4-5), with the two exceptions of R101. -/
def served (s : Block) : Bool :=
  s.sys.mode != .selftest && s.pwr.heldBy == .no && !s.pwr.larkspurDown

/-- `SYS_LIFECYCLE` (Table 4-9). -/
def sysLifecycle (s : Block) : Word :=
  reg [fld 9 8 (lifecycle s), fld 2 2 (b2n s.sys.rootDisable), fld 1 1 (b2n s.sys.provDone), fld 0 0 (b2n s.sys.provOpen)]

/-- `SYS_MODE` (Table 4-10). -/
def sysMode (s : Block) : Word :=
  reg [fld 31 24 ((s.sys.trans.map fun t => t.target.code).getD 0), fld 23 16 s.sys.prevMode,
       fld 15 8 s.sys.modeCause, fld 7 0 s.sys.mode.code]

/-- A valid expert grant is installed (R139): present and not expired; its serial was checked at installation. -/
def grantValid (s : Block) : Bool :=
  match s.cru.grant with
  | none => false
  | some g => g.serial == serialNum && g.expiry > s.sys.mtime

/-- `SYS_FLAGS` (Table 4-14). -/
def sysFlags (s : Block) : Word :=
  reg [fld 9 9 (b2n (grantValid s)), fld 8 8 (b2n (s.cru.evalCause == 0)), fld 1 1 (b2n s.sys.commitGap),
       fld 0 0 (b2n s.sys.timeGap)]

/-- Service-state nibbles of outlets `a` to `b` (Table 4-13). -/
def svcNibbles (a b : Nat) (s : Block) : Word :=
  reg ((upto a b).map fun n => fld (4 * (n - a) + 3) (4 * (n - a)) (s.svcOf n))

/-- The release of manifest part `k` (Table 4-19). -/
def sysVer (k : Nat) (s : Block) : Word := tget s.upd.ver k

/-- SYS block reads (R111). -/
def rdSys (a : Nat) (s : Block) : Option Word :=
  if a == 0x00 then some sysId
  else if a == 0x04 then some (lo32 serialNum)
  else if a == 0x08 then some (hi32 serialNum)
  else if a == 0x0C then some (sysLifecycle s)
  else if a == 0x10 then some (sysMode s)
  else if a == 0x14 then some (w32 s.split)
  else if a == 0x18 then some (w32 (s.cfg32 0x0001 4 % 8))
  else if a == 0x1C then some (svcNibbles 1 8 s)
  else if a == 0x20 then some (svcNibbles 9 12 s)
  else if a == 0x24 then some (sysFlags s)
  else if a == 0x28 then some (lo32 s.sys.mtime)
  else if a == 0x2C then some (hi32 s.sys.mtime)
  else if a == 0x30 then some (lo32 (tc 64 s.sys.wallOfs))
  else if a == 0x34 then some (hi32 (tc 64 s.sys.wallOfs))
  else if a == 0x38 then some (w32 (b2n s.sys.bankB))
  else if a == 0x3C then some s.sys.scratch
  else if 0x40 ≤ a && a ≤ 0x60 then some (sysVer ((a - 0x40) / 4) s)
  else none

/-- HST block reads (R112). -/
def rdHst (a : Nat) (s : Block) : Option Word :=
  let h := s.hst
  if a == 0x00 then
    some (reg [fld 8 8 (b2n (served s)), fld 3 3 (b2n h.notperf), fld 2 2 (b2n h.abort), fld 1 1 (b2n h.crc),
               fld 0 0 (b2n h.berr)])
  else if a == 0x04 then some (w32 h.berrCnt)
  else if a == 0x08 then some h.berrAddr
  else if a == 0x0C then some (w32 h.crcCnt)
  else if a == 0x10 then some (w32 h.abortCnt)
  else if a == 0x14 then some (w32 h.frameCnt)
  else none

/-- The mailbox of a port address, which all 16 words of a mailbox share (Table 5-9). -/
def portOf (addr : Nat) : Option Nat :=
  if 0x021000 ≤ addr && addr < 0x021800 && (addr - 0x021000) % 0x100 < 0x40 then some ((addr - 0x021000) / 0x100)
  else none

/-- `MBX_REQ_STATn` (Table 5-7). -/
def mbxReqStat (b : Mailbox) : Word :=
  reg [fld 31 24 b.epoch, fld 23 22 b.bind, fld 21 17 b.free, fld 10 0 b.asm.length]

/-- `MBX_RSP_STATn` (Table 5-8). -/
def mbxRspStat (b : Mailbox) : Word :=
  match b.rsps with
  | [] => 0
  | r :: _ => reg [fld 31 31 1, fld 21 16 b.rsps.length, fld 10 0 r.words.length]

/-- MBX status reads; the ports are served by the access itself (R133). -/
def rdMbx (a : Nat) (s : Block) : Option Word :=
  if a < 0x20 then some (mbxReqStat (s.box (a / 4)))
  else if a < 0x40 then some (mbxRspStat (s.box ((a - 0x20) / 4)))
  else none

/-- The route of event bit `i` of a group (Table 5-14). -/
def EvtGroup.route (g : EvtGroup) (i : Nat) : Nat :=
  if i < 16 then bits g.routeLo (2 * i + 1) (2 * i) else bits g.routeHi (2 * (i - 16) + 1) (2 * (i - 16))

/-- Group `g` has a PEND event routed to line `k` (Table 5-15). -/
def groupOnLine (g : EvtGroup) (k : Nat) : Bool :=
  (List.range 32).any fun i => bit g.raw i && bit g.irqen i && g.route i == k

/-- Groups with a PEND event routed to line `k`. -/
def lineGroups (s : Block) (k : Nat) : Nat :=
  maskOf ((List.range 8).filter fun g => groupOnLine (tget s.evt.groups g) k)

/-- IRQk_N is asserted (R144). -/
def irqLine (s : Block) (k : Nat) : Bool := lineGroups s k != 0

/-- Word `i` of a queue entry (Table 5-12). -/
def QEntry.word (q : QEntry) (i : Nat) : Word :=
  match i with
  | 0 => reg [fld 31 31 1, fld 30 30 (b2n q.test), fld 23 8 q.seq, fld 7 0 q.ev]
  | 1 => lo32 q.mtime
  | 2 => hi32 q.mtime
  | 3 => lo32 (tc 64 q.wall)
  | 4 => hi32 (tc 64 q.wall)
  | _ => w32 q.data

/-- EVT block reads (R148). -/
def rdEvt (a : Nat) (s : Block) : Option Word :=
  if a < 0x800 then
    let g := tget s.evt.groups (a / 0x100)
    match a % 0x100 with
    | 0x00 => some (w32 g.raw)
    | 0x04 => some (w32 g.irqen)
    | 0x08 => some (w32 g.routeLo)
    | 0x0C => some (w32 g.routeHi)
    | 0x10 => some (w32 g.qen)
    | 0x14 => some (w32 (Nat.land g.raw g.irqen))
    | 0x18 => some (w32 g.ovf)
    | 0x1C => some 0
    | _ => none
  else if 0x1000 ≤ a && a < 0x1020 then
    let k := (a - 0x1000) / 8
    if a % 8 == 0 then some (reg [fld 8 8 (b2n (irqLine s k)), fld 7 0 (lineGroups s k)])
    else if a % 8 == 4 then some (w32 (b2n (tget s.evt.pushPull k)))
    else none
  else if a == 0x2000 then some (reg [fld 31 16 s.evt.lost, fld 9 0 s.evt.queue.length])
  else if a == 0x2004 then some 0
  else if 0x2010 ≤ a && a < 0x2028 then
    some (match s.evt.queue with
      | [] => 0
      | q :: _ => q.word ((a - 0x2010) / 4))
  else none

/-- Larkspur resets within the current 600 s window (R55, Table 4-29). -/
def lrstNow (s : Block) : Nat := (s.pwr.lrst.filter fun t => s.sys.mtime < t + 600000).length

/-- `CKP_RAIL_STAT` (Table 4-25). -/
def ckpRailStat (s : Block) : Word :=
  let p := s.pwr
  reg [fld 8 8 (b2n p.pfw), fld 5 5 (b2n (!p.vholdLow)), fld 4 4 (b2n p.vddioOk), fld 3 3 (b2n p.vledOk),
       fld 2 2 (b2n p.vcpnOk), fld 1 1 (b2n p.vcppOk), fld 0 0 (b2n p.vinOk)]

/-- `CKP_HOLD_STAT` (Table 4-29). -/
def ckpHoldStat (s : Block) : Word :=
  reg [fld 15 8 (lrstNow s), fld 1 1 (b2n s.pwr.cstop.isSome), fld 0 0 (b2n s.pwr.holdover.isSome)]

/-- CKP block reads (R113). -/
def rdCkp (a : Nat) (s : Block) : Option Word :=
  let p := s.pwr
  if a == 0x00 then some (reg [fld 15 8 p.rstPrev, fld 7 0 p.rstCause])
  else if a == 0x04 then some (ckpRailStat s)
  else if a == 0x08 then some (reg [fld 31 16 p.vhold, fld 15 0 p.vin])
  else if a == 0x0C then some (reg [fld 9 8 p.pfwSrc, fld 0 0 (s.cfg8 0x0001 10)])
  else if a == 0x10 then some 0
  else if a == 0x14 then some (ckpHoldStat s)
  else none

/-- FUNCi of `PIN_MUX`: the first claimant of a resource 0 to 4 reads 1, the second 2 (Table 4-30, Table 4-31). -/
def pinFunc (h : Nat) : Nat := if h == 0 then 0 else if h == 1 || h == 3 then 1 else 2

/-- PIN block reads (R119). -/
def rdPin (a : Nat) (s : Block) : Option Word :=
  if a == 0x00 then
    some (reg ((List.range 5).map fun i => fld (2 * i + 1) (2 * i) (pinFunc (tget s.pin.holder i))))
  else if a == 0x04 then some (w32 s.pin.refuseCnt)
  else if a == 0x08 then some s.pin.lastRefuse
  else if 0x100 ≤ a && a ≤ 0x124 then
    let h := tget s.pin.holder ((a - 0x100) / 4)
    some (reg [fld 31 31 (b2n (h != 0)), fld 7 0 h])
  else none

/-- The dump in the partition of the active bank, and whether it is acknowledged (R583, R585; 01 R13). -/
def Block.flash (s : Block) : Option Dump := tget s.dbg.parts (b2n s.sys.bankB)
def Block.acked (s : Block) : Bool := tget s.dbg.acks (b2n s.sys.bankB)

/-- The dump held: the newest, which the DRAM copy is while there is one, else the flash copy (R583, R585). -/
def dumpHeld (s : Block) : Option Dump :=
  match s.dbg.dram, s.flash with
  | some d, _ => some d
  | none, f => f

/-- STATE of `DBG_DUMP_STAT` (Table 21-11). -/
def dumpState (s : Block) : Nat :=
  if s.dbg.writing.isSome then 1
  else match s.dbg.dram, s.flash with
    | none, none => 0
    | some d, some f => if d.dseq == f.dseq then 3 else 2
    | some _, none => 2
    | none, some _ => 4

/-- FLAGS of a dump's header: flash copy complete, TRUNCATED, section 7 partial in flash (Table 21-6). -/
def dumpFlags (s : Block) (d : Dump) : Nat :=
  let inFlash := (s.flash.map fun f => f.dseq == d.dseq).getD false
  b2n inFlash + 2 * b2n d.truncated + 4 * b2n inFlash

/-- DBG block reads (R592). -/
def rdDbg (a : Nat) (s : Block) : Option Word :=
  let d := s.dbg
  let h := dumpHeld s
  if a == 0x00 then
    some (reg [fld 31 31 (b2n (!logBlocked s && d.logPend != [])), fld 30 30 (b2n (d.alog.length ≥ 4096)),
               fld 7 0 d.lastEv])
  else if a == 0x04 then some (w32 d.lseq)
  else if a == 0x08 then some (reg [fld 31 16 d.lost, fld 14 0 d.log.length])
  else if a == 0x0C then some (reg [fld 7 0 d.logPend.length])
  else if a == 0x10 then some (reg [fld 12 0 d.alog.length])
  else if a == 0x14 then
    some (reg ([fld 31 29 (dumpState s), fld 28 28 (b2n s.acked)] ++
      match h with
      | none => []
      | some x => [fld 23 16 x.cause, fld 15 8 x.core, fld 7 0 (dumpFlags s x)]))
  else if a == 0x18 then some (w32 ((h.map fun x => x.dseq).getD 0))
  else if a == 0x1C then some (lo32 ((h.map fun x => x.mtime).getD 0))
  else if a == 0x20 then some (hi32 ((h.map fun x => x.mtime).getD 0))
  else if a == 0x24 then some (lo32 ((h.map fun x => x.detail).getD 0))
  else if a == 0x28 then some (hi32 ((h.map fun x => x.detail).getD 0))
  else if a == 0x2C then some (w32 d.fatalCnt)
  else if a == 0x30 then some (w32 d.internalCnt)
  else if a == 0x34 then some d.internalLast
  else if a == 0x38 then some d.eccLast
  else if a == 0x3C then some (lo32 d.eccAddr)
  else if a == 0x40 then some (hi32 d.eccAddr)
  else if a == 0x44 then some (reg [fld 31 16 d.scrubAge, fld 15 0 d.scrubs])
  else if 0x100 ≤ a && a < 0x148 then
    let m := (a - 0x100) / 8
    some (w32 (if a % 8 == 0 then tget d.ce m else tget d.ue m))
  else if 0x200 ≤ a && a < 0x230 then
    let c := tget d.st ((a - 0x200) / 4)
    some (reg [fld 31 16 c.runs, fld 15 8 c.fails, fld 0 0 (b2n c.last)])
  else none

/-! ### Writes of these blocks -/

/-- What a host write of one word does: a bus error, not performed (R103), or performed. -/
inductive Wr where
  | berr
  | notPerf
  | ok (s : Block)

/-- A write of an RW-B register waits in its shadow for the boundary (R107). -/
def shadowPut (a v : Nat) (s : Block) : Block := { s with shadows := (a, w32 v) :: eraseN a s.shadows }

/-- Some shadow is pending at an address that meets a condition (R108). -/
def shadowAny (p : Nat → Bool) (s : Block) : Bool := s.shadows.any fun x => p x.1

/-- Shadows discarded (R108). -/
def shadowDrop (p : Nat → Bool) (s : Block) : Block := { s with shadows := s.shadows.filter fun x => !p x.1 }

/-- SYS writes: `SYS_SCRATCH` and the W1C bits of `SYS_FLAGS` (R111); the rest is RO (R8). -/
def wrSys (a v : Nat) (s : Block) : Wr :=
  if a == 0x3C then .ok { s with sys := { s.sys with scratch := w32 v } }
  else if a == 0x24 then
    .ok { s with sys := { s.sys with commitGap := s.sys.commitGap && !bit v 1, timeGap := s.sys.timeGap && !bit v 0 } }
  else match rdSys a s with
    | none => .berr
    | some _ => .ok s

/-- HST writes: the W1C bits of `HST_STATUS` (R112). -/
def wrHst (a v : Nat) (s : Block) : Wr :=
  if a == 0x00 then
    .ok { s with hst := { s.hst with
      notperf := s.hst.notperf && !bit v 3, abort := s.hst.abort && !bit v 2, crc := s.hst.crc && !bit v 1
      berr := s.hst.berr && !bit v 0 } }
  else match rdHst a s with
    | none => .berr
    | some _ => .ok s

/-- The head of the event queue removed (R146). -/
def evtPop (s : Block) : Block :=
  match s.evt.queue with
  | [] => s
  | _ :: r => { s with evt := { s.evt with queue := r, refusing := false } }

/-- LOST of the event queue cleared (R146). -/
def evtClrLost (s : Block) : Block := { s with evt := { s.evt with lost := 0 } }

def updGroup (g : Nat) (f : EvtGroup → EvtGroup) (s : Block) : Block :=
  { s with evt := { s.evt with groups := tupd s.evt.groups g f } }

/-- W1C of RAW bits (R143). -/
def rawClear (g v : Nat) (s : Block) : Block :=
  updGroup g (fun x => { x with raw := x.raw - Nat.land x.raw v }) s

/-- The event is defined (R142; 06 R187; 08 R253; 09 R290; 10 R327; 11 R364; 13 R408; 14 R440; 15 R463; 17 R513): the others
never occur and read 0. -/
def evDefined (e : Nat) : Bool :=
  !((18 ≤ e && e ≤ 31) || e == 39 || (50 ≤ e && e ≤ 63) || (88 ≤ e && e ≤ 95) || (115 ≤ e && e ≤ 127) || e == 142 || e == 143 ||
    e == 158 || e == 159 || (178 ≤ e && e ≤ 191) || (204 ≤ e && e ≤ 207) || (221 ≤ e && e ≤ 223) || e == 239)

/-- Test occurrences of the events written, in ascending number, with data 0xFFFF_FFFF (R145, R146). -/
def evtSet (g v : Nat) (s : Block) : Block :=
  ((List.range 32).filter fun i => bit v i && evDefined (32 * g + i)).foldl (fun s i => raiseAs true (32 * g + i) 0xFFFFFFFF s) s

/-- EVT writes (R143–R148). -/
def wrEvt (a v : Nat) (s : Block) : Wr :=
  if a < 0x800 then
    let g := a / 0x100
    match a % 0x100 with
    | 0x00 => .ok (rawClear g v s)
    | 0x04 => .ok (updGroup g (fun x => { x with irqen := v }) s)
    | 0x08 => .ok (updGroup g (fun x => { x with routeLo := v }) s)
    | 0x0C => .ok (updGroup g (fun x => { x with routeHi := v }) s)
    | 0x10 => .ok (updGroup g (fun x => { x with qen := v }) s)
    | 0x14 => .ok s
    | 0x18 => .ok (updGroup g (fun x => { x with ovf := x.ovf - Nat.land x.ovf v }) s)
    | 0x1C => if s.sys.mode == .commission then .ok (evtSet g v s) else .notPerf
    | _ => .berr
  else if 0x1000 ≤ a && a < 0x1020 && a % 8 == 4 then
    .ok { s with evt := { s.evt with pushPull := tput s.evt.pushPull ((a - 0x1000) / 8) (bit v 0) } }
  else if a == 0x2004 then
    let s1 := if bit v 1 then evtClrLost s else s
    .ok (if bit v 0 then evtPop s1 else s1)
  else match rdEvt a s with
    | none => .berr
    | some _ => .ok s

/-- PIN writes: every register is RO (R119). -/
def wrPin (a : Nat) (s : Block) : Wr :=
  match rdPin a s with
  | none => .berr
  | some _ => .ok s

/-- DBG writes: every register is RO (R592). -/
def wrDbg (a : Nat) (s : Block) : Wr :=
  match rdDbg a s with
  | none => .berr
  | some _ => .ok s

/-- MBX status writes: RO (R140). -/
def wrMbx (a : Nat) (s : Block) : Wr :=
  match rdMbx a s with
  | none => .berr
  | some _ => .ok s

end Sys2Proof.Machine
end

