-- ==== Sys2Proof/Machine/Status.lean ====
section
/-!
DEFINITION. What the module tells the service tag of itself (15 R456; 21 R586–R588), and the mode and service-state
changes that write it (03 R77, R90).
-/

namespace Sys2Proof.Machine

/-- Outlets 1 to 12. -/
def outlets : List Nat := upto 1 12

/-! ### Parts of the state by number -/

def Block.ol (s : Block) (n : Nat) : Outlet := tget s.out.o (n - 1)
def Block.ses (s : Block) (n : Nat) : Session := (s.ol n).ses
def Block.ao (s : Block) (n : Nat) : AlcOutlet := tget s.alc.outlets (n - 1)
def Block.drv (s : Block) (k : Nat) : Driver := tget s.alc.drivers (k - 1)
def Block.rc (s : Block) (n : Nat) : RcmOutlet := tget s.rcm.o (n - 1)
def Block.ovr (s : Block) (n : Nat) : Ovr := tget s.pln.ovr (n - 1)


/-- The visible accumulators of point p (08 R231). -/
def accVis (p : Nat) (s : Block) : List Nat := (tget s.nrg.accs p).map fun v => v / 4294967296

/-! ### Registers that the summary carries -/

def Block.b8 (s : Block) (o : Nat) : Nat := s.cfg8 0x0005 o
def Block.ppen (s : Block) : Bool := s.b8 0 == 1

/-- Entries in the billing queue. -/
def queueLen (l : List BilQ) : Nat := l.foldl (fun a u => a + u.acts.length) 0

def PpState.code : PpState → Nat
  | .connected => 0 | .armed => 1 | .disconnected => 2 | .reconnectAllowed => 3 | .failed => 4

/-- `BIL_STAT` (Table 9-18). -/
def bilStat (s : Block) : Word :=
  let b := s.bil
  reg [fld 31 29 b.pp.code, fld 28 28 (b2n s.ppen), fld 27 27 (b2n b.ecActive), fld 26 26 (b2n b.friendly),
       fld 25 25 (b2n b.capStop), fld 24 24 (b2n (s.assisted 4)), fld 23 16 (queueLen b.queue), fld 10 8 b.lastSource]

/-- The outlets of a condition, bit n − 1 for outlet n. -/
def outletMask (p : Nat → Bool) : Nat := maskOf ((outlets.filter p).map (· - 1))

/-- `RCM_FAULTMAP` (Table 12-8). -/
def rcmFaultMap (s : Block) : Word :=
  reg [fld 23 12 (outletMask fun n => (s.rc n).warn), fld 11 0 (outletMask fun n => (s.rc n).cause != 0)]

def secMagMask (s : Block) : Nat := maskOf ((List.range 4).filter fun i => (tget s.cru.mags i).ovr)

/-- `SEC_TAMPER_STAT` (Table 14-14). -/
def secTamperStat (s : Block) : Word :=
  let c := s.cru
  reg [fld 31 31 (b2n c.alarm), fld 30 30 (b2n c.zpend), fld 23 16 c.tmpOpen, fld 15 15 (b2n c.mesh), fld 3 0 (secMagMask s)]

/-! ### Log entries and the tag's blocks -/

/-- An event-log entry as its 32 bytes (Table 21-1). -/
def LogEntry.bytes (e : LogEntry) : List Byte :=
  p32 e.lseq ++ p8 e.ev ++ p8 e.flags ++ p16 0 ++ p64 e.mtime ++ pi64 e.wall ++ p32 e.data ++ p32 0

/-- The newest `n` entries, newest first, zero-filled. DESIGN CHOICE: the spec gives no order. -/
def newestLog (n : Nat) (s : Block) : List Byte := fixLen (32 * n) ((s.dbg.log.take n).flatMap fun e => e.bytes)

/-- The STATUS blocks 8 to 15 (R587). -/
def statusBytes (s : Block) : List Byte :=
  fixLen 512 (p64 s.sys.mtime ++ pi64 s.sys.wallOfs ++
    wordBytes [sysMode s, sysFlags s, svcNibbles 1 8 s, svcNibbles 9 12 s] ++ pi64 s.bil.credit ++
    wordBytes [bilStat s, w32 s.bil.iseq, rcmFaultMap s, secTamperStat s, w32 s.dbg.fatalCnt,
               w32 (((dumpHeld s).map fun d => d.dseq).getD 0)] ++
    (List.range 13).flatMap fun p => p64 (tget (accVis p s) 0) ++ p64 (tget (accVis p s) 1)) ++ newestLog 16 s

def statusWrite (s : Block) : Block := tagPut 8 (statusBytes s) s

/-- The IDENT block (Table 15-7), written at each start and mode change. -/
def identWrite (s : Block) : Block :=
  tagPut 0 (p64 serialNum ++ p32 sysId.toNat ++ p8 (lifecycle s) ++ p8 s.sys.mode.code ++ p16 0 ++ p64 s.sys.mtime ++
    wordBytes ((List.range 9).map fun n => tget s.upd.ver n) ++ p32 0 ++ fixLen 32 s.cru.siteId ++ zeros 32) s

/-- A completed mode change: the register, `EV012` with old code, new code and cause (R77, Table 3-9). Leaving STANDBY
empties the configuration staging area (R150); the tag's IDENT and STATUS blocks are written (15 R456, 21 R587). -/
def setMode (m : Mode) (cause : Nat) (s : Block) : Block :=
  let old := s.sys.mode
  let s0 := if old == .standby && m != .standby then stageEmpty s else s
  let s1 := raise 12 (old.code * 65536 + m.code * 256 + cause)
    { s0 with sys := { s0.sys with mode := m, prevMode := old.code, modeCause := cause } }
  statusWrite (identWrite s1)

/-- Every fitted outlet is IN_SERVICE (R90). -/
def allInService (s : Block) : Bool := (upto 1 12).all fun n => !s.fitted n || s.svcOf n == 1

/-- SERVICE or DEGRADED as R90 decides. -/
def serviceMode (s : Block) : Mode := if allInService s then .service else .degraded

/-- The mode follows the outlets' service states between SERVICE and DEGRADED, cause 0x18 (R90, Table 3-2). -/
def followService (s : Block) : Block :=
  if (s.sys.mode == .service || s.sys.mode == .degraded) && s.sys.mode != serviceMode s then
    setMode (serviceMode s) 0x18 s
  else s

/-- A change of an outlet's service state: `EV014`, then the mode (R90, Table 3-9). -/
def svcSet (n st : Nat) (s : Block) : Block :=
  let old := s.svcOf n
  if old == st || n == 0 || n > 12 then s
  else followService (raise 14 (n * 256 + old * 16 + st) { s with sys := { s.sys with svc := tput s.sys.svc (n - 1) st } })

end Sys2Proof.Machine
end

