-- ==== Sys2Proof/Machine/Run.lean ====
section
/-!
DEFINITION. How a mailbox command runs: what a command is, checks 4 to 9 of Table 5-4 in their order, the execution of
its body, and its response (05 R128–R132, R139; 01 R31, R32).
-/

namespace Sys2Proof.Machine

/-- What a command's body answers: a final status with its payload, or an interim `ACCEPTED` with the final response
to follow (R132). A status other than `OK` carries the state unchanged unless the command's chapter says otherwise
(R137). -/
inductive CmdRes where
  | done (s : Block) (status : Nat) (payload : List Byte)
  | accepted (s : Block)
  /-- no response yet -/
  | waits (s : Block)

/-- The mailboxes that accept a command (Table 5-1): MB0 only, MB1 only, MB2–MB7, every mailbox, MB1–MB7. -/
inductive Role where
  | mb0 | mb1 | general | any | notMb0
  deriving DecidableEq, Repr

def Role.accepts : Role → Nat → Bool
  | .mb0, mb => mb == 0
  | .mb1, mb => mb == 1
  | .general, mb => 2 ≤ mb && mb ≤ 7
  | .any, mb => mb ≤ 7
  | .notMb0, mb => 1 ≤ mb && mb ≤ 7

/-- One command of the opcode tables: opcode, mailboxes, modes, what its payload adds to them (06 R158), LENGTH, the checks of steps 9 and 10 that come before the
locks it takes (R179), those locks, and its body (the remaining checks and the effect). -/
structure CmdSpec where
  op    : Nat
  role  : Role
  modes : List Mode
  modeOf : List Byte → Block → Bool := fun _ _ => true
  len   : List Byte → Bool
  pre   : CmdRef → List Byte → Block → Option Nat := fun _ _ _ => none
  lock  : List Byte → Block → List Nat := fun _ _ => []
  body  : CmdRef → List Byte → Block → CmdRes

/-- A refusal with nothing changed (R128). -/
def refuse (status : Nat) (s : Block) : CmdRes := .done s status []

/-- A completed command with its payload. -/
def ok (payload : List Byte) (s : Block) : CmdRes := .done s stOk payload

/-- A command is expert when its opcode's low byte is 0x80 to 0xFF (R31). -/
def isExpert (op : Nat) : Bool := op % 256 ≥ 128

/-- The first of checks 5 to 8 of Table 5-4 that fails. -/
def checkFails (c : CmdSpec) (mb : Nat) (p : List Byte) (s : Block) : Option Nat :=
  if !c.role.accepts mb then some stBadParam
  else if !(s.inMode c.modes && c.modeOf p s) then some stNotInMode
  else if isExpert c.op && !grantValid s then some stExpert
  else if !c.len p then some stBadLength
  else none

/-- The response of a command body's answer (R132). -/
def answer (r : CmdRef) : CmdRes → Block
  | .done s st p => complete r st p s
  | .accepted s => respondAccepted r s
  | .waits s => s

/-- How the taking of a command's locks ends (R179). -/
inductive Taken where
  | all (s : Block)
  | wait (s : Block)
  | fail (status : Nat) (s : Block)

/-- The locks that a command's chapter names, taken in ascending order in its mailbox's name; those the mailbox already
holds count as taken; each wait lasts at most 1 s (R178, R179). -/
def takeLocks (r : CmdRef) : List Nat → Block → Taken
  | [], s => .all s
  | n :: l, s =>
    if holdsLock (mbOwner r.mb) n s then takeLocks r l s
    else match lockAsk (mbOwner r.mb) n s with
      | .granted s => takeLocks r l { s with pln.taken := (r, n) :: s.pln.taken }
      | .fail st s => .fail st s
      | .wait => .wait (setPhase r .blocked (updLock n (fun k => { k with waiters := k.waiters ++
          [{ owner := mbOwner r.mb, deadline := s.sys.mtime + 1000, cmd := some r, resume := true }] }) s))

/-- A command past checks 5 to 8: its own checks, its locks, then its body and its response; one that waits for a lock answers
`ACCEPTED` meanwhile (R128, R132, R179). -/
def runChecked (c : CmdSpec) (r : CmdRef) (p : List Byte) (s : Block) : Block :=
  match c.pre r p s with
  | some st => complete r st [] s
  | none =>
    match takeLocks r (c.lock p s) s with
    | .fail st s => complete r st [] s
    | .wait s => respondAccepted r s
    | .all s => answer r (c.body r p s)

/-- A command that has started: its checks, its locks, its body, its response (R128, R132). -/
def runStarted (c : CmdSpec) (r : CmdRef) (p : List Byte) (s : Block) : Block :=
  match checkFails c r.mb p s with
  | some st => complete r st [] s
  | none => runChecked c r p s

/-- A request of command `c` as a frame (R122): its CHK is right. -/
def reqArrived (c : CmdSpec) (h : Req) (p : List Byte) : Arrived :=
  { opcode := c.op, tag := h.tag.toNat, flags := h.flags.toNat, len := p.length, seq := h.seq.toNat, payload := p
    chkOk := true }

/-- Commands start now: not between a power-fail warning and recovery (R65, R134), nor while a dump is written. -/
def mayStart (s : Block) : Bool := served s && !s.pwr.pfw && s.sys.mode != .outage && s.dbg.writing.isNone

/-- A command row of the table: its request arrives on mailbox `h.mb` by the mailbox's own transport (HSPI where it
is unbound), is accepted by steps 1 to 3 of Table 5-4, and starts at once where the order of R130 lets it; otherwise
it waits for `COMMAND_START`. A request that finds no free entry, or the window not served, is not performed (R101,
R124). -/
def runCmd (c : CmdSpec) (h : Req) (p : List Byte) (s : Block) : Block :=
  let mb := h.mb.toNat
  let b := s.box mb
  if !served s || b.free == 0 then s
  else
    let id := b.nextId
    let s1 := arrive mb (if b.bind == 0 then 1 else b.bind) (reqArrived c h p) s
    match nextReady (s1.box mb).entries false with
    | none => s1
    | some e => if e.id == id && mayStart s1 then runStarted c { mb, id } p (markStarted { mb, id } s1) else s1

/-! ### Mode sets of the command tables -/

/-- STANDBY, SERVICE, DEGRADED, MAINTAIN, COMMISSION. -/
def mRun : List Mode := [.standby, .service, .degraded, .maintain, .commission]

/-- All modes with the window served, except OUTAGE (Table 5-17). -/
def mAll : List Mode :=
  [.factory, .provision, .standby, .service, .degraded, .maintain, .commission, .activate, .safestop, .zeroised]

def mStandby : List Mode := [.standby]
def mCommission : List Mode := [.commission]

/-- Work modes (Table 6-17). -/
def mWork : List Mode := mRun

/-- LENGTH is exactly `n` bytes. -/
def lenIs (n : Nat) (p : List Byte) : Bool := p.length == n

end Sys2Proof.Machine
end

