-- ==== Sys2Proof/WellFormed.lean ====
section
/-!
DEFINITION. The ranges of the operands that the spec bounds: outlets 1 to 12, metering points 0 to 12, mailboxes 0 to 7,
coil drivers 1 to 16, and so on. A meaning leaves the state unchanged where an operand names nothing that exists.
-/

namespace Sys2Proof

/-- Outlets 1 to 12 (10). -/
def outletOk (n : Nat) : Bool := 1 ≤ n && n ≤ 12

/-- Metering points MP00 to MP12 (07). -/
def pointOk (p : Nat) : Bool := p ≤ 12

/-- Mailboxes MB0 to MB7 (Table 5-1). -/
def mbOk (m : Nat) : Bool := m ≤ 7

/-- Coil drivers CD1 to CD16 (11). -/
def driverOk (k : Nat) : Bool := 1 ≤ k && k ≤ 16

/-- CAN links CAN1 to CAN4 (11 R356). -/
def canOk (j : Nat) : Bool := 1 ≤ j && j ≤ 4

/-- Ethernet ports ETH1 and ETH2 (20 R562). -/
def portOk (p : Nat) : Bool := 1 ≤ p && p ≤ 2

/-- Antennas ANT1 to ANT4 (15 R443). -/
def antOk (a : Nat) : Bool := 1 ≤ a && a ≤ 4

/-- Mains couplings 1 to 3 (16 R469). -/
def couplingOk (c : Nat) : Bool := 1 ≤ c && c ≤ 3

/-- Load-switch channels LS1 to LS12 (18). -/
def lsOk (k : Nat) : Bool := 1 ≤ k && k ≤ 12

/-- Safety inputs and functions 0 to 15 (13). -/
def safOk (k : Nat) : Bool := k ≤ 15

/-- Plan domains 0 to 2 (Table 1-8). -/
def domOk (d : Nat) : Bool := d ≤ 2

/-- A mailbox payload has at most 4,080 bytes (05 R122). -/
def payloadOk (p : List Byte) : Bool := p.length ≤ 4080

/-- The operands of a command lie in the ranges the spec gives them. -/
def Instr.wf : Instr → Bool
  | .powerOnReset => true
  | .vsupCollapse => true
  | .resetNAssert _ => true
  | .resetRelease _ => true
  | .selftestStepOverrun _ => true
  | .clockFault _ => true
  | .clockRestored => true
  | .pfWarningVin _ => true
  | .pfWarningSiteVoltage _ _ _ => true
  | .ckpPfwTestWrite _ => true
  | .recovery _ _ => true
  | .outageRestartLate _ _ => true
  | .outageRestartLowVin _ _ => true
  | .supplyEnd => true
  | .supplyEndReturn _ => true
  | .railFault _ => true
  | .railReturn _ => true
  | .vholdLow _ => true
  | .vholdChargeTimeout _ => true
  | .heartbeatTimeout _ => true
  | .larkspurFault _ => true
  | .bylithResume => true
  | .holdoverTimeout => true
  | .anvilReset _ => true
  | .assayCoreReset => true
  | .crucibleReset => true
  | .fatalError _ _ _ _ => true
  | .contactorReleaseCurrent outlet => outletOk outlet
  | .contactorReleaseTimeout outlet _ => outletOk outlet
  | .autostart => true
  | .modeTransitionComplete => true
  | .serviceOutApply outlet => outletOk outlet
  | .bypassApply outlet => outletOk outlet
  | .bypassFbClosed outlet => outletOk outlet
  | .hspiReadFrame cmd _ _ => cmd.getLsbD 7
  | .hspiWriteFrame cmd _ ws _ => !cmd.getLsbD 7 && ws.length == cmd.toNat % 16 + 1
  | .hspiFrameAbort => true
  | .regWrite _ _ => true
  | .shadowWrite _ _ => true
  | .pendDiscard _ _ => true
  | .mbxPortWrite mb _ _ => mbOk mb
  | .mbxPortRead mb _ => mbOk mb
  | .ethMbxFrame port _ => portOk port
  | .mbxAsmTimeout mb => mbOk mb
  | .commandStart mb => mbOk mb
  | .hostSilent => true
  | .grantExpired => true
  | .evtRawClear _ _ => true
  | .evtSetWrite _ _ => true
  | .evtQPop => true
  | .evtQClrLost => true
  | .cmdSysInfoGet _ p => payloadOk p
  | .cmdSysStatusGet _ p => payloadOk p
  | .cmdSysModeSet _ p => payloadOk p
  | .cmdSysSoftReset _ p => payloadOk p
  | .cmdSysWallSet _ p => payloadOk p
  | .cmdSysConfigLoad _ p => payloadOk p
  | .cmdSysConfigCommit _ p => payloadOk p
  | .cmdSysConfigRead _ p => payloadOk p
  | .cmdSysEvtRead _ p => payloadOk p
  | .cmdSysRegRead _ p => payloadOk p
  | .cmdSysRegWrite _ p => payloadOk p
  | .tickZeroCrossing _ _ _ => true
  | .tickTimer _ => true
  | .planSwap dom => domOk dom
  | .planEnd dom => domOk dom
  | .planValidationDone dom => domOk dom
  | .groupDeadline _ => true
  | .lockWaitTimeout _ => true
  | .hostChannelFault => true
  | .arbRound _ _ _ _ _ => true
  | .hlockAcqWrite _ => true
  | .hlockRelWrite _ => true
  | .cmdPlanBegin _ p => payloadOk p
  | .cmdPlanLoad _ p => payloadOk p
  | .cmdPlanArm _ p => payloadOk p
  | .cmdPlanCancel _ p => payloadOk p
  | .cmdPlanStatus _ p => payloadOk p
  | .cmdGroupSubmit _ p => payloadOk p
  | .cmdGroupAbort _ p => payloadOk p
  | .cmdGroupStatus _ p => payloadOk p
  | .cmdLockAcquire _ p => payloadOk p
  | .cmdLockRelease _ p => payloadOk p
  | .cmdArbPrioSet _ p => payloadOk p
  | .sample10khz _ _ => true
  | .bCycCrossing point _ _ _ => pointOk point
  | .bCycTimer point _ => pointOk point
  | .halfCycleRms point _ _ => pointOk point
  | .mtimeSecond _ _ => true
  | .chSignalFault point _ _ => pointOk point
  | .chFaultClear point ch cause => pointOk point && ch ≤ 7 && 1 ≤ cause && cause ≤ 4
  | .refchkRun point _ => pointOk point || point == 255
  | .tempSourceRead _ _ => true
  | .tsrcFallback _ => true
  | .tsrcRestore _ => true
  | .asyTinjCtrlWrite _ => true
  | .cmdAsyStatus _ p => payloadOk p
  | .cmdAsyInjRun _ p => payloadOk p
  | .cmdAsyFaultReset _ p => payloadOk p
  | .cmdAsyCalRead _ p => payloadOk p
  | .cmdAsyCalMeasure _ p => payloadOk p
  | .cmdAsyTctabLoad _ p => payloadOk p
  | .cmdAsyBandSet _ p => payloadOk p
  | .cmdAsyCalCommit _ p => payloadOk p
  | .cmdAsyCalDiscard _ p => payloadOk p
  | .demandSubintervalEnd => true
  | .pulseOutputEnd _ => true
  | .cmdNrgSnapshot _ p => payloadOk p
  | .cmdNrgQtyRead _ p => payloadOk p
  | .cmdNrgHarmRead _ p => payloadOk p
  | .cmdNrgDemandRead _ p => payloadOk p
  | .cmdNrgPqRead _ p => payloadOk p
  | .cmdNrgBalRead _ p => payloadOk p
  | .cmdNrgPulseTest _ p => payloadOk p
  | .tselChange _ => true
  | .tselDebounced => true
  | .periodBoundaryDue => true
  | .ingotCommit => true
  | .scrollAdvance => true
  | .ppDisconnectComplete => true
  | .relayBypassDetect _ => true
  | .serviceButtonPress => true
  | .cmdBilStatus _ p => payloadOk p
  | .cmdBilPeriodClose _ p => payloadOk p
  | .cmdBilIngotRead _ p => payloadOk p
  | .cmdBilIngotAck _ p => payloadOk p
  | .cmdBilTokenApply _ p => payloadOk p
  | .cmdBilEcActivate _ p => payloadOk p
  | .cmdBilRelayReq _ p => payloadOk p
  | .cmdBilRelayReset _ p => payloadOk p
  | .cmdBilSessionCredit _ p => payloadOk p
  | .cmdBilCreditAdjust _ p => payloadOk p
  | .pilotStateChange outlet _ _ => outletOk outlet
  | .pilotDiodeFault outlet _ => outletOk outlet
  | .proximityChange outlet _ => outletOk outlet
  | .authTimeout outlet => outletOk outlet
  | .pauseTimeout outlet => outletOk outlet
  | .modemLinkLost outlet => outletOk outlet
  | .modemLinkRestored outlet => outletOk outlet
  | .slacMessage outlet _ => outletOk outlet
  | .slacTimeout outlet => outletOk outlet
  | .slacRetryWaitEnd outlet => outletOk outlet
  | .sdpRequest outlet _ => outletOk outlet
  | .v2gTlsHandshake outlet _ _ _ => outletOk outlet
  | .v2gRequest outlet _ _ => outletOk outlet
  | .supportedAppProtocolReq outlet _ => outletOk outlet
  | .cableCheckReq outlet => outletOk outlet
  | .powerDeliveryReq outlet => outletOk outlet
  | .sessionStopReq outlet _ => outletOk outlet
  | .certInstallReq outlet _ _ => outletOk outlet
  | .certRespTimeout outlet => outletOk outlet
  | .v2gSequenceTimeout outlet => outletOk outlet
  | .tunnelRx outlet _ _ => outletOk outlet
  | .cmdOutletStatus _ p => payloadOk p
  | .cmdOutletServiceSet _ p => payloadOk p
  | .cmdOutletAuthorise _ p => payloadOk p
  | .cmdOutletStop _ p => payloadOk p
  | .cmdOutletTunSend _ p => payloadOk p
  | .cmdOutletTunRead _ p => payloadOk p
  | .cmdOutletHlcStep _ p => payloadOk p
  | .cmdOutletLimitsSet _ p => payloadOk p
  | .cmdOutletCertResp _ p => payloadOk p
  | .cmdOutletBypass _ p => payloadOk p
  | .cmdOutletPilotTest _ p => payloadOk p
  | .utilLimitExpiry => true
  | .plannerCompile => true
  | .overdraw outlet _ => outletOk outlet
  | .fbChange driver _ => driverOk driver
  | .fbCloseDeadline driver => driverOk driver
  | .fbOpenDeadline driver => driverOk driver
  | .liveWhileOpen outlet => outletOk outlet
  | .coilPullinEnd driver => driverOk driver
  | .dcWeldCheckDone outlet _ _ => outletOk outlet
  | .prechargeDone outlet _ _ _ => outletOk outlet
  | .cabinetPretime => true
  | .cabinetIdleOff => true
  | .canCtrlTimer => true
  | .pmStatusFrame link _ _ => canOk link
  | .pmIdentFrame link _ _ => canOk link
  | .pmNodeLost link _ => canOk link
  | .canBusOff link => canOk link
  | .cdTestHoldEnd driver => driverOk driver
  | .cmdAlcStatus _ p => payloadOk p
  | .cmdAlcLimitSet _ p => payloadOk p
  | .cmdAlcTargetSet _ p => payloadOk p
  | .cmdAlcFaultReset _ p => payloadOk p
  | .cmdAlcPmRead _ p => payloadOk p
  | .cmdAlcCdTest _ p => payloadOk p
  | .cmdAlcCanRaw _ p => payloadOk p
  | .rcmTrip outlet _ => outletOk outlet
  | .rcmLinkFault outlet => outletOk outlet
  | .rcmLinkRestored outlet => outletOk outlet
  | .rcmSelftestDone outlet _ _ _ _ _ => outletOk outlet
  | .rcmSelftestRetry outlet => outletOk outlet
  | .insAsymmetryReading outlet _ => outletOk outlet
  | .insMeasurementDone _ _ _ => true
  | .cableCheckDone outlet _ => outletOk outlet
  | .injectorFault _ _ => true
  | .cmdRcmStatus _ p => payloadOk p
  | .cmdRcmFaultReset _ p => payloadOk p
  | .cmdRcmSelftest _ p => payloadOk p
  | .cmdInsMeasure _ p => payloadOk p
  | .cmdRcmTestInject _ p => payloadOk p
  | .safetyInputChange input _ _ => safOk input
  | .testPulseCycle _ _ _ => true
  | .discrepancyTimeout input => safOk input
  | .inputFaultClear input => safOk input
  | .functionHealthy fn => safOk fn
  | .safetyResetAct input _ => safOk input
  | .edmTimeout input => safOk input
  | .demandTestEnd fn _ _ => safOk fn
  | .cmdSafStatus _ p => payloadOk p
  | .cmdSafPsetRead _ p => payloadOk p
  | .cmdSafPsetLoad _ p => payloadOk p
  | .cmdSafPsetCommit _ p => payloadOk p
  | .cmdSafPsetConfirm _ p => payloadOk p
  | .cmdSafDemandTest _ p => payloadOk p
  | .tamperInput _ => true
  | .lidMeshBreak => true
  | .glitchDetected _ => true
  | .magSensorRead _ _ => true
  | .debugPortAccess _ => true
  | .dbgCoreHalt _ => true
  | .drbgReseed => true
  | .drbgHealthFail _ => true
  | .drbgRetest _ => true
  | .ethTlsClienthello port _ _ _ => portOk port
  | .cmdSecStatus _ p => payloadOk p
  | .cmdSecHallmarkGet _ p => payloadOk p
  | .cmdSecGrantInstall _ p => payloadOk p
  | .cmdSecGrantRemove _ p => payloadOk p
  | .cmdSecProvOpen _ p => payloadOk p
  | .cmdSecProvItem _ p => payloadOk p
  | .cmdSecProvClose _ p => payloadOk p
  | .cmdSecKeygen _ p => payloadOk p
  | .cmdSecPubkeyRead _ p => payloadOk p
  | .cmdSecCertRead _ p => payloadOk p
  | .cmdSecTamperRead _ p => payloadOk p
  | .cmdSecTamperAck _ p => payloadOk p
  | .cmdSecDecommission _ p => payloadOk p
  | .cmdSecDebug _ p => payloadOk p
  | .cmdSecKeyErase _ p => payloadOk p
  | .cmdSecTamperTest _ p => payloadOk p
  | .readerPoll ant _ _ => antOk ant
  | .cardDebounceExpiry _ => true
  | .antennaFaultCheck ant _ => antOk ant
  | .cardHoldExpiry => true
  | .tagFieldOn _ => true
  | .tagFieldLost => true
  | .tagReqa _ => true
  | .tagSelect _ => true
  | .tagHalt _ => true
  | .tagGetInfo => true
  | .tagAuth1 _ _ => true
  | .tagAuth2 _ => true
  | .tagAuthBlockEnd => true
  | .tagRead _ _ => true
  | .tagWrite _ _ d _ step => d.length == 128 && 1 ≤ step && step ≤ 6
  | .tagLock _ _ _ => true
  | .tagUnlock _ _ _ => true
  | .tagPortRetry _ => true
  | .cmdClsStatus _ p => payloadOk p
  | .cmdClsCardRead _ p => payloadOk p
  | .cmdClsWlAdd _ p => payloadOk p
  | .cmdClsWlDelete _ p => payloadOk p
  | .cmdClsWlRead _ p => payloadOk p
  | .cmdClsAntAssign _ p => payloadOk p
  | .cmdClsApdu _ p => payloadOk p
  | .cmdClsTagRead _ p => payloadOk p
  | .cmdClsTagWrite _ p => payloadOk p
  | .cmdClsToolkeyIssue _ p => payloadOk p
  | .cmdClsToolminSet _ p => payloadOk p
  | .cmdClsFieldTest _ p => payloadOk p
  | .mlkWindow w _ => w.noise.length == 3 && w.syms.length == 16 && w.syms.all (fun y => y.length == 3 && y.all fun c => c.tones.length == 4)
  | .mlkBlockReceived b => b.bytes.length == 1024 && b.data.length == 764
  | .mlkTokenFrame _ => true
  | .mlkTariffFrame _ => true
  | .mlkTimeFrame _ _ => true
  | .mlkLoadLimitFrame _ => true
  | .mlkUpdatePiece _ => true
  | .mlkUpdateOpen _ => true
  | .mlkUpdateSchedule _ => true
  | .mlkUpdateCancel _ => true
  | .mlkUpdateReportReq _ => true
  | .mlkRepeatReq _ => true
  | .mlkAck _ => true
  | .mlkStatusReq _ => true
  | .mlkRawFrame _ => true
  | .mlkTxBlockStart => true
  | .mlkBlockEnd => true
  | .mlkPhaseSearchTimeout => true
  | .mlkAckTimeout _ => true
  | .mlkStatusTimer => true
  | .mlkCouplingCheck coupling _ => couplingOk coupling
  | .mlkCouplingFault coupling => couplingOk coupling
  | .cmdMlkStatus _ p => payloadOk p
  | .cmdMlkRxRead _ p => payloadOk p
  | .cmdMlkSend _ p => payloadOk p
  | .cmdMlkTxTest _ p => payloadOk p
  | .matrixFrame _ => true
  | .matrixStart _ _ _ => true
  | .cueDwellEnd _ => true
  | .bsdSegmentDriveDone _ => true
  | .cmdDisStatus _ p => payloadOk p
  | .cmdDisFrame _ p => payloadOk p
  | .cmdDisMapRead _ p => payloadOk p
  | .cmdDisBsdRead _ p => payloadOk p
  | .cmdDisMapLoad _ p => payloadOk p
  | .cmdDisTest _ p => payloadOk p
  | .lswOvercurrent ch _ => lsOk ch
  | .lswShort ch _ => lsOk ch
  | .lswThermalSet ch _ _ => lsOk ch
  | .lswThermalClear ch _ => lsOk ch
  | .lswInrushEnd ch => lsOk ch
  | .lswRwaitExpiry ch => lsOk ch
  | .lswRcntRestore ch => lsOk ch
  | .lswDiagPulse ch _ => lsOk ch
  | .lswDiagFlag ch _ _ => lsOk ch
  | .cmdLswStatus _ p => payloadOk p
  | .cmdLswSet _ p => payloadOk p
  | .cmdLswPwmSet _ p => payloadOk p
  | .cmdLswReset _ p => payloadOk p
  | .cmdLswProfileRead _ p => payloadOk p
  | .cmdLswProfileLoad _ p => payloadOk p
  | .cmdLswTest _ p => payloadOk p
  | .updEraseDone => true
  | .updVerifyDone => true
  | .updActivationDue => true
  | .updWindowLapse => true
  | .updCommitPoint => true
  | .updRevert _ _ => true
  | .updStoppingReset => true
  | .updGpmLoad outlet => outletOk outlet
  | .cmdUpdStatus _ p => payloadOk p
  | .cmdUpdOpen _ p => payloadOk p
  | .cmdUpdBlock _ p => payloadOk p
  | .cmdUpdFinish _ p => payloadOk p
  | .cmdUpdSchedule _ p => payloadOk p
  | .cmdUpdCancel _ p => payloadOk p
  | .cmdUpdMapRead _ p => payloadOk p
  | .ethPhyRelease => true
  | .ethFrameForward port _ _ _ => portOk port
  | .tcpConnect port _ _ => portOk port
  | .modbusTcpRequest _ _ _ _ => true
  | .modbusRtuResponse _ _ _ _ => true
  | .modbusTimeout _ => true
  | .bridgeTcpData _ _ => true
  | .bridgeUartRx _ _ => true
  | .memoryEccError _ _ _ _ _ => true
  | .memoryScrub => true
  | .recordCopyCheck _ => true
  | .flashHashCheck _ => true
  | .tagStatusRefresh => true
  | .cmdDiagLogRead _ p => payloadOk p
  | .cmdDiagAlogRead _ p => payloadOk p
  | .cmdDiagDumpInfo _ p => payloadOk p
  | .cmdDiagDumpRead _ p => payloadOk p
  | .cmdDiagDumpAck _ p => payloadOk p
  | .cmdDiagDumpForce _ p => payloadOk p
  | .cmdDiagDumpFull _ p => payloadOk p
  | .vholdRecoveryChargeTimeout _ => true
  | .recoveryOutputsResume => true
  | .vsupSourceChange _ => true
  | .canBusOffRecovery link => canOk link
  | .ethLinkChange port _ _ => portOk port
  | .ethMacAgeing _ => true
  | .tcpConnectionClose _ => true
  | .tamperInputNormal _ => true
  | .serviceButtonRelease => true
  | .tagRats => true
  | .tagOtherFrame => true
  | .disTestEnd _ _ _ => true
  | .clsFieldTestEnd _ => true
  | .mlkTxTestEnd _ => true
  | .lswTestEnd ch _ => lsOk ch
  | .rcmTestInjectEnd outlet => outletOk outlet
  | .gpmLoadDone outlet _ => outletOk outlet
  | .dbgCoreResume _ => true

end Sys2Proof
end

