-- ==== Sys2Proof/Machine/Protect.lean ====
section
/-!
DEFINITION. What the outlet chapters share: the configuration in force of outlets, points and allocation (Tables 7-4,
10-1, 11-1), coil drivers (11 R344–R350), power-module frames (11 R356–R359), overrides (06 R168, R169), outlet faults
and service states (03 R90, R616), the stop of a session (10 R307), the controlled stop (02 R59) and tamper classes 1
and 2 (14 R430).
-/

namespace Sys2Proof.Machine

/-! ### Configuration in force -/

/-- Field of outlet n's record in section 0x0006 (Table 10-1). -/
def Block.o8 (s : Block) (n o : Nat) : Nat := s.cfg8 0x0006 (16 + 32 * (n - 1) + o)
def Block.o16 (s : Block) (n o : Nat) : Nat := s.cfg16 0x0006 (16 + 32 * (n - 1) + o)

/-- Outlet n is a DC outlet (KIND 2). -/
def Block.isDc (s : Block) (n : Nat) : Bool := s.o8 n 0 == 2

/-- Wired site phases of outlet n (PHASES). -/
def Block.phases (s : Block) (n : Nat) : Nat := s.o8 n 2 % 8
def Block.proto (s : Block) (n : Nat) : Nat := s.o8 n 6
def Block.vent (s : Block) (n : Nat) : Bool := bit (s.o8 n 9) 0
def Block.fallbackOn (s : Block) (n : Nat) : Bool := bit (s.o8 n 9) 1

/-- The bits set in a 3-bit phase mask. -/
def phaseCount (m : Nat) : Nat := b2n (bit m 0) + b2n (bit m 1) + b2n (bit m 2)

/-- TYPE of point p as committed, and TYPE and UNOM in force: a committed record takes effect at the point's B-CYC (Table
7-5, 01 R21). -/
def Block.cfgType (s : Block) (p : Nat) : Nat := s.cfg8 0x0003 (8 + 24 * p)
def Block.ptConf (s : Block) (p : Nat) : List Byte := (tget s.asy.points p).conf
def Block.ptType (s : Block) (p : Nat) : Nat := u8At (s.ptConf p) 0
def Block.unom (s : Block) (p : Nat) : Nat := u16At (s.ptConf p) 6

/-- A fault of the channel holds (Table 7-9). -/
def Chan.faulted (x : Chan) : Bool := !x.causes.isEmpty

def Block.nomFreq (s : Block) : Nat := s.cfg8 0x0003 0

/-- Field of outlet n's record in section 0x0008 (Table 11-2). -/
def Block.a8 (s : Block) (n o : Nat) : Nat := s.cfg8 0x0008 (40 + 16 * (n - 1) + o)
def Block.a16 (s : Block) (n o : Nat) : Nat := s.cfg16 0x0008 (40 + 16 * (n - 1) + o)
def Block.tclose (s : Block) : Nat := s.cfg16 0x0008 20
def Block.topen (s : Block) : Nat := s.cfg16 0x0008 22
def Block.pretime (s : Block) : Nat := s.cfg16 0x0008 24
def Block.cd16use (s : Block) : Bool := s.cfg8 0x0008 32 == 1
def Block.canOn (s : Block) (j : Nat) : Bool := 1 ≤ j && j ≤ 4 && s.cfg8 0x0008 (232 + 8 * (j - 1)) == 1

/-- LAG in ticks (R333). -/
def Block.lag (s : Block) : Nat := (s.cfg16 0x0008 16 * 2 * s.nomFreq + 999) / 1000

/-- CAN link, first node and number of modules of DC outlet n. -/
def Block.linkOf (s : Block) (n : Nat) : Nat := s.a8 n 5
def Block.nodeOf (s : Block) (n : Nat) : Nat := s.a8 n 6
def Block.nmod (s : Block) (n : Nat) : Nat := s.a8 n 7

/-! ### Parts of the state by number -/

def updOl (n : Nat) (f : Outlet → Outlet) (s : Block) : Block := { s with out.o := tupd s.out.o (n - 1) f }
def updSes (n : Nat) (f : Session → Session) (s : Block) : Block := updOl n (fun o => { o with ses := f o.ses }) s
def updAo (n : Nat) (f : AlcOutlet → AlcOutlet) (s : Block) : Block :=
  { s with alc.outlets := tupd s.alc.outlets (n - 1) f }
def updDrv (k : Nat) (f : Driver → Driver) (s : Block) : Block :=
  { s with alc.drivers := tupd s.alc.drivers (k - 1) f }
def updRc (n : Nat) (f : RcmOutlet → RcmOutlet) (s : Block) : Block := { s with rcm.o := tupd s.rcm.o (n - 1) f }
def updOvr (n : Nat) (f : Ovr → Ovr) (s : Block) : Block := { s with pln.ovr := tupd s.pln.ovr (n - 1) f }
def updDom (d : Nat) (f : Domain → Domain) (s : Block) : Block := { s with pln.doms := tupd s.pln.doms d f }
def Block.dom (s : Block) (d : Nat) : Domain := tget s.pln.doms d

/-- A trigger of R338. -/
def replan (s : Block) : Block := { s with alc.replan := true }

/-- The highest Irms of point p's phases over the last cycle or block, in µA. -/
def irmsMax (p : Nat) (s : Block) : Nat := (tget s.nrg.pq p).ph.foldl (fun m q => max m q.irms) 0

/-- µA as 0.1 A, saturated to 16 bits. -/
def dA (uA : Nat) : Nat := min (uA / 100000) 65535

/-! ### Pilot output (10 R296) -/

/-- A session of the outlet is open in a state that a stop request ends. -/
def SState.stoppable : SState → Bool
  | .open | .authorised | .active | .paused => true
  | _ => false

/-- Modes in which every pilot is at −12 V (Table 3-1). -/
def pilotOffMode (s : Block) : Bool :=
  s.inMode [.factory, .provision, .selftest, .outage, .safestop, .zeroised]

/-- The pilot generator's output: 0 steady +12 V, 1 PWM, 2 0 V, 3 −12 V; no other than −12 V where the mode gives that (Table
3-1, R68). A level that is itself a state shows as that state: −12 V as F, 0 V as E. Leaving it, the pilot returns to
state A (Tables 2-2, 3-3; `EV128`), where a session goes on to B (DESIGN CHOICE: A would end it, R301), until a
measurement says otherwise. -/
def setPilot (n gen duty : Nat) (s : Block) : Block :=
  let o := s.ol n
  let s1 := updOl n (fun o => { o with gen, duty }) s
  if gen != 3 && pilotOffMode s then s
  else if gen == 2 || gen == 3 then updOl n (fun o => { o with cp := if gen == 3 then 5 else 4 }) s1
  else if o.gen == 2 || o.gen == 3 then
    let new := b2n o.ses.st.stoppable
    raise 128 (n * 256 + (if o.gen == 3 then 80 else 64) + new) (updOl n (fun o => { o with cp := new }) s1)
  else s1

/-- The charging supplies VCP+ and VCP− are both in range (Table 2-2). -/
def vcpOk (s : Block) : Bool := s.pwr.vcppOk && s.pwr.vcpnOk

/-- The pilot level that mode, rails and service state give outlet n where no session drives it (Tables 2-2, 3-1,
3-5). A NOT_FITTED outlet keeps −12 V. -/
def idlePilot (n : Nat) (s : Block) : Block :=
  let g := if pilotOffMode s then 3 else if !vcpOk s then 2
           else match s.svcOf n with
             | 1 | 2 => 0
             | 3 => 2
             | _ => 3
  setPilot n g 1000 s

def idlePilots (s : Block) : Block := outlets.foldl (fun s n => idlePilot n s) s

/-- The PWM withdrawn: the pilot stays steady at +12 V (Table 2-6 step 3, Table 12-3 step 3). -/
def pwmOff (n : Nat) (s : Block) : Block :=
  if (s.ol n).gen == 1 then setPilot n 0 1000 s else s

/-! ### CAN links (11 R356–R359) -/

def updLink (j : Nat) (f : CanLink → CanLink) (s : Block) : Block := { s with alc.links := tupd s.alc.links (j - 1) f }
def Block.link (s : Block) (j : Nat) : CanLink := tget s.alc.links (j - 1)

/-- One frame sent on an enabled link; the last 64 frames of a tick are kept. -/
def sendCan (j id : Nat) (data : List Byte) (s : Block) : Block :=
  if s.canOn j then updLink j (fun l => { l with tx := l.tx.drop (l.tx.length - 63) ++ [(id, data)] }) s else s

/-- CANj_STB is driven low while the link's EN is 1, and is high impedance otherwise (20 R570); at link start IDENT_REQ is sent
(Table 11-10). -/
def canStandby (s : Block) : Block :=
  (upto 1 4).foldl (fun s j =>
    let s1 := updLink j (fun l => { l with stb := s.canOn j }) s
    if s.canOn j && !(s.link j).stb then sendCan j 0x030 (zeros 8) s1 else s1) s

def PmNode.fresh (node : Nat) : PmNode := ⟨node, [], 0, [], false, 0⟩

/-- The record of a node, made where the link has none. -/
def updNode (j node : Nat) (f : PmNode → PmNode) (s : Block) : Block :=
  updLink j (fun l =>
    let ns := if l.nodes.any fun m => m.node == node then l.nodes.map fun m => if m.node == node then f m else m
              else l.nodes ++ [f (PmNode.fresh node)]
    { l with nodes := ns }) s

def findNode (node : Nat) : List PmNode → PmNode
  | [] => PmNode.fresh node
  | m :: r => if m.node == node then m else findNode node r

def nodeRec (j node : Nat) (s : Block) : PmNode := findNode node (s.link j).nodes

/-- ALL_OFF with a reason, on every enabled link (Tables 11-10, 11-11). -/
def sendAllOff (reason : Nat) (s : Block) : Block :=
  (upto 1 4).foldl (fun s j => sendCan j 0x010 (fixLen 8 [BitVec.ofNat 8 reason]) s) s

/-- One SETPOINT frame to node `i` of outlet n (Table 11-11): the first node takes the remainder of ILIM (R359). -/
def sendSetpoint (n mode utgt : Nat) (ilim : Int) (i : Nat) (s : Block) : Block :=
  let j := s.linkOf n
  let node := s.nodeOf n + i
  let m : Int := Int.ofNat (max (s.nmod n) 1)
  let share := Int.tdiv ilim m + (if i == 0 then Int.tmod ilim m else 0)
  let seq := ((nodeRec j node s).seq + 1) % 256
  let vmax := (s.ses n).evUmax * 10
  let umax := s.o16 n 10 * 10
  let lim := if vmax == 0 then umax else min umax vmax
  sendCan j (0x100 + node)
    (p8 seq ++ p8 mode ++ p16 utgt ++ pi16 share ++ p16 lim ++ p16 (s.o16 n 12 * 10) ++ p16 (s.o16 n 14 / max (s.nmod n) 1)
      ++ p8 n ++ zeros 3)
    (updNode j node (fun k => { k with seq }) s)

/-- SETPOINT frames to the outlet's nodes in ascending order (R359), and the ILIM sum that `ALC_OMONn` shows. -/
def sendSetpoints (n mode utgt : Nat) (ilim : Int) (s : Block) : Block :=
  (List.range (s.nmod n)).foldl (fun s i => sendSetpoint n mode utgt ilim i s)
    (updAo n (fun a => { a with sig := (tc 16 ilim) }) s)

/-! ### Coil drivers (11 R344, R345) -/

/-- CDk is driven. -/
def Driver.on (d : Driver) : Bool := d.coil == .pullIn || d.coil == .hold

/-- The coil of CDk energised at pull-in (Table 11-4 step 2). -/
def energise (k : Nat) (s : Block) : Block :=
  updDrv k (fun d => { d with coil := .pullIn, at_ := s.sys.mtime, confirmed := false, opening := none }) s

/-- CDk released; for an outlet its modules' ENABLE bits are cleared (R359). `loaded` sets LOADED. -/
def release (k : Nat) (loaded : Bool) (s : Block) : Block :=
  if (s.drv k).on then
    let s1 := updDrv k (fun d => { d with
      coil := .releasing, at_ := s.sys.mtime, confirmed := false, opening := none, loaded := d.loaded || loaded }) s
    if k ≤ 12 then updAo k (fun a => { a with enable := false, vcheck := none }) s1 else s1
  else s

/-- The current of outlet n is 1 A or more. -/
def loadedNow (n : Nat) (s : Block) : Bool := irmsMax n s ≥ 1000000

/-- Table 11-5 begun: an open waits for the current to fall below 1 A. -/
def openDriver (k : Nat) (s : Block) : Block :=
  let d := s.drv k
  if d.on && d.opening == none then updDrv k (fun d => { d with opening := some s.sys.mtime }) s else s

/-- CDk is released and its feedback open, where its feedback is supervised (11 R354). -/
def driverOpen (k : Nat) (s : Block) : Bool := !(s.drv k).on && !(s.drv k).fb

/-- The drivers that Table 3-1 counts as outlet coil drivers, CD1 to CD12 and CD14 to CD16, are confirmed open (03 R81). -/
def outletsOpen (s : Block) : Bool :=
  (outlets.all fun n => driverOpen n s) && driverOpen 14 s && driverOpen 15 s &&
    (driverOpen 16 s || !(s.drv 16).on && !s.cd16use)

/-- CDk is de-energised: confirmed open, or past the deadline of its release with its feedback still closed (Table 2-6
step 6). -/
def driverOff (k : Nat) (s : Block) : Bool := driverOpen k s || (s.drv k).coil == .off
def outletsOff (s : Block) : Bool := outlets.all fun n => driverOff n s

/-! ### DC steps (11 R352) -/

/-- Result payload of `CMD_OUTLET_HLC_STEP`: RESULT, voltage in V, insulation in Ω. -/
def stepResult (fail : Bool) (volt ohm : Nat) : List Byte := p8 (b2n fail) ++ p8 0 ++ p16 volt ++ p32 ohm

/-- A DC step under way ended without a result of its own; a waiting `CMD_OUTLET_HLC_STEP` reports a failure. -/
def dcAbort (n : Nat) (s : Block) : Block :=
  let a := s.ao n
  let s1 := updAo n (fun a => { a with dcStep := 0, dcCmd := none, preOk := false, delivering := false }) s
  completeOpt a.dcCmd stOk (stepResult true 0 0) s1

/-! ### Overrides (06 R168, R169) -/

/-- Cause `c` of Table 6-7 comes to hold for outlet n: `EV043` once, and a trigger of R338. -/
def ovrOn (n c : Nat) (s : Block) : Block :=
  let o := s.ovr n
  let s1 := updOvr n (fun o => { o with causes := setBit o.causes c, ended := eraseN c o.ended }) s
  if bit o.causes c then s1
  else replan (raise 43 (n * 256 + c) { s1 with pln.cntOvr := inc32 s1.pln.cntOvr })

/-- The real event of cause `c` has ended: the override stays until R169 clears it. -/
def ovrEnd (n c : Nat) (s : Block) : Block :=
  if bit (s.ovr n).causes c && !(s.ovr n).ended.any (fun e => e.1 == c) then
    updOvr n (fun o => { o with ended := (c, s.pln.stamp) :: o.ended }) { s with pln.stamp := s.pln.stamp + 1 }
  else s

/-- An override cleared (R169). -/
def ovrClear (n c : Nat) (s : Block) : Block :=
  replan (raise 44 (n * 256 + c)
    (updOvr n (fun o => { o with causes := clrBit o.causes c, ended := eraseN c o.ended }) s))

/-- Override cause 4 with limit 0 or with the limits in force (R301, R306). -/
def ovrVehicle (n imp exp : Nat) (s : Block) : Block := ovrOn n 4 (updOvr n (fun o => { o with vi := imp, ve := exp }) s)

/-- Something waits for the next B-TICK (Tables 12-3, 13-4, 10-4). -/
def atTick (d : TickDue) (s : Block) : Block := { s with pln.due := s.pln.due ++ [d] }

/-! ### Ratings and vehicle limits -/

/-- The coded rating of a proximity resistance, 0.1 A; 0 where Table 10-5 gives none. `two` is a TYPE 2 point. -/
def codedRating (two : Bool) (res : Nat) : Nat :=
  if 60 ≤ res && res ≤ 140 then (if two then 700 else 630)
  else if 164 ≤ res && res ≤ 308 then 320
  else if 400 ≤ res && res ≤ 936 then 200
  else if 1100 ≤ res && res ≤ 2460 then 130
  else 0

/-- A proximity resistance above 4,500 Ω is open (Table 10-5). -/
def proxOpen (res : Nat) : Bool := res > 4500

/-- The rating in force of outlet n for a resistance (R302). -/
def ratingFor (n res : Nat) (s : Block) : Nat :=
  let coded := codedRating (s.ptType n == 2) res
  match s.o8 n 3 with
  | 0 => s.o16 n 4
  | 1 => coded
  | _ => if coded == 0 then 0 else s.o16 n 4

def ratingOf (n : Nat) (s : Block) : Nat := ratingFor n (s.ol n).res s

/-- The vehicle's import and export limit (R306). -/
def vehicleLimits (n : Nat) (s : Block) : Nat × Nat :=
  let e := s.ses n
  match e.st with
  | .authorised | .active | .stopping =>
    let imp := if e.limSet then min (ratingOf n s) e.evImax else ratingOf n s
    let exp := if e.tunnel || e.service == 4 then e.evIdis
               else if e.service == 3 && e.dynamic then e.evPdis * 100 / max (s.unom n * phaseCount (s.phases n)) 1
               else 0
    (imp, min exp 65535)
  | _ => (0, 0)

/-- The limits that the outlet holds follow (R306): `EV137` at a change. -/
def limitsTo (n : Nat) (s : Block) : Block :=
  let (imp, exp) := vehicleLimits n s
  let o := s.ol n
  if o.limImp == imp && o.limExp == exp then s
  else replan (raise 137 (imp * 65536 + n) (updOl n (fun o => { o with limImp := imp, limExp := exp }) s))

/-! ### Sessions (10 R304, R307) -/

/-- The session's contactor and pilot as it stops: steps 2 to 6 of Table 2-6 for the outlet alone (R307). -/
def stopOutlet (n : Nat) (s : Block) : Block :=
  let s1 := dcAbort n s
  let s2 := if s.isDc n then updAo n (fun a => { a with rampFrom := a.setpt }) s1 else pwmOff n s1
  openDriver n s2

/-- A stop request with the reason of Table 9-7 (Table 10-6). Bylith takes the outlet's lock until the session is over (06 R176). -/
def stopSession (n reason : Nat) (s : Block) : Block :=
  if (s.ses n).st.stoppable then
    replan (stopOutlet n (limitsTo n (updSes n (fun e => { e with
      st := .stopping, reason, stAt := s.sys.mtime, pending := false }) (coreTake n s))))
  else s

/-- A DC step fails (R352): `EV154`, the session stops with reason 6; a waiting `CMD_OUTLET_HLC_STEP` reports it. -/
def dcFail (n step volt ohm : Nat) (s : Block) : Block :=
  let c := (s.ao n).dcCmd
  let s1 := updAo n (fun a => { a with dcStep := 0, dcFail := true, dcCmd := none, preOk := false }) s
  stopSession n 6 (completeOpt c stOk (stepResult true volt ohm) (raise 154 (step * 65536 + 256 + n) s1))

/-- The step of outlet n fails where it is the one under way. -/
def dcFailAt (n step : Nat) (s : Block) : Block := if (s.ao n).dcStep == step then dcFail n step 0 0 s else s

/-- Every session stopped with one reason. -/
def stopSessions (reason : Nat) (p : Nat → Bool) (s : Block) : Block :=
  outlets.foldl (fun s n => if p n then stopSession n reason s else s) s

/-! ### Billing values as they are written (09 R267) -/

/-- The billing values and marks now. -/
def bilVals (s : Block) : BilVals :=
  let b := s.bil
  { inForce := b.inForce, tregImp := b.tregImp, tregExp := b.tregExp, markImp := b.markImp, markExp := b.markExp
    credit := b.credit, residue := b.residue, perDebit := b.perDebit
    ses := s.out.o.map fun o => ⟨o.ses.tarImp, o.ses.tarExp, o.ses.markImp, o.ses.markExp⟩ }

/-- Written with a unit and with a final commit. -/
def saveBil (s : Block) : Block := { s with bil.saved := bilVals s }

/-- A session's values written as it opens. -/
def saveSes (n : Nat) (s : Block) : Block :=
  let e := s.ses n
  { s with bil.saved.ses := tput s.bil.saved.ses (n - 1) ⟨e.tarImp, e.tarExp, e.markImp, e.markExp⟩ }

/-- The billing values as last written: what a start goes on from. -/
def bilBack (b : Bil) : Bil :=
  let v := b.saved
  { b with inForce := v.inForce, tregImp := v.tregImp, tregExp := v.tregExp, markImp := v.markImp, markExp := v.markExp
           credit := v.credit, residue := v.residue, perDebit := v.perDebit }

/-! ### Ingot flags (09 Table 9-6) -/

/-- The session is open and its Ingot is not drafted yet. -/
def Session.metered (e : Session) : Bool :=
  match e.st with
  | .idle | .parked => false
  | _ => !e.drafted

/-- Flag `k` gathered by the session of point `p`, or by the billing period for MP00, and by drafts of that point that
are not sealed yet. -/
def flagPoint (p k : Nat) (s : Block) : Block :=
  let s1 := if p == 0 then { s with bil.perFlags := setBit s.bil.perFlags k }
            else if (s.ses p).metered then updSes p (fun e => { e with flags := setBit e.flags k }) s else s
  { s1 with bil.units := s1.bil.units.map fun u => { u with
      drafts := u.drafts.map fun d => if d.point == p then { d with flags := setBit d.flags k } else d } }

/-- Flag `k` gathered by every open span. -/
def flagAll (k : Nat) (s : Block) : Block := (upto 0 12).foldl (fun s p => flagPoint p k s) s

/-! ### Service states and faults (03 R90, R616) -/

/-- A change of an outlet's service state, under its lock: override 7 where it leaves IN_SERVICE, the pilot, a trigger of R338. -/
def svcGo (n st : Nat) (s : Block) : Block :=
  let old := s.svcOf n
  if old == st || n == 0 || n > 12 then s
  else underLock n (fun s =>
    let s1 := svcSet n st s
    let s2 := if old == 1 then atTick ⟨n, 7, false, 0⟩ s1 else if st == 1 then ovrEnd n 7 s1 else s1
    replan (idlePilot n s2)) s

/-- A protection fault of the outlet latches: IN_SERVICE or OUT_OF_SERVICE becomes FAULTED (Table 3-6). -/
def becomeFaulted (n : Nat) (s : Block) : Block := if s.svcOf n == 1 || s.svcOf n == 2 then svcGo n 4 s else s

/-- A latched cause of some chapter remains on the outlet (R616). -/
def faultLatched (n : Nat) (s : Block) : Bool :=
  (s.rc n).cause != 0 || (s.drv n).fcause != 0 || (tget s.asy.points n).latched

/-- A chapter's fault reset: OUT_OF_SERVICE once no cause is latched (R616). -/
def faultCleared (n : Nat) (s : Block) : Block :=
  if s.svcOf n == 4 && !faultLatched n s then svcGo n 2 s else s

/-- The fast release of a protection path: whatever the current, the modules off or the PWM withdrawn (Tables 12-3,
13-4, 10-4). -/
def fastRelease (n : Nat) (pwm : Bool) (s : Block) : Block :=
  let s1 := release n (loadedNow n s) s
  if s.isDc n then
    sendSetpoints n 0 0 0 (updAo n (fun a => { a with enable := false }) (dcAbort n s1))
  else if pwm then pwmOff n s1 else s1

/-! ### Commit groups (06 R175) -/

/-- The domain of an action code: 0 ALLOCATION, 1 SWITCHING, 2 BILLING (Table 6-10). -/
def actDom (a : GAction) : Nat := a.code / 256 - 1

/-- An abort counted, with `EV046` (R175). -/
def abortNoted (gseq cause : Nat) (s : Block) : Block :=
  raise 46 (gseq % 16777216 * 256 + cause) { s with pln.cntAbort := inc32 s.pln.cntAbort }

/-- A SUBMITTED group aborted (R175): causes 6 and 7 leave no response. -/
def abortGroup (slot cause idx : Nat) (s : Block) : Block :=
  match tget s.pln.groups slot with
  | none => s
  | some g =>
    let s1 := abortNoted g.gseq cause { s with pln.groups := tput s.pln.groups slot none }
    if cause == 6 || cause == 7 then s1
    else completeOpt g.cmd stGroupAborted (p32 g.gseq ++ p8 cause ++ p8 idx) s1

/-- SUBMITTED groups that meet a condition, aborted in slot order. -/
def abortGroups (cause : Nat) (p : Group → Bool) (s : Block) : Block :=
  (List.range 16).foldl (fun s i =>
    match tget s.pln.groups i with
    | none => s
    | some g => if g.due.isNone && p g then abortGroup i cause 0xFF s else s) s

def Group.outputs (g : Group) : Bool := g.acts.any fun a => actDom a != 2

/-! ### Plans discarded (06 Table 6-15) -/

def Staging.empty : Staging := ⟨.empty, 0, ⟨0, 0, 0, 0, 0, 0, 0, []⟩, [], none, default, 0, false, []⟩

/-- Payload of `PLAN_REJECTED` (Table 6-17). -/
def rejectPayload (row check item : Nat) (value limit : Int) : List Byte :=
  p16 row ++ p8 check ++ p8 item ++ pi32 value ++ pi32 limit

/-- A rejection whose check compares no numbers: VALUE and LIMIT are free values. -/
def rejectFree (row check item : Nat) (s : Block) : List Byte × Block :=
  let (a, s1) := s.draw
  let (b, s2) := s1.draw
  (rejectPayload row check item (sgn 32 (Config.freeWord a).toNat) (sgn 32 (Config.freeWord b).toNat), s2)

/-- A staging buffer discarded. DESIGN CHOICE: an ARMED plan or a waiting `CMD_PLAN_ARM` whose staging is dropped (a cancel, a
controlled stop, a power-fail warning) ends with `PLAN_REJECTED` check 0x0F and no `EV041`; R185 names no final response. -/
def dropStaging (d : Nat) (s : Block) : Block :=
  match (s.dom d).staging.cmd with
  | none => updDom d (fun x => { x with staging := Staging.empty }) s
  | some r =>
    let (p, s1) := rejectFree 0 0x0F 0 s
    complete r stPlanRejected p (updDom d (fun x => { x with staging := Staging.empty }) s1)

/-- The active plan of a domain discarded. -/
def dropPlan (d : Nat) (st : Play) (s : Block) : Block :=
  updDom d (fun x => { x with play := st, rows := [], row := 0, last := List.replicate 14 0 }) s

/-! ### Cabinet (11 R353) -/

def Cabinet.code : Cabinet → Nat
  | .off => 0 | .precharge => 1 | .on => 2 | .fault => 3

/-- A cabinet transition: `EV152`, a trigger of R338 (Table 11-8). -/
def setCabinet (c : Cabinet) (s : Block) : Block :=
  replan (raise 152 c.code { s with alc := { s.alc with cabinet := c, cabAt := s.sys.mtime } })

/-- PRECHARGE or ON to OFF, both cabinet drivers released. -/
def cabinetOff (s : Block) : Block :=
  if s.alc.cabinet == .precharge || s.alc.cabinet == .on then
    setCabinet .off (release 15 false (release 14 false s))
  else s

/-- A feedback fault of CD14 or CD15: both released, every DC session stops with reason 6 (Table 11-8); a DC start that waits
for the cabinet fails at its step 1 (Table 11-7). -/
def cabinetFault (s : Block) : Block :=
  let s1 := release 15 false (release 14 false s)
  let s2 := outlets.foldl (fun s n => dcFailAt n 1 s) (if s1.alc.cabinet == .fault then s1 else setCabinet .fault s1)
  stopSessions 6 (fun n => s2.isDc n) s2

/-! ### Controlled stop (02 R59) -/

/-- The contactors of all DC outlets are open (Table 2-6 step 5). -/
def dcOpen (s : Block) : Bool := outlets.all fun n => !s.isDc n || !(s.drv n).on && !(s.drv n).fb

/-- Progress of a controlled stop: step 5 once the DC contactors are open, the end once the driver of every outlet taken
over is de-energised, its feedback checked; the domains are then IDLE (Table 6-15). -/
def cstopCheck (s : Block) : Block :=
  match s.pwr.cstop with
  | none => s
  | some c =>
    let s1 := if dcOpen s then release 16 false (cabinetOff s) else s
    if outlets.all fun n => !bit c.outlets (n - 1) || driverOff n s1 then
      let s2 := { s1 with pwr.cstop := none }
      [0, 1].foldl (fun s d => if (s.dom d).play == .stopped then updDom d (fun x => { x with play := .idle }) s else s) s2
    else s1

/-- A controlled stop of every outlet (Table 2-6; R357; Table 6-15); the sessions stop with a reason of Table 9-7. `EV011`
names a welded contactor too, whose release is not waited for. An outlet that is STOPPING already goes on with its own
stop, so its ramp runs on. -/
def cstopBegin (reason : Nat) (s : Block) : Block :=
  if s.pwr.cstop.isSome then stopSessions reason (fun _ => true) s
  else
    let mask := maskOf ((outlets.filter fun n => (s.drv n).on).map fun n => n - 1)
    let closed := maskOf ((outlets.filter fun n => (s.drv n).on || (s.drv n).fb).map fun n => n - 1)
    let s1 := raise 11 closed (sendAllOff 1 { s with pwr.cstop := some ⟨s.sys.mtime, mask⟩ })
    let s2 := abortGroups 4 Group.outputs s1
    let s3 := [0, 1].foldl (fun s d => dropPlan d .stopped (dropStaging d s)) s2
    let s4 := stopSessions reason (fun _ => true) s3
    let s5 := outlets.foldl (fun s n => if (s.drv n).on && (s.ses n).st != .stopping then stopOutlet n s else s) s4
    cstopCheck s5

/-! ### Evaluated configuration (14 R434) -/

/-- `SEC_EVAL_CAUSE` as Table 14-10 gives it. -/
def evalBits (s : Block) : Nat :=
  b2n (lifecycle s != 2) + 2 * b2n (s.cru.dbgOpened || s.cru.dbgState == 1) +
    4 * b2n (s.pln.arbM.cls != classM || s.pln.arbC.cls != classC) + 8 * b2n s.cru.canRaw +
    16 * b2n (s.upd.integ != 0) + 32 * b2n s.cru.blobFail

/-- The causes taken over; a change of the flag raises `EV195`. -/
def evalRefresh (s : Block) : Block :=
  let c := evalBits s
  let s1 := { s with cru.evalCause := c }
  if (c == 0) == (s.cru.evalCause == 0) then s1 else raise 195 (b2n (c == 0) * 256 + c) s1

/-! ### Insulation injectors (12 R376, R378) -/

/-- The injector that serves outlet n, counted from 0. -/
def injOf (n : Nat) : Nat := if n ≤ 6 then 0 else 1
def Block.inj (s : Block) (i : Nat) : Injector := tget s.rcm.inj i
def updInj (i : Nat) (f : Injector → Injector) (s : Block) : Block := { s with rcm.inj := tupd s.rcm.inj i f }

/-- Outlets in an injector's periodic round: its DC outlets whose CDn is closed. -/
def inRound (i : Nat) (s : Block) : List Nat :=
  outlets.filter fun n => injOf n == i && s.isDc n && s.fitted n && (s.drv n).fb && s.svcOf n != 3

/-- The next outlet of the round after the one last measured, ascending. -/
def nextInRound (i : Nat) (s : Block) : Option Nat :=
  let l := inRound i s
  match l.filter fun n => (s.inj i).last < n with
  | n :: _ => some n
  | [] => l.head?

/-- An outlet that an injector takes is monitored: INS is unknown until its first result (Table 12-12). -/
def insBegun (n : Nat) (s : Block) : Block := updRc n (fun r => { r with ins := if r.ins == 0 then 1 else r.ins }) s

/-- A free injector takes its next use: cable checks first, then commands and resets, then the periodic round (R378). -/
def injNext (i : Nat) (s : Block) : Block :=
  let j := s.inj i
  if j.cur.isSome || j.fault then s
  else match (j.queue.filter fun q => q.use == 2) ++ (j.queue.filter fun q => q.use != 2) with
    | q :: _ => insBegun q.outlet (updInj i (fun j => { j with cur := some q, queue := j.queue.erase q }) s)
    | [] => match nextInRound i s with
      | some n => insBegun n (updInj i (fun j => { j with cur := some ⟨1, n, none⟩ }) s)
      | none => s

/-- A request for an injector; a cable check abandons a periodic measurement under way (R378). -/
def insAsk (use n : Nat) (cmd : Option CmdRef) (s : Block) : Block :=
  let i := injOf n
  injNext i (updInj i (fun j => { j with
    queue := j.queue ++ [⟨use, n, cmd⟩]
    cur := match j.cur with
      | some c => if use == 2 && c.use == 1 then none else some c
      | none => none }) s)

/-! ### Tamper classes 1 and 2 (14 R430) -/

/-- A tamper-log entry of a class with its counter; the newest 64 are kept. -/
def tamperEntry (source cls detail : Nat) (test : Bool) (s : Block) : Block :=
  { s with cru := { s.cru with
      tamLog := ({ source, cls, detail, test, mtime := s.sys.mtime, wall := s.wall } :: s.cru.tamLog).take 64
      tamCnt := if test then s.cru.tamCnt else tupd s.cru.tamCnt (cls - 1) inc32 } }

/-- A class 1 or class 2 occurrence: log entry, counter, `EV192`; class 2 also latches ALARM (R430). -/
def tamper (source cls detail : Nat) (s : Block) : Block :=
  let s1 := raise 192 (source * 65536 + detail * 256 + cls) (tamperEntry source cls detail false s)
  if cls == 2 then { s1 with cru.alarm := true } else s1

/-! ### Prepayment state (09 R282) -/

/-- RPERMIT as the prepayment state gives it (11 R355): `EV156` at each change; a fall with CD13 closed is acted on at
the next B-TICK. -/
def setRpermit (v : Bool) (s : Block) : Block :=
  if s.alc.rpermit == v then s
  else replan (raise 156 (b2n v) { s with alc := { s.alc with rpermit := v, rpDrop := !v && (s.drv 13).on } })

/-- A transition of the prepayment state: `EV106`, RPERMIT (R282, R355). -/
def setPp (p : PpState) (s : Block) : Block :=
  if s.bil.pp == p then s
  else setRpermit (p == .connected) (raise 106 (s.bil.pp.code * 16 + p.code) { s with bil.pp := p })

/-- A feedback fault of CD13: FAILED, CD13 released, a controlled stop of every outlet, `EV107` (Tables 9-8, 9-9);
causes 2 and 4 are class 2 tamper. -/
def ppFail (cause : Nat) (s : Block) : Block :=
  if s.bil.pp == .failed then s
  else
    let s1 := cstopBegin 5 (raise 107 cause (setPp .failed (release 13 false s)))
    if cause == 2 || cause == 4 then tamper 14 2 cause { s1 with cru.tamOut := setBit s1.cru.tamOut 14 } else s1

/-! ### Feedback faults (11 R350) -/

/-- A feedback fault of CDk latches: `EV144`, the driver released, and the effect of R350 or Table 9-9. Faults of a
NOT_FITTED outlet are ignored (03 Table 3-5). A DC start at its step 3 fails with it (Table 11-7). -/
def drvFault (k cause : Nat) (s : Block) : Block :=
  if (s.drv k).fcause != 0 then s
  else if k ≤ 12 && s.svcOf k == 0 then release k (loadedNow k s) s
  else
    let s1 := raise 144 (cause * 65536 + k) (release k (k ≤ 12 && loadedNow k s)
      (updDrv k (fun d => { d with fcause := cause, seen := setBit d.seen (cause - 1), tested := false }) s))
    if k ≤ 12 then
      atTick ⟨k, 6, false, 0⟩ (becomeFaulted k (stopSession k 6 (dcFailAt k 3 s1)))
    else if k == 13 then ppFail cause s1
    else if k == 14 || k == 15 then cabinetFault s1
    else s1

end Sys2Proof.Machine
end

