-- ==== Sys2Proof/Machine/Crypto.lean ====
section
/-!
DEFINITION. The algorithms of Crucible's engines that the block's results depend on (14 Table 14-4): SHA-256, SHA-512, HMAC,
HKDF-SHA-512, AES with CMAC and GCM, X25519 and Ed25519. The spec names the standards (FIPS 180-4, FIPS 197, SP 800-38B,
SP 800-38D, RFC 2104, RFC 5869, RFC 7748, RFC 8032); their arithmetic is PRESUMED from them.
-/

namespace Sys2Proof.Machine

/-! ### Bytes, most significant first -/

/-- The number that bytes spell, most significant first. -/
def beNat (l : List Byte) : Nat := l.foldl (fun n b => n * 256 + b.toNat) 0

/-- A number's low `n` bytes, most significant first. -/
def beBytes (n v : Nat) : List Byte := (leBytes n v).reverse

/-- Byte by byte exclusive or, as long as the shorter. -/
def xorBytes (a b : List Byte) : List Byte := List.zipWith (· ^^^ ·) a b

/-- The first `k` pieces of `n` bytes. -/
def pieces (n : Nat) (l : List Byte) : Nat → List (List Byte)
  | 0 => []
  | k + 1 => l.take n :: pieces n (l.drop n) k

/-- The pieces of `n` bytes of a string; the last one may be short. -/
def chunks (n : Nat) (l : List Byte) : List (List Byte) := pieces n l ((l.length + n - 1) / n)

/-- A string with zeros up to a multiple of 16 bytes. -/
def pad16 (l : List Byte) : List Byte := l ++ List.replicate ((16 - l.length % 16) % 16) 0

/-! ### SHA-2 (FIPS 180-4) -/

/-- Fractional parts of the cube roots of the first 80 primes, 64 bits. -/
def shaK : List Nat :=
  [0x428A2F98D728AE22, 0x7137449123EF65CD, 0xB5C0FBCFEC4D3B2F, 0xE9B5DBA58189DBBC,
   0x3956C25BF348B538, 0x59F111F1B605D019, 0x923F82A4AF194F9B, 0xAB1C5ED5DA6D8118,
   0xD807AA98A3030242, 0x12835B0145706FBE, 0x243185BE4EE4B28C, 0x550C7DC3D5FFB4E2,
   0x72BE5D74F27B896F, 0x80DEB1FE3B1696B1, 0x9BDC06A725C71235, 0xC19BF174CF692694] ++
  [0xE49B69C19EF14AD2, 0xEFBE4786384F25E3, 0x0FC19DC68B8CD5B5, 0x240CA1CC77AC9C65,
   0x2DE92C6F592B0275, 0x4A7484AA6EA6E483, 0x5CB0A9DCBD41FBD4, 0x76F988DA831153B5,
   0x983E5152EE66DFAB, 0xA831C66D2DB43210, 0xB00327C898FB213F, 0xBF597FC7BEEF0EE4,
   0xC6E00BF33DA88FC2, 0xD5A79147930AA725, 0x06CA6351E003826F, 0x142929670A0E6E70] ++
  [0x27B70A8546D22FFC, 0x2E1B21385C26C926, 0x4D2C6DFC5AC42AED, 0x53380D139D95B3DF,
   0x650A73548BAF63DE, 0x766A0ABB3C77B2A8, 0x81C2C92E47EDAEE6, 0x92722C851482353B,
   0xA2BFE8A14CF10364, 0xA81A664BBC423001, 0xC24B8B70D0F89791, 0xC76C51A30654BE30,
   0xD192E819D6EF5218, 0xD69906245565A910, 0xF40E35855771202A, 0x106AA07032BBD1B8] ++
  [0x19A4C116B8D2D0C8, 0x1E376C085141AB53, 0x2748774CDF8EEB99, 0x34B0BCB5E19B48A8,
   0x391C0CB3C5C95A63, 0x4ED8AA4AE3418ACB, 0x5B9CCA4F7763E373, 0x682E6FF3D6B2B8A3,
   0x748F82EE5DEFB2FC, 0x78A5636F43172F60, 0x84C87814A1F0AB72, 0x8CC702081A6439EC,
   0x90BEFFFA23631E28, 0xA4506CEBDE82BDE9, 0xBEF9A3F7B2C67915, 0xC67178F2E372532B] ++
  [0xCA273ECEEA26619C, 0xD186B8C721C0C207, 0xEADA7DD6CDE0EB1E, 0xF57D4F7FEE6ED178,
   0x06F067AA72176FBA, 0x0A637DC5A2C898A6, 0x113F9804BEF90DAE, 0x1B710B35131C471B,
   0x28DB77F523047D84, 0x32CAAB7B40C72493, 0x3C9EBE0A15C9BEBC, 0x431D67C49C100D4C,
   0x4CC5D4BECB3E42B6, 0x597F299CFC657E2A, 0x5FCB6FAB3AD6FAEC, 0x6C44198C4A475817]

/-- Fractional parts of the square roots of the first eight primes, 64 bits. -/
def shaIv : List Nat :=
  [0x6A09E667F3BCC908, 0xBB67AE8584CAA73B, 0x3C6EF372FE94F82B, 0xA54FF53A5F1D36F1,
   0x510E527FADE682D1, 0x9B05688C2B3E6C1F, 0x1F83D9ABFB41BD6B, 0x5BE0CD19137E2179]

/-- Three rotations, exclusive or. -/
def shaRot {w : Nat} (a b c : Nat) (x : BitVec w) : BitVec w := x.rotateRight a ^^^ x.rotateRight b ^^^ x.rotateRight c

/-- Two rotations and a shift, exclusive or. -/
def shaMix {w : Nat} (a b c : Nat) (x : BitVec w) : BitVec w := x.rotateRight a ^^^ x.rotateRight b ^^^ (x >>> c)

/-- One round: the eight working words and the sixteen words of the schedule that are next. -/
def shaRound {w : Nat} (bs0 bs1 ss0 ss1 : BitVec w → BitVec w) (x : List (BitVec w) × List (BitVec w)) (k : BitVec w) :
    List (BitVec w) × List (BitVec w) :=
  match x.1 with
  | [a, b, c, d, e, f, g, h] =>
    let m := x.2.getD 0 0
    let t1 := h + bs1 e + ((e &&& f) ^^^ (~~~e &&& g)) + k + m
    let t2 := bs0 a + ((a &&& b) ^^^ (a &&& c) ^^^ (b &&& c))
    ([t1 + t2, a, b, c, d + t1, e, f, g], x.2.drop 1 ++ [ss1 (x.2.getD 14 0) + x.2.getD 9 0 + ss0 (x.2.getD 1 0) + m])
  | _ => x

/-- A message padded to whole blocks of `n` bytes, with its length in bits in the last `n / 8` bytes. -/
def shaPad (n : Nat) (l : List Byte) : List Byte :=
  l ++ 0x80 :: List.replicate ((2 * n - 1 - n / 8 - l.length % n) % n) 0 ++ beBytes (n / 8) (8 * l.length)

/-- SHA-2 with words of `w` bits. -/
def sha2 (w : Nat) (bs0 bs1 ss0 ss1 : BitVec w → BitVec w) (ks iv : List (BitVec w)) (l : List Byte) : List Byte :=
  let st := (chunks (2 * w) (shaPad (2 * w) l)).foldl (fun st b =>
    let m := (chunks (w / 8) b).map fun x => BitVec.ofNat w (beNat x)
    List.zipWith (· + ·) st (ks.foldl (shaRound bs0 bs1 ss0 ss1) (st, m)).1) iv
  st.flatMap fun x => beBytes (w / 8) x.toNat

/-- SHA-512, 64 bytes. -/
@[irreducible] def sha512 (l : List Byte) : List Byte :=
  sha2 64 (shaRot 28 34 39) (shaRot 14 18 41) (shaMix 1 8 7) (shaMix 19 61 6) (shaK.map (BitVec.ofNat 64))
    (shaIv.map (BitVec.ofNat 64)) l

/-- SHA-256, 32 bytes: its constants are the first halves of those of SHA-512. -/
@[irreducible] def sha256 (l : List Byte) : List Byte :=
  sha2 32 (shaRot 2 13 22) (shaRot 6 11 25) (shaMix 7 18 3) (shaMix 17 19 10)
    ((shaK.take 64).map fun k => BitVec.ofNat 32 (k / 4294967296))
    (shaIv.map fun k => BitVec.ofNat 32 (k / 4294967296)) l

/-! ### HMAC and HKDF (RFC 2104, RFC 5869) -/

/-- HMAC over a hash with blocks of `n` bytes. -/
def hmacWith (h : List Byte → List Byte) (n : Nat) (key msg : List Byte) : List Byte :=
  let k := fixLen n (if n < key.length then h key else key)
  h (k.map (· ^^^ 0x5C) ++ h (k.map (· ^^^ 0x36) ++ msg))

/-- HMAC-SHA-256, 32 bytes. -/
@[irreducible] def hmac256 (key msg : List Byte) : List Byte := hmacWith sha256 64 key msg

/-- HMAC-SHA-512, 64 bytes. -/
@[irreducible] def hmac512 (key msg : List Byte) : List Byte := hmacWith sha512 128 key msg

/-- HKDF-SHA-512 for outputs of at most 64 bytes: input key material, salt, info, length. -/
@[irreducible] def hkdf512 (ikm salt info : List Byte) (n : Nat) : List Byte :=
  (hmac512 (hmac512 salt ikm) (info ++ [1])).take n

/-- The ASCII bytes of a label. -/
def ascii (t : String) : List Byte := t.toList.map fun c => BitVec.ofNat 8 c.toNat

/-! ### AES (FIPS 197) -/

/-- Multiplication by x in the field of AES. -/
def gfTwice (b : Byte) : Byte := (b <<< 1) ^^^ (if b.msb then 0x1B else 0)

/-- A product in the field of AES, over `k` bits of the second factor. -/
def gfMulBits (a b : Byte) : Nat → Byte
  | 0 => 0
  | k + 1 => (if b.getLsbD 0 then a else 0) ^^^ gfMulBits (gfTwice a) (b >>> 1) k

def gfMul (a b : Byte) : Byte := gfMulBits a b 8

/-- The inverse in the field of AES: the 254th power; 0 of 0. -/
def gfInv (a : Byte) : Byte :=
  let s := fun x => gfMul x x
  let a2 := s a
  let a4 := s a2
  let a8 := s a4
  let a16 := s a8
  let a32 := s a16
  let a64 := s a32
  gfMul (gfMul (gfMul a2 a4) (gfMul a8 a16)) (gfMul (gfMul a32 a64) (s a64))

/-- The substitution of AES. -/
def aesSub (a : Byte) : Byte :=
  let b := gfInv a
  b ^^^ b.rotateLeft 1 ^^^ b.rotateLeft 2 ^^^ b.rotateLeft 3 ^^^ b.rotateLeft 4 ^^^ 0x63

/-- The round constant of number `i`, from 1. -/
def aesRcon : Nat → Byte
  | 0 | 1 => 1
  | k + 1 => gfTwice (aesRcon k)

/-- The next word of the key schedule: `nk` key words, the words so far, newest first. -/
def aesNext (nk : Nat) (ws : List (List Byte)) : List Byte :=
  let i := ws.length
  let t := ws.headD []
  let t1 := if i % nk == 0 then
      match (t.drop 1 ++ t.take 1).map aesSub with
      | a :: r => (a ^^^ aesRcon (i / nk)) :: r
      | [] => []
    else if 6 < nk && i % nk == 4 then t.map aesSub else t
  xorBytes (ws.getD (nk - 1) []) t1

/-- The round keys of 16 bytes of a key of 16 or 32 bytes. -/
def aesKeys (key : List Byte) : List (List Byte) :=
  let nk := key.length / 4
  let ws := (List.range (4 * (nk + 7) - nk)).foldl (fun ws _ => aesNext nk ws :: ws) (chunks 4 key).reverse
  chunks 16 ws.reverse.flatten

/-- Rows of the state shifted; the state is its 16 bytes column by column. -/
def aesShift (s : List Byte) : List Byte :=
  (List.range 16).map fun i => s.getD ((i / 4 + i % 4) % 4 * 4 + i % 4) 0

/-- Columns of the state mixed. -/
def aesMix (s : List Byte) : List Byte :=
  (List.range 16).map fun i =>
    let a := fun k => s.getD (i / 4 * 4 + (i + k) % 4) 0
    gfTwice (a 0) ^^^ gfTwice (a 1) ^^^ a 1 ^^^ a 2 ^^^ a 3

/-- The rounds on a block already joined with the first round key. -/
def aesRounds (s : List Byte) : List (List Byte) → List Byte
  | [] => s
  | [k] => xorBytes (aesShift (s.map aesSub)) k
  | k :: r => aesRounds (xorBytes (aesMix (aesShift (s.map aesSub))) k) r

/-- AES-128 or AES-256 encryption of a block. -/
@[irreducible] def aesEnc (key blk : List Byte) : List Byte :=
  match aesKeys key with
  | [] => []
  | k :: r => aesRounds (xorBytes (fixLen 16 blk) k) r

/-! ### CMAC (SP 800-38B) and GCM (SP 800-38D) -/

/-- Doubling in the field of CMAC. -/
def cmacTwice (b : List Byte) : List Byte :=
  let n := beNat b
  beBytes 16 (Nat.xor (2 * n % 2 ^ 128) (if bit n 127 then 0x87 else 0))

/-- AES-CMAC, 16 bytes. -/
@[irreducible] def cmac (key msg : List Byte) : List Byte :=
  let k1 := cmacTwice (aesEnc key [])
  let n := (msg.length - 1) / 16 * 16
  let last := msg.drop n
  let m := if last.length == 16 then xorBytes last k1 else xorBytes (fixLen 16 (last ++ [0x80])) (cmacTwice k1)
  aesEnc key (xorBytes m ((chunks 16 (msg.take n)).foldl (fun x b => aesEnc key (xorBytes x b)) (List.replicate 16 0)))

/-- A product in the field of GCM: `k` bits of `x` from the top are left, `v` is the other factor shifted so far. -/
def gcmMulFrom (x v z : Nat) : Nat → Nat
  | 0 => z
  | k + 1 => gcmMulFrom x (Nat.xor (v / 2) (if bit v 0 then 0xE1 * 2 ^ 120 else 0)) (if bit x k then Nat.xor z v else z) k

/-- GHASH of whole blocks. -/
def ghash (h : Nat) (l : List Byte) : Nat :=
  (chunks 16 l).foldl (fun y b => gcmMulFrom (Nat.xor y (beNat b)) h 0 128) 0

/-- AES-GCM with a nonce of 12 bytes, opened: the plain text, none where the tag does not verify. -/
@[irreducible] def gcmOpen (key nonce aad ct tag : List Byte) : Option (List Byte) :=
  let h := beNat (aesEnc key [])
  let ctr := fun i => aesEnc key (nonce ++ beBytes 4 i)
  let g := ghash h (pad16 aad ++ pad16 ct ++ beBytes 8 (8 * aad.length) ++ beBytes 8 (8 * ct.length))
  if xorBytes (beBytes 16 g) (ctr 1) == tag then
    some (((chunks 16 ct).zipIdx.map fun x => xorBytes x.1 (ctr (x.2 + 2))).flatten)
  else none

/-! ### Arithmetic modulo 2^255 − 19 -/

def fieldP : Nat := 2 ^ 255 - 19

/-- A power modulo `m`; the exponent has at most `k` bits. -/
def powMod (m b e : Nat) : Nat → Nat
  | 0 => 1
  | k + 1 => let r := powMod m (b * b % m) (e / 2) k
             if e % 2 == 1 then b * r % m else r

def fieldMul (a b : Nat) : Nat := a * b % fieldP
def fieldAdd (a b : Nat) : Nat := (a + b) % fieldP
def fieldSub (a b : Nat) : Nat := (a + (fieldP - b % fieldP)) % fieldP
def fieldInv (a : Nat) : Nat := powMod fieldP a (fieldP - 2) 255

/-- A private key clamped (RFC 7748, RFC 8032): the lowest three bits and bit 255 clear, bit 254 set. -/
def clamp (l : List Byte) : Nat :=
  let n := leNat (l.take 32) % 2 ^ 254
  n - n % 8 + 2 ^ 254

/-! ### X25519 (RFC 7748) -/

/-- The Montgomery ladder over the low `k` bits of the scalar: (x2, z2), (x3, z3). -/
def ladder (s u : Nat) (a b : Nat × Nat) : Nat → Nat × Nat
  | 0 => a
  | k + 1 =>
    let t := bit s k
    let p := if t then b else a
    let q := if t then a else b
    let a1 := fieldAdd p.1 p.2
    let b1 := fieldSub p.1 p.2
    let aa := fieldMul a1 a1
    let bb := fieldMul b1 b1
    let e := fieldSub aa bb
    let da := fieldMul (fieldSub q.1 q.2) a1
    let cb := fieldMul (fieldAdd q.1 q.2) b1
    let x3 := fieldMul (fieldAdd da cb) (fieldAdd da cb)
    let z3 := fieldMul u (fieldMul (fieldSub da cb) (fieldSub da cb))
    let p2 := (fieldMul aa bb, fieldMul e (fieldAdd aa (fieldMul 121665 e)))
    ladder s u (if t then (x3, z3) else p2) (if t then p2 else (x3, z3)) k

/-- X25519 of a private key and a u-coordinate. -/
@[irreducible] def x25519 (key u : List Byte) : List Byte :=
  let n := leNat (u.take 32) % 2 ^ 255 % fieldP
  let r := ladder (clamp key) n (1, 0) (n, 1) 255
  leBytes 32 (fieldMul r.1 (fieldInv r.2))

/-- The public key of an X25519 key. -/
def x25519Public (key : List Byte) : List Byte := x25519 key (9 :: List.replicate 31 0)

/-! ### Ed25519 (RFC 8032) -/

/-- A point in extended coordinates X, Y, Z, T. -/
abbrev EdPoint := Nat × Nat × Nat × Nat

def edD : Nat := 0x52036CEE2B6FFE738CC740797779E89800700A4D4141D8AB75EB4DCA135978A3
def edL : Nat := 0x1000000000000000000000000000000014DEF9DEA2F79CD65812631A5CF5D3ED
def edOne : EdPoint := (0, 1, 1, 0)

/-- The base point. -/
def edBase : EdPoint :=
  let x := 0x216936D3CD6E53FEC0A4E231FDD6DC5C692CC7609525A7B2C9562D608F25D51A
  let y := 0x6666666666666666666666666666666666666666666666666666666666666658
  (x, y, 1, fieldMul x y)

def edAdd (p q : EdPoint) : EdPoint :=
  let (x1, y1, z1, t1) := p
  let (x2, y2, z2, t2) := q
  let a := fieldMul (fieldSub y1 x1) (fieldSub y2 x2)
  let b := fieldMul (fieldAdd y1 x1) (fieldAdd y2 x2)
  let c := fieldMul (fieldMul t1 (2 * edD)) t2
  let d := fieldMul (2 * z1) z2
  let e := fieldSub b a
  let f := fieldSub d c
  let g := fieldAdd d c
  let h := fieldAdd b a
  (fieldMul e f, fieldMul g h, fieldMul f g, fieldMul e h)

/-- A multiple of a point; the factor has at most `k` bits. -/
def edMul (s : Nat) (p : EdPoint) : Nat → EdPoint
  | 0 => edOne
  | k + 1 => let r := edMul (s / 2) (edAdd p p) k
             if s % 2 == 1 then edAdd r p else r

def edSame (p q : EdPoint) : Bool :=
  fieldMul p.1 q.2.2.1 == fieldMul q.1 p.2.2.1 && fieldMul p.2.1 q.2.2.1 == fieldMul q.2.1 p.2.2.1

/-- The 32 bytes of a point. -/
def edEnc (p : EdPoint) : List Byte :=
  let z := fieldInv p.2.2.1
  leBytes 32 (fieldMul p.2.1 z + fieldMul p.1 z % 2 * 2 ^ 255)

/-- The point of 32 bytes, none where they spell no point. -/
def edDec (l : List Byte) : Option EdPoint :=
  let n := leNat l
  let y := n % 2 ^ 255
  let sign := n / 2 ^ 255
  let u := fieldSub (fieldMul y y) 1
  let v := fieldAdd (fieldMul edD (fieldMul y y)) 1
  let x2 := fieldMul u (fieldInv v)
  let r := powMod fieldP x2 ((fieldP + 3) / 8) 255
  let x := if fieldMul r r == x2 then r else fieldMul r 0x2B8324804FC1DF0B2B4D00993DFBD7A72F431806AD2FE478C4EE1B274A0EA0B0
  if l.length != 32 || fieldP ≤ y || fieldMul x x != x2 || (x == 0 && sign == 1) then none
  else
    let x1 := if x % 2 == sign then x else fieldP - x
    some (x1, y, 1, fieldMul x1 y)

/-- The public key of a private key. -/
@[irreducible] def edPublic (key : List Byte) : List Byte := edEnc (edMul (clamp (sha512 key)) edBase 255)

/-- A signature, 64 bytes. -/
@[irreducible] def edSign (key msg : List Byte) : List Byte :=
  let h := sha512 key
  let a := clamp h
  let pub := edEnc (edMul a edBase 255)
  let r := leNat (sha512 (h.drop 32 ++ msg)) % edL
  let rb := edEnc (edMul r edBase 255)
  let k := leNat (sha512 (rb ++ pub ++ msg)) % edL
  rb ++ leBytes 32 ((r + k * a) % edL)

/-- Verification of a signature with the group equation of RFC 8032, multiplied by the cofactor: key, message, signature. -/
@[irreducible] def edVerify (key msg sig : List Byte) : Bool :=
  match edDec key, edDec (sig.take 32) with
  | some a, some r =>
    let s := leNat (sig.drop 32)
    let k := leNat (sha512 (sig.take 32 ++ key ++ msg)) % edL
    sig.length == 64 && s < edL && edSame (edMul (8 * s) edBase 256) (edMul 8 (edAdd r (edMul k a 255)) 4)
  | _, _ => false

end Sys2Proof.Machine
end

