-- ==== Sys2Proof/Machine/Slots.lean ====
section
/-!
DEFINITION. Crucible's key slots: their attributes, and putting a key into a slot or clearing it (14 R414–R417).
-/

namespace Sys2Proof.Machine

def updCru (f : Cru → Cru) (s : Block) : Block := { s with cru := f s.cru }

/-- An operation completed by an engine (R418). -/
def engOp (e : Nat) (s : Block) : Block :=
  updCru (fun c => { c with engCnt := tupd c.engCnt e fun n => (n + 1) % 4294967296 }) s

/-! ### Slots (R414, Table 14-3) -/

/-- ENGINE of a slot (Table 14-2). -/
def slotEngine (k : Nat) : Nat :=
  if k == 3 then 7 else if k == 4 then 6 else if k == 5 || k == 62 then 8
  else if k == 14 then 9 else if k == 16 || k == 19 then 4 else if k == 17 then 5 else if k == 18 then 3
  else if 20 ≤ k then 7 else 2

/-- TYPE of a slot's key; an AES session key is AES-128. -/
def slotType (k : Nat) : Nat :=
  if k ≤ 2 then 1 else if k == 3 then 8 else if k == 4 then 6 else if k == 5 then 7
  else if k ≤ 13 then 2 else if k == 14 then 9 else if k == 16 || k == 19 then 4 else if k == 17 then 5
  else if k == 18 then 3 else 7

/-- ORIGIN: 0 derived, 1 generated, 2 injected, 3 session. -/
def slotOrigin (k : Nat) : Nat := if k ≤ 5 then 0 else if k ≤ 14 then 2 else if k ≤ 19 then 1 else if k ≤ 23 then 2 else 3

/-- USAGE, bits [23:16]. DEDUCED from the use that Tables 14-1 and 14-2 give each key. -/
def slotUsage (k : Nat) : Nat :=
  if k ≤ 2 || (16 ≤ k && k ≤ 19) then 0x01
  else if k == 3 then 0x80 else if k == 4 then 0x20 else if k == 5 then 0x40
  else if k ≤ 13 then 0x02 else if k == 14 then 0x10
  else if 20 ≤ k && k ≤ 23 then 0x14 else 0x0C

def slotLocked (k : Nat) : Bool := k ≤ 5 || k == 13

/-- The attribute word of slot k while it holds a key. -/
def slotAttr (k : Nat) : Nat :=
  (reg [fld 31 31 1, fld 30 30 (b2n (slotLocked k)), fld 29 28 (slotOrigin k), fld 27 24 (slotType k),
        fld 23 16 (slotUsage k), fld 11 8 (slotEngine k)]).toNat

/-- A key put into a slot, without an event. -/
def slotPut (k : Nat) (key : List Byte) (s : Block) : Block :=
  updCru (fun c => { c with slots := tput c.slots k ⟨slotAttr k, key⟩ }) s

def slotClear (k : Nat) (s : Block) : Block := updCru (fun c => { c with slots := tput c.slots k ⟨0, []⟩ }) s

/-- Session slots cleared (R417). -/
def clearSessions (s : Block) : Block := (upto 32 62).foldl (fun s k => slotClear k s) s

/-- Label and length of a derived key (Table 14-1). -/
def keyLabel (k : Nat) : String × Nat :=
  match k with
  | 0 => ("UAZEL-HQ6412 HALLMARK v1", 32)
  | 1 => ("UAZEL-HQ6412 INGOT v1", 32)
  | 2 => ("UAZEL-HQ6412 ASSAY-LOG v1", 32)
  | 3 => ("UAZEL-HQ6412 WRAP v1", 32)
  | 4 => ("UAZEL-HQ6412 PROV-X25519 v1", 32)
  | _ => ("UAZEL-HQ6412 TAG v1", 16)

/-- The derived key of a slot (R411, R412): the same at every start. -/
def derivedKey (k : Nat) : List Byte :=
  hkdf512 (leBytes 32 Config.dus.toNat) (leBytes 8 Config.serial.toNat) (ascii (keyLabel k).1) (keyLabel k).2

/-- A signature with the key of slot 0, 1 or 2 (Table 14-1). -/
def slotSign (k : Nat) (msg : List Byte) : List Byte := edSign (derivedKey k) msg

/-- A key slot holds a key (Table 14-3 VALID). -/
def slotValid (k : Nat) (s : Block) : Bool := bit (tget s.cru.slots k).attr 31

/-- A traffic key of a TLS session put into its slot, a free value of the key exchange: AES-256, TYPE 8, or AES-128. -/
def sessionKey (aes256 : Bool) (k : Nat) (s : Block) : Block :=
  let (i, s1) := s.draw
  let lo := leBytes 16 (Config.random i).toNat
  if aes256 then
    let (j, s2) := s1.draw
    updCru (fun c => { c with slots := tput c.slots k ⟨slotAttr k + 16777216, lo ++ leBytes 16 (Config.random j).toNat⟩ }) s2
  else slotPut k lo s1

/-- The session keys of a TLS session of outlet n in slots 30 + 2n and 31 + 2n. -/
def vehicleKeys (aes256 : Bool) (n : Nat) (s : Block) : Block :=
  [30 + 2 * n, 31 + 2 * n].foldl (fun s k => sessionKey aes256 k s) s

def vehicleKeysGone (n : Nat) (s : Block) : Block := slotClear (31 + 2 * n) (slotClear (30 + 2 * n) s)

/-- An operation that an engine refuses because its slot holds no key: `EV203` (R416). -/
def keyMisuse (slot engine requester : Nat) (s : Block) : Block :=
  raise 203 (slot * 256 + engine * 16 + requester) s

/-- A SECC key with its certificate chain. -/
def seccKey (k : Nat) (s : Block) : Bool := slotValid k s && (lookupN k s.cru.chains).isSome

/-- The TLS session of an Ethernet port ends, with its keys in slots 56 to 59 (R437). -/
def tlsEnd (port : Nat) (s : Block) : Block :=
  slotClear (54 + 2 * port) (slotClear (55 + 2 * port)
    (updCru (fun c => { c with tls := tput c.tls (port - 1) false }) s))

end Sys2Proof.Machine
end

