-- ==== Sys2Proof/Machine/Outlets.lean ====
section
/-!
DEFINITION. Outlets and vehicle handshake (10): pilot and proximity, sessions, SLAC, the vehicle's messages, tunnelling,
and the outlet commands of Table 10-14.
-/

namespace Sys2Proof.Machine

/-! ### Vehicle limits -/

/-- The limits refreshed (R306): `EV137` at a change; a limit below the setpoint in force is override cause 4, which
ends once the setpoint lies within the limits and the vehicle asks for current. -/
def refreshLimits (n : Nat) (s : Block) : Block :=
  let (imp, exp) := vehicleLimits n s
  let o := s.ol n
  let s1 := limitsTo n s
  let p := (s.ao n).setpt
  if p > (imp : Int) || -p > (exp : Int) then
    (if (s.ses n).st.stoppable then ovrVehicle n imp exp s1 else s1)
  else if o.cp == 2 || (o.cp == 3 && s.vent n) || (s.ses n).proto ≥ 2 then ovrEnd n 4 s1
  else s1

/-! ### Session opening (R303) -/

/-- Sessions are offered on outlet n (R303; Tables 1-7, 2-2, 9-8; R279). -/
def offered (n : Nat) (s : Block) : Bool :=
  s.inMode [.service, .degraded] && s.sys.trans.isNone && s.svcOf n == 1 && vcpOk s && s.bil.pp == .connected &&
  !s.bil.capStop && s.pwr.cstop.isNone && !bylithDown s && !(s.ol n).outDue && s.upd.gpmLoad != n &&
  !(s.isDc n && bit s.split 1 && bit s.mbx.fallback 1 && s.mbx.silent.isSome)

/-- The session runs a high-level protocol from its start: PROTO bits [2:0], and no host-silent fallback. -/
def hlcStart (n : Nat) (s : Block) : Bool := s.proto n % 8 != 0 && !(bit s.split 1 && bit s.mbx.fallback 1)

/-- An RW-B write of `OUT_TRIMn` applies at the outlet's B-SES, DEBOUNCE clamped to its range (R107, R329). -/
def applyTrim (n : Nat) (s : Block) : Block :=
  let a := 0x200154 + (n - 1) * 0x100
  match lookupN a s.shadows with
  | none => s
  | some w =>
    let d := bits w.toNat 15 8
    let d := if d < 3 then 3 else if d > 10 then 10 else d
    updOl n (fun o => { o with trim := d * 256 + w.toNat % 256 }) { s with shadows := eraseN a s.shadows }

/-- The residual-current thresholds of the protection section come into force at a B-SES (12 R384). -/
def rcmThresholds (n : Nat) (s : Block) : Block :=
  let f := fun o => s.cfg16 0x0009 (16 + 12 * (n - 1) + o)
  updRc n (fun r => { r with tdcl := f 0, tdcm := f 2, tdch := f 4, tac := f 6 }) s

/-- The session's self-test begins (12 R374), with the thresholds of the B-SES. -/
def rcmAtOpen (n : Nat) (s : Block) : Block := updRc n (fun r => { r with run := .session false }) (rcmThresholds n s)

/-- A session's data at opening: SESID, times, accumulators of MPn, the tariff table in force (R303; 09 R257, R267).
`OUT_STATn.REASON` goes on showing the last session's end reason. -/
def sessionAtOpen (n : Nat) (s : Block) : Session :=
  { Session.none with
    st := .open, sesid := (s.out.sesseq + 1) % 4294967296
    proto := if hlcStart n s then 0 else 1
    tunnel := s.assisted 1 && hlcStart n s
    mtOpen := s.sys.mtime, wallOpen := s.wall, stAt := s.sys.mtime, waitTimer := s.sys.mtime
    accOpen := accVis n s
    table := s.bil.table, reason := (s.ses n).reason
    markImp := (accVis n s).getD 0 0, markExp := (accVis n s).getD 1 0 }

/-- The start of the high-level link: 50 ‰ and the first SLAC window (R298, Table 10-7). -/
def hlcAtOpen (n : Nat) (s : Block) : Block :=
  if hlcStart n s then
    setPilot n 1 50 (updOl n (fun o => { o with slac := { Slac.none with result := 1, since := s.sys.mtime } }) s)
  else setPilot n 0 1000 (updOl n (fun o => { o with slac := Slac.none }) s)

/-- A fallback to basic PWM (R313, R323): steady +12 V until the next PD row. -/
def fallBack (n cause : Nat) (s : Block) : Block :=
  raise 138 (cause * 256 + n) (setPilot n 0 1000
    (updOl n (fun o => { o with
      ses := { o.ses with proto := 1, fallback := true, tls := false, tlsVer := 0, tunnel := false }
      slac := { o.slac with waitF := false, setup := false } }) s))

/-- The handshake of the session fails, for OUT_ERR cause `why` (R313): basic PWM where the outlet allows it, else
state F for 4 s and a second SLAC window, else the session stops with reason 1. -/
def handshakeFail (n why : Nat) (s : Block) : Block :=
  let s1 := raise 132 n { updOl n (fun o => { o with
    cntE := inc32 o.cntE, errCause := why, slac := { o.slac with result := 3 }
    fault := if why == 1 then setBit o.fault 3 else o.fault }) s with out.cntFail := inc32 s.out.cntFail }
  if !s.isDc n && bit (s.proto n) 3 && s.fallbackOn n then replan (fallBack n 1 s1)
  else if !(s.ol n).slac.second then
    setPilot n 3 1000 (updOl n (fun o => { o with slac := { o.slac with waitF := true, setup := false, since := s.sys.mtime } }) s1)
  else stopSession n 1 s1

/-- A session opens at its B-SES (R303), at which the vehicle communication returns to the host first (01 R29) and FORBID of
the point clears (08 R233). A modem that is not ready sends the outlet to SLAC failure and fallback at once (R309). -/
def sessionOpened (n : Nat) (s0 : Block) : Block :=
  let s := hostReturn 1 { s0 with nrg.pq := tupd s0.nrg.pq n fun x => { x with forbid := false } }
  let e := sessionAtOpen n s
  let s1 := applyTrim n (rcmAtOpen n s)
  let s2 := updOl n (fun o => { o with ses := e, cntS := inc32 o.cntS, errResp := 0, errCause := 0
                                       tunOpen := false, tunClosed := false, tunRx := [], tunTx := [], tunArmed := true
                                       certAt := none }) s1
  let s3 := updAo n (fun a => { a with closedSes := false, weldOk := false, preOk := false, dcFail := false }) s2
  let s4 := raise 129 (e.sesid % 16777216 * 256 + n) { s3 with
    out := { s3.out with sesseq := e.sesid, cntSession := inc32 s3.out.cntSession } }
  let s5 := replan (ovrEnd n 1 (ovrEnd n 4 (hlcAtOpen n { s4 with pln.sesB := s4.pln.sesB ++ [n] })))
  let s6 := saveSes n s5
  if hlcStart n s && (s.ol n).modemLost then handshakeFail n 6 s6 else s6

/-- The session opens under the outlet's lock (06 R176). -/
def openSession (n : Nat) (s : Block) : Block := underLock n (sessionOpened n) s

/-- Offering resumes with a vehicle connected (R303): checked at each B-TICK. -/
def offerCheck (n : Nat) (s : Block) : Block :=
  let c := (s.ol n).cp
  if (s.ses n).st == .idle && 1 ≤ c && c ≤ 3 && offered n s then openSession n s else s

/-! ### Authorisation (R305) -/

/-- The session is authorised by a method of `BIL_SESn_STAT.AUTH` (Table 10-6). -/
def authorise (n method : Nat) (limit : Int) (subject : List Byte) (s : Block) : Block :=
  refreshLimits n (replan (raise 131 (method * 256 + n) (updSes n (fun e => { e with
    st := .authorised, auth := method, limit, subject := fixLen 32 subject, mtAuth := s.sys.mtime, stAt := s.sys.mtime }) s)))

/-- A refused attempt (R305). -/
def authRefused (n : Nat) (s : Block) : Block := raise 131 n s

/-- An authorisation can take effect on the outlet: a session OPEN, or PARKED and offered (Table 10-6). -/
def authorises (n : Nat) (s : Block) : Bool := (s.ses n).st == .open || ((s.ses n).st == .parked && offered n s)

/-- An authorisation of an OPEN session, or of a PARKED outlet on which sessions are offered: a new session opens
(R303, Table 10-6). -/
def authoriseAny (n method : Nat) (limit : Int) (subject : List Byte) (s : Block) : Block :=
  match (s.ses n).st with
  | .open => authorise n method limit subject s
  | .parked => if offered n s then authorise n method limit subject (openSession n s) else authRefused n s
  | _ => s

/-! ### Pilot and proximity -/

/-- A pilot or proximity event with fault code (R301): `EV136` and the sticky bit of `OUT_FAULTn`. -/
def pilotFault (n code fbit : Nat) (s : Block) : Block :=
  raise 136 (code * 256 + n) (updOl n (fun o => { o with fault := setBit o.fault fbit }) s)

/-- State A accepted: override 1, CDn released at once, the session stops with reason 1, PARKED ends (Tables 10-4,
10-6). -/
def pilotToA (n : Nat) (s : Block) : Block :=
  let s1 := stopSession n 1 (fastRelease n true (atTick ⟨n, 1, false, 0⟩ (updOl n (fun o => { o with diode := false }) s)))
  if (s.ses n).st == .parked then replan (updSes n (fun e => { e with st := .idle, stAt := s.sys.mtime }) s1) else s1

/-- State E, or an invalid level: override 1, CDn released, the PWM stops (R301). -/
def pilotToE (n : Nat) (s : Block) : Block :=
  fastRelease n true (atTick ⟨n, 1, false, 0⟩ (pilotFault n 2 1 s))

/-- A return from C or D to B: override 4 with limit 0, CDn released (R301). -/
def pilotBackToB (n : Nat) (s : Block) : Block := fastRelease n false (ovrVehicle n 0 0 s)

/-- B, C or D accepted on the outlet (Table 10-4, R308). -/
def pilotVehicle (n old new : Nat) (s : Block) : Block :=
  let s1 := if new == 1 && (old == 2 || old == 3) then pilotBackToB n s
            else if new == 3 && !s.vent n then ovrVehicle n 0 0 s
            else if new == 2 || new == 3 then refreshLimits n s
            else s
  offerCheck n (replan s1)

/-- The state of a high level in mV (Table 10-3): 0 A, 1 B, 2 C, 3 D, 4 E, 6 invalid. -/
def pilotStateOf (high : Int) : Nat :=
  if 10500 ≤ high && high ≤ 13500 then 0
  else if 7500 ≤ high && high < 10500 then 1
  else if 4500 ≤ high && high < 7500 then 2
  else if 1500 ≤ high && high < 4500 then 3
  else if -1500 < high && high < 1500 then 4
  else 6

/-- A new pilot state is accepted (R299, R301). Where the module itself drives 0 V or −12 V, the level is its own. -/
def pilotState (n : Nat) (high low : Int) (s : Block) : Block :=
  let o := s.ol n
  let new := pilotStateOf high
  if (o.gen == 2 || o.gen == 3) && !o.pilotTest then s
  else
    let s1 := updOl n (fun o => { o with high, low }) s
    if o.cp == new then s1
    else
      let s2 := raise 128 (n * 256 + o.cp * 16 + new) (updOl n (fun o => { o with cp := new }) s1)
      if new == 0 then pilotToA n s2
      else if new ≤ 3 then pilotVehicle n o.cp new s2
      else pilotToE n s2

/-- `PILOT_DIODE_FAULT` (R300): while the PWM runs in B, C or D. -/
def execPilotDiodeFault (outlet : Nat) (lowMV : Int) (s : State) : Out :=
  act (fun b =>
    let o := b.ol outlet
    if outletOk outlet && o.gen == 1 && 1 ≤ o.cp && o.cp ≤ 3 && !o.diode then
      fastRelease outlet true (atTick ⟨outlet, 1, false, 0⟩ (pilotFault outlet 1 0
        (updOl outlet (fun o => { o with diode := true, low := lowMV }) b)))
    else b) s

/-- A proximity result accepted (R302): `EV135` at a change of the rating; a short or invalid reading is a fault; open
or invalid is override cause 1; open ends the session with reason 1. -/
def proximity (n res : Nat) (s : Block) : Block :=
  if s.o8 n 3 == 0 then s
  else
    let valid := codedRating false res != 0
    let old := ratingOf n s
    let s1 := updOl n (fun o => { o with res := if proxOpen res then 0xFFFF else if res < 60 then 0 else res }) s
    let new := ratingFor n res s
    let s2 := if new == old then s1 else replan (raise 135 (new * 65536 + n) s1)
    let s3 := if proxOpen res || valid then s2 else pilotFault n (if res < 60 then 3 else 4) 2 s2
    let s4 := if valid || res < 60 then s3 else atTick ⟨n, 1, false, 0⟩ s3
    refreshLimits n (if proxOpen res then stopSession n 1 s4 else s4)

/-- `PROXIMITY_CHANGE` (R302). -/
def execProximityChange (outlet res : Nat) (s : State) : Out :=
  act (fun b => if b.pwr.heldBy == .no && outletOk outlet then proximity outlet res b else b) s

/-! ### Green PHY links and SLAC -/

/-- `MODEM_LINK_LOST` (R309): masked while BYPASSED (R91). -/
def execModemLinkLost (outlet : Nat) (s : State) : Out :=
  act (fun b =>
    if b.pwr.heldBy == .no && outletOk outlet && !(b.ol outlet).modemLost then
      let b1 := updOl outlet (fun o => { o with
        modemLost := true, modemAt := b.sys.mtime, fault := setBit o.fault 6 }) b
      let b2 := if b.svcOf outlet == 3 then b1 else raise 140 (256 + outlet) b1
      let e := b.ses outlet
      if e.st.stoppable && e.proto ≥ 2 then
        stopSession outlet 6 (updOl outlet (fun o => { o with errCause := 6 }) b2)
      else if e.st.stoppable && (b.ol outlet).slac.result == 1 then handshakeFail outlet 6 b2
      else b2
    else b) s

/-- `MODEM_LINK_RESTORED` (R309). -/
def execModemLinkRestored (outlet : Nat) (s : State) : Out :=
  act (fun b =>
    if b.pwr.heldBy == .no && outletOk outlet && (b.ol outlet).modemLost then
      let b1 := updOl outlet (fun o => { o with modemLost := false, modemAt := b.sys.mtime }) b
      if b.svcOf outlet == 3 then b1 else raise 140 outlet b1
    else b) s

/-- Answers to a vehicle (`Outlet.lastAns`). -/
def ansOk := 1
def ansFailed := 2
def ansSequenceError := 3
def ansOngoing := 4
def ansNoNegotiation := 5
def ansNoCertificate := 6
def ansNotRequired := 7
def ansSdpTls := 8
def ansSdpPlain := 9
def ansMatchCnf := 10
def ansAttenChar := 11
def ansCertBody := 12
def ansUnknownSession := 13

def sayTo (n code : Nat) (s : Block) : Block := updOl n (fun o => { o with lastAns := code, ans := VAns.none }) s

/-- An answer with its contents. -/
def sayWith (n code : Nat) (a : VAns) (s : Block) : Block := updOl n (fun o => { o with lastAns := code, ans := a }) s

/-- A non-OK ResponseCode sent: its index in the standard's enumeration is a free value (Table 10-17 RESP). -/
def sayFailed (n code : Nat) (s : Block) : Block :=
  let (i, s1) := s.draw
  updOl n (fun o => { o with lastAns := code, ans := VAns.none, errResp := (Config.freeWord i).toNat % 65536 }) s1

def updSlac (n : Nat) (f : Slac → Slac) (s : Block) : Block := updOl n (fun o => { o with slac := f o.slac }) s

/-- The outlet waits for SLAC and has heard this RunID. -/
def hears (n run : Nat) (s : Block) : Bool := (s.ol n).slac.result == 1 && (s.ol n).slac.runId == run

/-- The ten sounds are complete (R311): the outlet with the lowest average among those waiting that heard the RunID
answers; equal averages go to the lower number; the others yield. -/
def soundsDone (n run : Nat) (s : Block) : Block :=
  let rivals := outlets.filter fun m => m != n && hears m run s && (s.ol m).slac.sounds ≥ 10
  let att := (s.ol n).slac.att
  if rivals.any fun m => (s.ol m).slac.att < att || ((s.ol m).slac.att == att && m < n) then
    updSlac n (fun c => { c with result := 4 }) s
  else sayTo n ansAttenChar (rivals.foldl (fun s m => updSlac m (fun c => { c with result := 4 }) s) s)

/-- One sound with its average attenuation (R310, R311). -/
def slacSound (n run att : Nat) (s : Block) : Block :=
  let c := (s.ol n).slac
  if hears n run s && c.sounds < 10 then
    let k := c.sounds + 1
    let s1 := updSlac n (fun c => { c with sounds := k, attSum := c.attSum + att, att := min ((c.attSum + att) / k) 255 }) s
    if k == 10 then soundsDone n run s1 else s1
  else s

/-- A match (R312): a fresh NMK from the DRBG, which a stopped DRBG refuses (14 R420), `EV132` with 1, and 20 s for SessionSetup. -/
def slacMatch (n mac run : Nat) (s : Block) : Block :=
  if hears n run s && (s.ol n).slac.sounds ≥ 10 && s.cru.drbgOk then
    let (i, s1) := s.draw
    raise 132 (256 + n) (sayTo n ansMatchCnf (updSlac n (fun c => { c with
      result := 2, mac, nmk := i, since := s.sys.mtime, setup := true, waitF := false }) s1))
  else s

/-- `SLAC_MESSAGE` (R310–R312). -/
def execSlacMessage (outlet : Nat) (m : SlacMsg) (s : State) : Out :=
  act (fun b =>
    if outletOk outlet && (b.ses outlet).st.stoppable && !(b.ol outlet).modemLost && !bylithDown b then
      match m with
      | .parmReq mac runId =>
        if (b.ol outlet).slac.result == 1 then
          updSlac outlet (fun c => { c with runId, mac, sounds := 0, attSum := 0, att := 0 }) b
        else b
      | .sound runId att => slacSound outlet runId att b
      | .validateReq => sayTo outlet ansNotRequired b
      | .matchReq mac runId => slacMatch outlet mac runId b
    else b) s

/-! ### Negotiation and TLS -/

/-- The outlet is matched and its session is still open. -/
def matched (n : Nat) (s : Block) : Bool :=
  (s.ses n).st.stoppable && (s.ol n).slac.result == 2 && !(s.ol n).modemLost

/-- And Bylith runs. -/
def linked (n : Nat) (s : Block) : Bool := matched n s && !bylithDown s

/-- The vehicle's messages are handled on the module. -/
def onChip (n : Nat) (s : Block) : Bool := linked n s && !(s.ses n).tunnel

/-- `SDP_REQUEST` (R314): TCP port 49,152 + n; TLS where the vehicle asks or TLSREQ is 1 and a protocol of Table 10-10 that
uses it is allowed. -/
def execSdpRequest (outlet : Nat) (tls : Bool) (s : State) : Out :=
  act (fun b =>
    if outletOk outlet && linked outlet b then
      let can := bit (b.proto outlet) 1 || bit (b.proto outlet) 2
      sayWith outlet (if can && (tls || bit (b.o8 outlet 9) 2) then ansSdpTls else ansSdpPlain)
        { VAns.none with port := 49152 + outlet } b
    else b) s

/-- Bits of the suites a vehicle offers: TLS_ECDHE_ECDSA_WITH_AES_128_GCM_SHA256, TLS_AES_128_GCM_SHA256,
TLS_AES_256_GCM_SHA384; further bits are suites the module does not offer. -/
def tlsAccepts (proto version suites : Nat) : Bool :=
  (version == 12 && bit proto 1 && bit suites 0) || (version == 13 && bit proto 2 && (bit suites 1 || bit suites 2))

/-- Crucible can serve the handshake: its DRBG runs, and a SECC key of the standard has its chain (14 R416, R420). -/
def tlsServes (version : Nat) (s : Block) : Bool :=
  !s.pwr.crucDown && s.cru.drbgOk && (if version == 12 then seccKey 16 s else seccKey 17 s || seccKey 18 s)

/-- The handshake's signature asked for with an empty key slot (14 R416): slot 16 of TLS 1.2; of the two of TLS 1.3, slot 17. -/
def tlsMisuse (version : Nat) (s : Block) : Block :=
  if version == 12 then (if slotValid 16 s then s else keyMisuse 16 4 7 s)
  else if slotValid 17 s || slotValid 18 s then s else keyMisuse 17 5 7 s

/-- `V2G_TLS_HANDSHAKE` (R319); version 12 or 13 for TLS 1.2 or 1.3. A tunnelled session's TLS ends at the host. -/
def execV2gTlsHandshake (outlet version suites : Nat) (ok : Bool) (s : State) : Out :=
  act (fun b =>
    if outletOk outlet && onChip outlet b then
      if ok && tlsAccepts (b.proto outlet) version suites && tlsServes version b then
        raise 134 (256 + outlet)
          (vehicleKeys (version == 13 && !bit suites 1) outlet (updSes outlet (fun e => { e with tls := true, tlsVer := version, waitTimer := b.sys.mtime }) b))
      else
        let b1 := if ok && tlsAccepts (b.proto outlet) version suites then tlsMisuse version b else b
        handshakeFail outlet 3 (raise 134 outlet (updOl outlet (fun o => { o with fault := setBit o.fault 5 }) b1))
    else b) s

/-- A decoded message counted, and the sequence timer restarted (R321). -/
def v2gSeen (n : Nat) (s : Block) : Block :=
  updSes n (fun e => { e with msgs := (e.msgs + 1) % 65536, waitTimer := s.sys.mtime, pending := false, judged := false })
    { s with out.exiMsg := (s.out.exiMsg + 1) % 65536 }

/-- A session that a Larkspur reset leaves without its connection: basic PWM where PROTO bit 3 and FALLBACK are set (`EV138`
cause 3), else it stops with reason 6 (Table 10-12). -/
def connLost (n : Nat) (s : Block) : Block :=
  if !s.isDc n && bit (s.proto n) 3 && s.fallbackOn n then replan (fallBack n 3 s) else stopSession n 6 s

/-- The first request after a Larkspur reset can no longer be answered in time (R323). DEDUCED: a DC charge loop within the 0.25 s
at which the vehicle times out, any other request within the 1.5 s of Table 10-11. -/
def reqLate (n : Nat) (loop : Bool) (s : Block) : Bool :=
  let e := s.ses n
  e.judged && e.pending && s.sys.mtime > e.reqAt + (if loop && s.isDc n then 250 else 1500)

/-- A message of the vehicle. While Bylith is down it waits, and the vehicle's network repeats it after the resume; the first
one after a Larkspur reset decides whether the session continues (R323). -/
def v2gArrive (n : Nat) (loop : Bool) (serve : Block → Block) (s : Block) : Block :=
  let e := s.ses n
  if onChip n s then (if reqLate n loop s then connLost n s else serve s)
  else if bylithDown s && matched n s && !e.tunnel && !e.pending then
    updSes n (fun e => { e with pending := true, reqAt := s.sys.mtime }) s
  else s

/-- A DC or ISO 15118-20 charge loop request. -/
def isLoop : V2gMsg → Bool
  | .chargeLoop .. => true
  | _ => false

/-- The protocol chosen: bit 0 DIN SPEC 70121, 1 ISO 15118-2, 2 ISO 15118-20; PREF 0 takes the newest (R314). -/
def chooseProto (allowed pref : Nat) : Option Nat :=
  let l := [0, 1, 2].filter fun k => bit allowed k
  if pref == 0 then l.getLast? else l.head?

/-- The protocols, as bits of PROTO [2:0], that Table 10-10 permits under a TLS version: DIN SPEC 70121 never uses TLS, ISO
15118-2 uses TLS 1.2 and has to where TLSREQ is 1, ISO 15118-20 always uses TLS 1.3. -/
def tlsProtos (ver : Nat) (req : Bool) : Nat :=
  if ver == 13 then 4 else if ver == 12 then 2 else if req then 1 else 3

/-- `SUPPORTED_APP_PROTOCOL_REQ` (R314): `offers` has the bits of PROTO [2:0]. -/
def execSupportedAppProtocolReq (outlet offers : Nat) (s : State) : Out :=
  act (fun b =>
    if outletOk outlet then v2gArrive outlet false (fun b =>
      let b1 := v2gSeen outlet b
      let can := Nat.land (b.proto outlet % 8) (tlsProtos (b.ses outlet).tlsVer (bit (b.o8 outlet 9) 2))
      match chooseProto (Nat.land (offers % 8) can) (b.o8 outlet 7) with
      | some k =>
        sayTo outlet ansOk (raise 133 ((k + 2) * 256 + outlet) (updSes outlet (fun e => { e with proto := k + 2 }) b1))
      | none => handshakeFail outlet 2 (sayFailed outlet ansNoNegotiation b1)) b
    else b) s

/-! ### Vehicle requests (Table 10-8) -/

/-- A request of the protocol in use (Table 10-8). -/
def msgSupported (proto : Nat) (dc : Bool) : V2gMsg → Bool
  | .sessionSetup _ | .serviceDiscovery | .powerDeliveryStop => true
  | .serviceDetail => proto ≥ 3
  | .paymentSelection _ => proto ≤ 3
  | .paymentDetails => proto == 3
  | .authorizationSetup => proto == 4
  | .authorization c _ _ => !c || proto ≥ 3
  | .serviceSelection _ => proto == 4
  | .chargeParams .. => true
  | .scheduleExchange _ => proto == 4
  | .preCharge _ => dc
  | .chargeLoop .. => dc || proto == 4
  | .chargingStatus => !dc && proto == 3
  | .meteringReceipt => proto == 3
  | .weldingDetection => dc
  | .unsupported | .undecodable => false

/-- A failed request: the standard's FAILED response and the session stops with reason 1 (R315, R318). -/
def v2gReject (n code : Nat) (s : Block) : Block := stopSession n 1 (sayFailed n code s)

/-- An undecodable message, or one of more than 8,192 bytes (R318). -/
def exiFail (n : Nat) (s : Block) : Block :=
  v2gReject n ansFailed (updOl n (fun o => { o with fault := setBit o.fault 4, errCause := 4 })
    { s with out.exiErr := satInc 65535 s.out.exiErr })

/-- The EVSE ID of outlet n: its entry of section 0x0007, or "ZZ00000" where that is empty (R295). -/
def evseIdOf (n : Nat) (s : Block) : List Byte :=
  let e := (bytesAt (s.secBody 0x0007) (40 * (n - 1)) 40).takeWhile (· != 0)
  if e.isEmpty then [0x5A, 0x5A, 0x30, 0x30, 0x30, 0x30, 0x30] else e

/-- SessionSetup (R307): within PAUSEWIN it resumes the paused session it names. -/
def v2gSetup (n sid : Nat) (s : Block) : Block :=
  let e := s.ses n
  let s1 := sayWith n ansOk { VAns.none with evseId := evseIdOf n s } (updSlac n (fun c => { c with setup := false }) s)
  if e.st == .paused && sid == e.sesid && s.sys.mtime ≤ e.stAt + s.cfg16 0x0006 2 * 1000 then
    refreshLimits n (replan (updSes n (fun e => { e with st := .authorised, stAt := s.sys.mtime }) s1))
  else s1

/-- A contract under ISO 15118-2 without TLS (Table 10-10). -/
def contractBare (n : Nat) (s : Block) : Bool := (s.ses n).proto == 3 && !(s.ses n).tls

/-- Authorization (R305): Ongoing while the session is OPEN; a vehicle certificate that verifies authorises where AUTH
permits it, with the SUBJECT of R421; under ISO 15118-2 contract identification needs TLS (Table 10-10). -/
def v2gAuthorization (n : Nat) (contract : Bool) (emaid : List Byte) (verifies : Bool) (s : Block) : Block :=
  if (s.ses n).st == .open then
    if contract then
      if verifies && bit (s.o8 n 8) 2 && !contractBare n s then sayTo n ansOk (authorise n 3 0 (sha256 (2 :: emaid)) s)
      else sayFailed n ansFailed (authRefused n s)
    else sayTo n ansOngoing s
  else sayTo n ansOk s

/-- The energy service of a number is offered (Table 10-9). -/
def serviceOffered (n svc : Nat) (s : Block) : Bool :=
  let bidir := s.o8 n 1 == 1
  match svc with
  | 1 => !s.isDc n
  | 2 => s.isDc n
  | 3 => !s.isDc n && bidir
  | 4 => s.isDc n && bidir
  | _ => false

/-- The services that ServiceDiscoveryRes names (R316); AC_BPT and DC_BPT belong to ISO 15118-20. -/
def servicesOffered (n : Nat) (s : Block) : List Nat :=
  [1, 2, 3, 4].filter fun k => serviceOffered n k s && (k ≤ 2 || (s.ses n).proto == 4)

/-- The meter reading sent in messages: A_IMP of MPn in Wh; DIN SPEC 70121 has none. -/
def meterWh (n : Nat) (s : Block) : Option Nat :=
  if (s.ses n).proto ≥ 3 then some ((accVis n s).getD 0 0 / 1000) else none

/-- SETPT as power in W (R317): SETPT × UNOM × wired phase count. -/
def setptW (n : Nat) (s : Block) : Int :=
  Int.tdiv ((s.ao n).setpt * Int.ofNat (s.unom n * phaseCount (s.phases n))) 10

/-- What a charge loop or ChargingStatus answer carries (R317): the EVSE maximum current on DC and under ISO 15118-2, under ISO
15118-20 AC the target active power in Dynamic mode, else a renegotiation where PMax has changed. -/
def loopAns (n : Nat) (s : Block) : VAns :=
  let e := s.ses n
  let a := { VAns.none with meter := meterWh n s }
  if s.isDc n || e.proto == 3 then { a with imax := some (s.ao n).setpt }
  else if e.dynamic then { a with power := some (setptW n s) }
  else { a with reneg := e.schedP != some (setptW n s) }

/-- ScheduleExchange (R317): in Scheduled mode with PMax of the schedule. -/
def v2gSchedule (n : Nat) (dynamic : Bool) (s : Block) : Block :=
  let p := if s.isDc n || dynamic then none else some (setptW n s)
  refreshLimits n (sayWith n ansOk { VAns.none with power := p } (updSes n (fun e => { e with dynamic, schedP := p }) s))

/-- The charge loop's report (R317, Table 10-17): IEVSE is the present current sent. -/
def v2gLoop (n soc tsoc tfull upres utgt : Nat) (itgt : Int) (imax idis : Nat) (s : Block) : Block :=
  let s1 := if s.isDc n && (s.ses n).itgt != itgt then replan s else s
  refreshLimits n (sayWith n ansOk (loopAns n s) (updSes n (fun e => { e with
    soc, tsoc, tfull, upres, utgt, itgt, itgtSet := true, evImax := imax, evIdis := idis, limSet := true
    ievse := Int.ofNat (dA (irmsMax n s)) }) s1))

/-- What a supported request does. -/
def v2gServe (n : Nat) (m : V2gMsg) (s : Block) : Block :=
  match m with
  | .sessionSetup sid => v2gSetup n sid s
  | .serviceDiscovery => sayWith n ansOk { VAns.none with services := servicesOffered n s } s
  | .serviceDetail | .authorizationSetup => sayTo n ansOk s
  | .paymentSelection c => if c && contractBare n s then sayFailed n ansFailed s else sayTo n ansOk s
  | .paymentDetails => if contractBare n s then sayFailed n ansFailed s else sayTo n ansOk s
  | .authorization c emaid ok => v2gAuthorization n c emaid ok s
  | .serviceSelection svc =>
    if serviceOffered n svc s then sayTo n ansOk (updSes n (fun e => { e with service := svc }) s)
    else sayFailed n ansFailed s
  | .chargeParams imax umax idis pdis dynamic depart eamount =>
    refreshLimits n (sayTo n ansOk (updSes n (fun e => { e with
      evImax := imax, evUmax := if s.isDc n then umax else 0, evIdis := idis, evPdis := pdis, limSet := true, dynamic, depart
      eamount, service := if e.service == 0 then (if s.isDc n then 2 else 1) else e.service }) s))
  | .scheduleExchange dynamic => v2gSchedule n dynamic s
  | .preCharge utgt =>
    sayTo n (if (s.ao n).preOk then ansOk else ansOngoing) (updSes n (fun e => { e with utgt }) s)
  | .chargeLoop soc tsoc tfull upres utgt itgt imax idis => v2gLoop n soc tsoc tfull upres utgt itgt imax idis s
  | .chargingStatus => sayWith n ansOk (loopAns n s) s
  | .meteringReceipt | .weldingDetection => sayTo n ansOk s
  | .powerDeliveryStop => sayTo n ansOk (replan (updAo n (fun a => { a with delivering := false }) s))
  | .unsupported | .undecodable => s

/-- `V2G_REQUEST` (R315, R318): a message of a session handled on the module. -/
def execV2gRequest (outlet bytes : Nat) (m : V2gMsg) (s : State) : Out :=
  act (fun b =>
    if outletOk outlet then v2gArrive outlet (isLoop m) (fun b =>
      let e := b.ses outlet
      if bytes > 8192 || m == .undecodable then exiFail outlet b
      else if e.proto < 2 || !msgSupported e.proto (b.isDc outlet) m then
        v2gReject outlet ansSequenceError (v2gSeen outlet b)
      else v2gServe outlet m (v2gSeen outlet b)) b
    else b) s

/-! ### DC start (11 R352, Table 11-7) -/

/-- A node of the outlet has been lost (R361): its DC starts fail at step 2. -/
def nodesPresent (n : Nat) (s : Block) : Bool :=
  (List.range (s.nmod n)).all fun i => (nodeRec (s.linkOf n) (s.nodeOf n + i) s).present

/-- Step 2 entered: the modules of the outlet are enabled for the step (R359). -/
def dcStep2 (n : Nat) (s : Block) : Block :=
  if nodesPresent n s then
    sendSetpoints n 1 1000 5 (updAo n (fun a => { a with dcStep := 2, dcAt := s.sys.mtime, enable := true }) s)
  else dcFail n 2 0 0 s

/-- Step 1 of a DC start: a cabinet in FAULT fails it; an ON cabinet takes 0; OFF goes to PRECHARGE (Table 11-8). -/
def dcStart (n : Nat) (cmd : Option CmdRef) (s : Block) : Block :=
  let s1 := updAo n (fun a => { a with
    dcStep := 1, dcFail := false, dcAt := s.sys.mtime, dcCmd := cmd, weldOk := false, preOk := false }) s
  match s.alc.cabinet with
  | .fault => dcFail n 1 0 0 s1
  | .on => dcStep2 n s1
  | .precharge => s1
  | .off => setCabinet .precharge (energise 14 s1)

/-- `CABLE_CHECK_REQ` (R352): the first of a DC session that is authorised starts the DC start sequence. -/
def execCableCheckReq (outlet : Nat) (s : State) : Out :=
  act (fun b =>
    let e := b.ses outlet
    if outletOk outlet && b.isDc outlet && e.proto ≥ 2 && (e.st == .authorised || e.st == .active) then v2gArrive outlet false (fun b =>
      let b1 := v2gSeen outlet b
      let a := b.ao outlet
      if a.dcStep == 0 && !a.preOk then
        dcStart outlet none (sayTo outlet ansOngoing (updRc outlet (fun r => { r with
          uchk := if e.evUmax == 0 then b.o16 outlet 10 else min (b.o16 outlet 10) e.evUmax }) b1))
      else sayTo outlet (if a.dcStep ≥ 5 then ansOk else ansOngoing) b1) b
    else b) s

/-- `POWER_DELIVERY_REQ` (Table 11-7 step 6): current control from the next plan with PMF rows. -/
def execPowerDeliveryReq (outlet : Nat) (s : State) : Out :=
  act (fun b =>
    if outletOk outlet && (b.ses outlet).proto ≥ 2 then v2gArrive outlet false (fun b =>
      let b1 := v2gSeen outlet b
      let a := b.ao outlet
      if !b.isDc outlet then sayTo outlet ansOk (replan b1)
      else if a.dcStep == 5 && a.preOk then
        sayTo outlet ansOk (replan (updAo outlet (fun a => { a with dcStep := 6, delivering := true }) b1))
      else sayFailed outlet ansFailed b1) b
    else b) s

/-! ### Session end by the vehicle, certificates, sequence timeout -/

/-- `SESSION_STOP_REQ` (Table 10-6): Pause of an ACTIVE ISO 15118 session pauses it; otherwise it ends with reason 1. -/
def execSessionStopReq (outlet : Nat) (pause : Bool) (s : State) : Out :=
  act (fun b =>
    let e := b.ses outlet
    if outletOk outlet && e.proto ≥ 2 then v2gArrive outlet false (fun b =>
      let b1 := sayTo outlet ansOk (v2gSeen outlet b)
      if pause && e.proto ≥ 3 && e.st == .active then
        refreshLimits outlet (replan (openDriver outlet (dcAbort outlet
          (updSes outlet (fun e => { e with st := .paused, stAt := b.sys.mtime }) b1))))
      else stopSession outlet 1 b1) b
    else b) s

/-- `CERT_INSTALL_REQ` (R320): forwarded to the host with `EV141`; the request's body waits in the outlet's receive
buffer. While the host is silent the module answers at once. -/
def execCertInstallReq (outlet : Nat) (update : Bool) (body : List Byte) (s : State) : Out :=
  act (fun b =>
    let e := b.ses outlet
    if !outletOk outlet then b
    else if e.proto == 3 || (e.proto == 4 && !update) then v2gArrive outlet false (fun b =>
      let b1 := v2gSeen outlet b
      if b.mbx.silent.isSome then sayFailed outlet ansNoCertificate (raise 141 (b2n update * 256 + outlet) b1)
      else raise 141 (b2n update * 256 + outlet) (updOl outlet (fun o => { o with
        certAt := some b.sys.mtime, certUpd := update, lastAns := ansOngoing, ans := VAns.none
        tunRx := o.tunRx ++ body.take (16384 - o.tunRx.length) }) b1)) b
    else v2gArrive outlet false (fun b => v2gReject outlet ansSequenceError (v2gSeen outlet b)) b) s

/-! ### Tunnelling (R325, R326) -/

/-- `TUNNEL_RX` (R325): bytes enter the 16 KiB receive buffer as far as they fit, where the TCP window closes; `EV139`
when it becomes non-empty and a read has emptied it. The vehicle's segment acknowledges the bytes sent to it; a session
that now waits for a silent host stops (Table 1-7). -/
def execTunnelRx (outlet : Nat) (data : List Byte) (closed : Bool) (s : State) : Out :=
  act (fun b =>
    let o := b.ol outlet
    if outletOk outlet && linked outlet b && (b.ses outlet).tunnel then
      let rx := o.tunRx ++ data.take (16384 - o.tunRx.length)
      let due := o.tunArmed && o.tunRx.isEmpty && !rx.isEmpty
      let b1 := updSes outlet (fun e => { e with waitTimer := b.sys.mtime }) (updOl outlet (fun o => { o with
        tunRx := rx, tunTx := [], tunOpen := !closed, tunClosed := closed, tunArmed := o.tunArmed && !due
        slac := { o.slac with setup := false } }) b)
      let b2 := if due then raise 139 outlet b1 else b1
      if bit b.split 1 && bit b.mbx.fallback 1 then stopSession outlet 3 b2 else b2
    else b) s

/-! ### Registers of an outlet (Tables 10-16, 10-17) -/

def regCp (n : Nat) (s : Block) : Word :=
  let o := s.ol n
  reg [fld 31 28 o.cp, fld 27 26 o.gen, fld 25 25 (b2n o.diode), fld 24 24 (b2n (o.cp == 3)), fld 9 0 o.duty]

def regCplvl (n : Nat) (s : Block) : Word :=
  reg [fld 31 16 (tc 16 (s.ol n).high), fld 15 0 (tc 16 (s.ol n).low)]

/-- Word `i` of outlet n's instance, at offset 4i. -/
def outWord (n i : Nat) (s : Block) : Word :=
  let o := s.ol n
  let e := o.ses
  match i with
  | 0 => reg [fld 31 30 (s.o8 n 0), fld 29 29 (s.o8 n 1), fld 28 27 (s.o8 n 3), fld 26 24 (s.phases n),
              fld 23 16 (s.proto n), fld 15 8 (s.o8 n 8), fld 7 0 (s.o8 n 9)]
  | 1 => reg [fld 31 28 e.st.code, fld 27 24 e.proto, fld 23 20 e.auth, fld 19 16 e.service, fld 15 8 e.reason,
              fld 3 3 (b2n e.tunnel), fld 2 2 (b2n e.tls), fld 1 1 (b2n e.fallback),
              fld 0 0 (b2n ((s.ovr n).causes != 0))]
  | 2 => regCp n s
  | 3 => regCplvl n s
  | 4 => reg [fld 31 16 (ratingOf n s), fld 15 0 o.res]
  | 5 => reg [fld 31 16 o.limImp, fld 15 0 o.limExp]
  | 6 => reg [fld 31 16 e.evImax, fld 15 0 e.evUmax]
  | 7 => w32 e.sesid
  | 8 => reg [fld 31 24 e.soc, fld 23 16 e.tsoc, fld 15 0 e.tfull]
  | 9 => reg [fld 31 16 e.upres, fld 15 0 e.utgt]
  | 10 => reg [fld 31 16 (tc 16 e.itgt), fld 15 0 (tc 16 e.ievse)]
  | 11 => reg [fld 31 24 o.slac.att, fld 23 16 o.slac.sounds, fld 7 0 o.slac.result]
  | 12 => w32 (o.slac.mac % 4294967296)
  | 13 => reg [fld 15 0 (o.slac.mac / 4294967296)]
  | 14 => if e.sesid == 0 then 0 else w32 (s.sys.mtime - e.stAt)
  | 15 => reg [fld 31 16 o.errResp, fld 15 8 o.errCause]
  | 16 => w32 o.fault
  | 17 => w32 o.cntS
  | 18 => w32 o.cntE
  | 19 => w32 e.depart
  | 20 => w32 e.eamount
  | 21 => w32 o.trim
  | 22 => w32 e.msgs
  | _ => reg [fld 31 31 (b2n o.tunOpen), fld 30 16 o.tunRx.length, fld 14 0 (16384 - o.tunTx.length)]

/-! ### Commands (Table 10-14) -/

def mServed : List Mode := mRun ++ [.safestop]
def mOutlets : List Mode := [.service, .degraded]
def mOutService : List Mode := [.standby, .service, .degraded, .maintain]

/-- The outlet a payload names in its first byte, as a lock number and as an outlet. -/
def lockOf (p : List Byte) (_s : Block) : List Nat := if outletOk (u8At p 0) then [u8At p 0] else []

def badUnless (c : Bool) : Option Nat := if c then none else some stBadParam

def specOutletStatus : CmdSpec where
  op := 0x0600
  role := .general
  modes := mServed
  len := lenIs 4
  body := fun _ p s =>
    let n := u8At p 0
    if outletOk n then ok (wordBytes ((List.range 24).map fun i => outWord n i s)) s else refuse stBadParam s

/-- `CMD_OUTLET_STATUS`. -/
def execCmdOutletStatus (h : Req) (p : List Byte) (s : State) : Out := act (runCmd specOutletStatus h p) s

/-- A session is in progress: the out waits for its Ingot (Table 3-6). -/
def inProgress (n : Nat) (s : Block) : Bool :=
  match (s.ses n).st with
  | .idle | .parked => false
  | _ => true

/-- `CMD_OUTLET_SERVICE_SET` out of an IN_SERVICE outlet (Table 3-6). -/
def serviceOut (r : CmdRef) (n : Nat) (s : Block) : CmdRes :=
  if inProgress n s then
    .accepted (stopSession n 9 (updOl n (fun o => { o with outReq := some r, outDue := true }) s))
  else ok [] (svcGo n 2 s)

def specOutletServiceSet : CmdSpec where
  op := 0x0601
  role := .general
  modes := mOutService
  len := lenIs 4
  pre := fun _ p s =>
    let n := u8At p 0
    badUnless (outletOk n && ((u8At p 1 == 1 && s.svcOf n == 1) ||
      (u8At p 1 == 2 && s.svcOf n == 2 && !faultLatched n s)))
  lock := lockOf
  body := fun r p s => if u8At p 1 == 1 then serviceOut r (u8At p 0) s else ok [] (svcGo (u8At p 0) 1 s)

def specOutletAuthorise : CmdSpec where
  op := 0x0602
  role := .general
  modes := mOutlets
  len := lenIs 44
  pre := fun _ p s =>
    let n := u8At p 0
    let st := (s.ses n).st
    badUnless (outletOk n && (u8At p 1 == 1 || u8At p 1 == 2) && 0 ≤ i64At p 4 && i64At p 4 ≤ 1099511627776 &&
      bit (s.o8 n 8) 3 && (st == .open || st == .parked) && !(st == .parked && u8At p 1 == 1 && !offered n s))
  lock := lockOf
  body := fun _ p s =>
    let n := u8At p 0
    let s1 := if u8At p 1 == 1 then authoriseAny n 4 (i64At p 4) (bytesAt p 12 32) s else authRefused n s
    ok (p32 (s1.ses n).sesid) s1

def specOutletStop : CmdSpec where
  op := 0x0603
  role := .general
  modes := mWork
  len := lenIs 4
  pre := fun _ p s => badUnless (outletOk (u8At p 0) && inProgress (u8At p 0) s)
  lock := lockOf
  body := fun r p s =>
    let n := u8At p 0
    .accepted (stopSession n 3 (updSes n (fun e => { e with stopCmds := e.stopCmds ++ [r] }) s))

/-- `CMD_OUTLET_STOP` (R307): the final response follows once the session's Ingot is sealed. -/
def execCmdOutletStop (h : Req) (p : List Byte) (s : State) : Out := act (runCmd specOutletStop h p) s

def specOutletTunSend : CmdSpec where
  op := 0x0604
  role := .general
  modes := mOutlets
  len := fun p => p.length ≥ 4 && p.length == 4 + u16At p 2
  pre := fun _ p s =>
    badUnless (outletOk (u8At p 0) && u16At p 2 ≤ 4076 && bit s.split 1 && (s.ol (u8At p 0)).tunOpen)
  lock := lockOf
  body := fun _ p s =>
    let n := u8At p 0
    let o := s.ol n
    if o.tunTx.length + u16At p 2 > 16384 then refuse stBusy s
    else ok [] (updOl n (fun o => { o with tunTx := o.tunTx ++ p.drop 4, tunOpen := !bit (u8At p 1) 0 }) s)

/-- `CMD_OUTLET_TUN_SEND` (R325). -/
def execCmdOutletTunSend (h : Req) (p : List Byte) (s : State) : Out := act (runCmd specOutletTunSend h p) s

def specOutletTunRead : CmdSpec where
  op := 0x0605
  role := .general
  modes := mOutlets
  len := lenIs 4
  pre := fun _ p _ => badUnless (outletOk (u8At p 0) && 1 ≤ u16At p 2 && u16At p 2 ≤ 4072)
  lock := lockOf
  body := fun _ p s =>
    let n := u8At p 0
    let o := s.ol n
    let d := o.tunRx.take (u16At p 2)
    let rest := o.tunRx.drop (u16At p 2)
    ok (p16 d.length ++ p8 (b2n o.tunClosed) ++ zeros 5 ++ d)
      (updOl n (fun o => { o with tunRx := rest, tunArmed := o.tunArmed || rest.isEmpty }) s)

/-- `CMD_OUTLET_TUN_READ` (R325). -/
def execCmdOutletTunRead (h : Req) (p : List Byte) (s : State) : Out := act (runCmd specOutletTunRead h p) s

/-- Vehicle-side voltage of outlet n in V: the highest phase Urms of MPn. -/
def vehicleVolt (n : Nat) (s : Block) : Nat := ((tget s.nrg.pq n).ph.foldl (fun m q => max m q.urms) 0) / 1000000

/-- STEP 3, the welding check: passed with CDn accepted open and its vehicle side below 60 V. -/
def weldStep (n : Nat) (s : Block) : CmdRes :=
  let v := vehicleVolt n s
  ok (stepResult ((s.drv n).fb || v ≥ 60) v 0) s

def specOutletHlcStep : CmdSpec where
  op := 0x0606
  role := .general
  modes := mOutlets
  len := lenIs 8
  pre := fun _ p s =>
    let n := u8At p 0
    let st := (s.ses n).st
    badUnless (outletOk n && 1 ≤ u8At p 1 && u8At p 1 ≤ 3 && s.isDc n && bit s.split 1 &&
      (st == .authorised || st == .active) && (u8At p 1 != 2 || (s.ao n).dcStep == 5))
  lock := lockOf
  body := fun r p s =>
    let n := u8At p 0
    let a := s.ao n
    if a.dcCmd.isSome then refuse stBusy s
    else if u8At p 1 == 1 then
      if a.dcStep != 0 then refuse stBusy s
      else .accepted (dcStart n (some r) (updRc n (fun c => { c with uchk := min (u16At p 2) (s.o16 n 10) }) s))
    else if u8At p 1 == 2 then
      .accepted (updSes n (fun e => { e with utgt := u16At p 2 * 10 })
        (updAo n (fun a => { a with dcCmd := some r, preOk := false, dcAt := s.sys.mtime }) s))
    else weldStep n s

/-- `CMD_OUTLET_HLC_STEP` (R326). -/
def execCmdOutletHlcStep (h : Req) (p : List Byte) (s : State) : Out := act (runCmd specOutletHlcStep h p) s

def specOutletLimitsSet : CmdSpec where
  op := 0x0607
  role := .general
  modes := mOutlets
  len := lenIs 8
  pre := fun _ p s =>
    let n := u8At p 0
    badUnless (outletOk n && bit s.split 1 && (u16At p 4 == 0 || s.o8 n 1 == 1))
  lock := lockOf
  body := fun _ p s =>
    let n := u8At p 0
    ok [] (refreshLimits n (updSes n (fun e => { e with
      evImax := u16At p 2, evIdis := u16At p 4, evUmax := u16At p 6, limSet := true }) s))

/-- `CMD_OUTLET_LIMITS_SET` (R325). -/
def execCmdOutletLimitsSet (h : Req) (p : List Byte) (s : State) : Out := act (runCmd specOutletLimitsSet h p) s

def specOutletCertResp : CmdSpec where
  op := 0x0608
  role := .general
  modes := mOutlets
  len := fun p => 5 ≤ p.length && p.length ≤ 4080
  pre := fun _ p s => badUnless (outletOk (u8At p 0) && (s.ol (u8At p 0)).certAt.isSome)
  lock := lockOf
  body := fun _ p s => ok [] (sayWith (u8At p 0) ansCertBody { VAns.none with body := p.drop 4 } (updOl (u8At p 0) (fun o => { o with certAt := none }) s))

/-- `CMD_OUTLET_CERT_RESP` (R320). -/
def execCmdOutletCertResp (h : Req) (p : List Byte) (s : State) : Out := act (runCmd specOutletCertResp h p) s

/-- A channel is in use (07 R191, Table 7-2). -/
def chInUse (p c : Nat) (s : Block) : Bool :=
  let inn := bits (u8At (s.ptConf p) 2) 7 6 != 0
  let x := u8At (s.ptConf p) 3 != 0
  match s.ptType p with
  | 1 => c ≤ 2 || (c == 3 && inn) || (4 ≤ c && c ≤ 6) || (c == 7 && x)
  | 2 => c == 0 || (c == 3 && inn) || c == 4 || (c == 7 && x)
  | 3 => c == 4 || c == 7
  | _ => false

/-- The self-tests that end a bypass (Table 3-6, 07 R216): the RCSn link; every in-use analogue channel of MPn has passed a
reference check; no in-use channel is faulted, so that a bitstream channel has shown neither STUCK nor DENSITY for a second.
DESIGN CHOICE: since the command completes at IMM, the reference checks are those since the bypass began. -/
def bypassTests (n : Nat) (s : Block) : Bool :=
  !(s.rc n).linkFault && (List.range 8).all fun c =>
    let x := tget (tget s.asy.points n).chans c
    !chInUse n c s || (!x.faulted && (4 ≤ c || x.refPass))

def specOutletBypass : CmdSpec where
  op := 0x0680
  role := .general
  modes := mOutService
  len := lenIs 4
  pre := fun _ p s =>
    let n := u8At p 0
    badUnless (outletOk n && ((u8At p 1 == 1 && s.svcOf n == 2 && driverOpen n s && (s.ol n).bypCmd.isNone) ||
      (u8At p 1 == 2 && s.svcOf n == 3 && bypassTests n s)))
  lock := lockOf
  body := fun r p s =>
    let n := u8At p 0
    if u8At p 1 == 1 then .accepted (updOl n (fun o => { o with bypCmd := some r }) s) else ok [] (svcGo n 2 s)

/-- The generator code of a test LEVEL (Table 10-14). -/
def testGen (level : Nat) : Nat := if level == 1 then 0 else if level == 2 then 1 else if level == 3 then 2 else 3

def specOutletPilotTest : CmdSpec where
  op := 0x0681
  role := .general
  modes := mCommission
  len := lenIs 4
  pre := fun _ p s =>
    badUnless (outletOk (u8At p 0) && u8At p 1 ≤ 4 && 50 ≤ u16At p 2 && u16At p 2 ≤ 1000 && s.svcOf (u8At p 0) != 1)
  lock := lockOf
  body := fun _ p s =>
    let n := u8At p 0
    let s1 := if u8At p 1 == 0 then idlePilot n (updOl n (fun o => { o with pilotTest := false }) s)
              else setPilot n (testGen (u8At p 1)) (if u8At p 1 == 2 then u16At p 2 else 1000)
                (updOl n (fun o => { o with pilotTest := true }) s)
    ok (wordBytes [regCp n s1, regCplvl n s1]) s1

/-- `CMD_OUTLET_PILOT_TEST`. -/
def execCmdOutletPilotTest (h : Req) (p : List Byte) (s : State) : Out := act (runCmd specOutletPilotTest h p) s

def specsOutlet : List CmdSpec :=
  [specOutletStatus, specOutletServiceSet, specOutletAuthorise, specOutletStop, specOutletTunSend, specOutletTunRead,
   specOutletHlcStep, specOutletLimitsSet, specOutletCertResp, specOutletBypass, specOutletPilotTest]

end Sys2Proof.Machine
end

