-- ==== Sys2Proof/Machine/Alloc.lean ====
section
/-!
DEFINITION. Allocation and switching (11): feedback and contactor sequences, DC steps, cabinet, power-module links,
overdraw, contactor tests, and the commands of Table 11-15. The on-chip planner stands in Planner.lean.
-/

namespace Sys2Proof.Machine

/-! ### Caps (R330–R332) -/

/-- The least of a configured cap and the limits in force; 0xFFFF is no limit. -/
def capOf (conf host util : Nat) : Nat := min conf (min host util)

/-- The caps that configuration and limits give now: site import, site export, phase imports, phase exports. -/
def capsNow (s : Block) : Nat × Nat × List Nat × List Nat :=
  let a := s.alc
  (capOf (s.cfg16 0x0008 0) a.host.si a.util.si, capOf (s.cfg16 0x0008 2) a.host.se a.util.se,
   [0, 1, 2].map fun k => capOf (s.cfg16 0x0008 (4 + 2 * k)) a.host.pi a.util.pi,
   [0, 1, 2].map fun k => capOf (s.cfg16 0x0008 (10 + 2 * k)) a.host.pe a.util.pe)

/-- The caps of the configuration in force from the start on: no change, so no `EV148` (`ALC_ENV_SITE`, Reset "cfg"). -/
def capsAtStart (s : Block) : Block :=
  let (si, se, pi, pe) := capsNow s
  { s with alc := { s.alc with capSI := si, capSE := se, capPI := pi, capPE := pe } }

/-- The caps taken over at a B-TICK; a change raises `EV148` and is a trigger of R338 (R332). -/
def capsAtTick (s : Block) : Block :=
  let (si, se, pi, pe) := capsNow s
  let a := s.alc
  if a.capSI == si && a.capSE == se && a.capPI == pi && a.capPE == pe then s
  else replan (raise 148 (si * 65536 + a.capWhy)
    { s with alc := { a with capSI := si, capSE := se, capPI := pi, capPE := pe } })

/-! ### Overdraw (R342) -/

/-- A current in 0.1 A exceeds the signalled one by more than the greater of 10 % and 2.0 A. -/
def overdrawn (n irmsDA : Nat) (s : Block) : Bool :=
  let g := (s.ao n).sig
  irmsDA * 10 > g * 11 && irmsDA > g + 20

/-- An overdraw can be recorded on outlet n. -/
def supervised (n irmsDA : Nat) (s : Block) : Bool :=
  s.pwr.heldBy == .no && outletOk n && !s.isDc n && (s.drv n).fb && (s.ses n).st.stoppable && overdrawn n irmsDA s

/-- An overdraw: `EV153`, and the session stops with reason 6; the outlet stays IN_SERVICE. -/
def overdraw (n irmsDA : Nat) (s : Block) : Block :=
  stopSession n 6 (raise 153 (min irmsDA 65535 * 65536 + n) { s with alc.cntOverdraw := inc32 s.alc.cntOverdraw })

/-! ### Grants (R347, Table 11-3) -/

/-- A safety function assigned to the outlet demands a stop, its mask aside (13 R399). -/
def fnDemands (f : SafFn) : Bool := (f.st == .demand || f.st == .waitReset || f.st == .fault) && !f.masked
def underDemand (n : Nat) (s : Block) : Bool :=
  (List.range 16).any fun f => fnDemands (tget s.saf.fns f) && bit (u16At s.saf.pset (160 + 16 * f + 4)) (n - 1)

/-- The vehicle-side voltage is below 10 % of UNOM (AC) or below 60 V (DC). -/
def sideDead (n : Nat) (s : Block) : Bool :=
  if s.isDc n then vehicleVolt n s < 60
  else ((tget s.nrg.pq n).ph.foldl (fun m q => max m q.urms) 0) < s.unom n * 10000

/-- Modes in which Table 3-1 gives CD13 by prepayment state; in ACTIVATE it stays as held. -/
def mPrepay : List Mode := [.standby, .service, .degraded, .maintain, .commission]

/-- A contactor test runs on the driver (R363). -/
def inTest (k : Nat) (s : Block) : Bool := (s.alc.test.map fun t => t.driver == k).getD false

/-- Conditions of Table 11-3 for an outlet contactor, in table order: the first that fails gives its code. -/
def refuseOutlet (n : Nat) (s : Block) : Option Nat :=
  let o := s.ol n
  let e := s.ses n
  let d := s.drv n
  if !(s.inMode [.service, .degraded]) then some 1
  else if s.svcOf n != 1 || !(e.st == .authorised || e.st == .active) then some 2
  else if !s.isDc n && !(o.cp == 2 || (o.cp == 3 && s.vent n)) then some 3
  else if underDemand n s then some 4
  else if !e.rcmOk || (s.rc n).cause != 0 then some 5
  else if d.fb || d.fcause != 0 || d.barred then some 6
  else if !sideDead n s then some 7
  else if s.isDc n && (s.alc.cabinet != .on || !(s.ao n).weldOk) then some 10
  else none

/-- Table 11-3 for driver k. -/
def refuseClose (k : Nat) (s : Block) : Option Nat :=
  let d := s.drv k
  if k ≤ 12 then refuseOutlet k s
  else if k == 13 then
    if d.fb || d.fcause != 0 || d.barred then some 6
    else if !(s.alc.rpermit && s.inMode mPrepay) then some 8 else none
  else if k == 16 && s.cd16use then
    if !(s.inMode [.service, .degraded]) then some 1
    else if d.fb || d.fcause != 0 || d.barred then some 6 else none
  else some 9

/-- A close request (R347): granted and the coil energised, or refused with its code, `EV146` and the counter, where a DC
start at its step 3 fails. A driver already energised keeps its state; up to step 3 of a recovery no request is accepted (02 Table 2-9). -/
def closeRequest (k : Nat) (s : Block) : Block :=
  if (s.drv k).on || s.pwr.recovering then s
  else match refuseClose k s with
    | some c =>
      let s1 := raise 146 (c * 256 + k)
        (updDrv k (fun d => { d with refuse := c }) { s with alc.cntRefuse := inc32 s.alc.cntRefuse })
      if k ≤ 12 then dcFailAt k 3 s1 else s1
    | none =>
      let s1 := energise k s
      if k ≤ 12 then updAo k (fun a => { a with closedSes := true, enable := s.isDc k }) s1 else s1

/-- An open request is always granted (R347): an outlet waits for its current to fall (Table 11-5); another driver is
released. -/
def openRequest (k : Nat) (s : Block) : Block :=
  if k ≤ 12 then openDriver k s else release k false s

/-! ### Contactor tests (R363) -/

/-- A contactor test ends with the times and its result: `EV157`; a passed test permits the reset of R351. -/
def testDone (t : CdTest) (res : Nat) (s : Block) : Block :=
  let d := s.drv t.driver
  let s1 := updDrv t.driver (fun d => { d with tested := d.tested || res == 0 }) { s with alc.test := none }
  complete t.cmd stOk (p16 d.tClose ++ p16 d.tOpen ++ p8 res ++ zeros 3)
    (raise 157 (b2n (res != 0) * 256 + t.driver) s1)

/-- A feedback fault of driver k, which also ends a test on it as failed. -/
def fbFault (k cause : Nat) (s : Block) : Block :=
  let s1 := drvFault k cause s
  match s.alc.test with
  | some t => if t.driver == k then testDone t cause s1 else s1
  | none => s1

/-! ### Feedback (R345, R348–R350) -/

/-- FB accepted closed after a close command: times, count, and what waits for it; the cable check of a DC start begins
here (Table 11-7 step 4), and an AC outlet's voltages are awaited (Table 11-4 step 4). -/
def fbClosed (k : Nat) (s : Block) : Block :=
  let s1 := updDrv k (fun d => { d with
    fb := true, rawFb := true, confirmed := true, tClose := min (s.sys.mtime - d.at_) 65535, cnt := inc32 d.cnt }) s
  match s1.alc.test with
  | some t => if t.driver == k && t.phase == 0 then { s1 with alc.test := some { t with phase := 1 } } else s1
  | none =>
    if k ≤ 12 then
      let s2 := if (s.ses k).st == .authorised then
                  refreshLimits k (replan (updSes k (fun e => { e with st := .active, stAt := s.sys.mtime }) s1)) else s1
      if s.isDc k && (s.ao k).dcStep == 3 then
        insAsk 2 k none (updRc k (fun r => { r with cableOhm := none, cableAsym := false })
          (updAo k (fun a => { a with dcStep := 4, dcAt := s.sys.mtime }) s2))
      else if s.isDc k then injNext (injOf k) s2
      else updAo k (fun a => { a with vcheck := some 0 }) s2
    else if k == 14 then { s1 with alc.cabAt := s.sys.mtime }
    else if k == 15 then release 14 false s1
    else s1

/-- FB accepted open after a release: times, the driver off, a test's end, a controlled stop's progress. -/
def fbOpened (k : Nat) (s : Block) : Block :=
  let s1 := updDrv k (fun d => { d with
    coil := .off, fb := false, rawFb := false, confirmed := true, tOpen := min (s.sys.mtime - d.at_) 65535 }) s
  let s2 := match s1.alc.test with
    | some t => if t.driver == k && t.phase == 2 then testDone t 0 s1 else s1
    | none => s1
  cstopCheck s2

/-- CDk is de-energised 20 ms after its release (R16, Table 11-5 step 2); with FBk open it is confirmed open then. -/
def coilSettle (k : Nat) (s : Block) : Block :=
  let d := s.drv k
  if d.coil == .releasing && (!d.fb || k == 16 && !s.cd16use) && d.at_ + 20 ≤ s.sys.mtime then
    updDrv k (fun d => { d with coil := .off, confirmed := true }) s
  else s

/-- The drivers whose release has come to its end, seen at a B-TICK. -/
def coilsSettle (s : Block) : Block := (List.range 16).foldl (fun s i => coilSettle (i + 1) s) s

/-- A new state of FBk accepted (R345, Tables 9-9, 11-6). A closing before the opening is confirmed is left to the open
deadline. FB16 is not supervised with CD16USE 0 (R354); a closed FBn of
a BYPASSED outlet is judged by `BYPASS_FB_CLOSED`. -/
def fbChanged (k : Nat) (closed : Bool) (s : Block) : Block :=
  let d := s.drv k
  let s0 := updDrv k (fun d => { d with fb := closed, rawFb := closed }) s
  if k == 16 && !s.cd16use then s0
  else if d.fb == closed then s0
  else if d.on then
    if closed then (if d.confirmed then s0 else fbClosed k s)
    else if d.confirmed then fbFault k 3 s0 else s0
  else if !closed then (if d.coil == .releasing then fbOpened k s else cstopCheck s0)
  else if d.coil == .releasing || k ≤ 12 && s.svcOf k == 3 then s0
  else fbFault k 4 s0

/-- `FB_CHANGE`: the input FBk as accepted, its sense set by FBPOL (R345). -/
def execFbChange (driver : Nat) (active : Bool) (s : State) : Out :=
  act (fun b => if b.pwr.heldBy == .no && driverOk driver then
    fbChanged driver (active != bit (b.cfg16 0x0008 30) (driver - 1)) b else b) s

/-- Every voltage in PH is at or above 85 % of UNOM (Table 11-4 step 4). -/
def closeVolts (n : Nat) (s : Block) : Bool :=
  let u := (tget s.nrg.pq n).ph
  let ok := fun k => (tget u k).urms ≥ s.unom n * 850000
  if s.ptType n == 2 then (s.ao n).ph == 0 || ok 0 else [0, 1, 2].all fun k => !bit (s.ao n).ph k || ok k

/-- A measured cycle of MPn after FBn was accepted closed: cause 6 where the second one still lacks a voltage. -/
def voltCheck (n : Nat) (s : Block) : Block :=
  match (s.ao n).vcheck with
  | none => s
  | some k =>
    if closeVolts n s then updAo n (fun a => { a with vcheck := none }) s
    else if k == 0 then updAo n (fun a => { a with vcheck := some 1 }) s
    else fbFault n 6 s

/-- `LIVE_WHILE_OPEN` (Table 11-6): cause 7 on an open AC outlet contactor. -/
def execLiveWhileOpen (outlet : Nat) (s : State) : Out :=
  act (fun b => if b.pwr.heldBy == .no && outletOk outlet && !b.isDc outlet && (b.drv outlet).coil == .off &&
      !(b.drv outlet).fb && b.svcOf outlet != 0 && b.svcOf outlet != 3 then fbFault outlet 7 b else b) s

/-! ### Releases at low current (Table 11-5, Table 2-6) -/

/-- `CONTACTOR_RELEASE_CURRENT`: the current has fallen below 1 A, and Anvil releases CDn. -/
def execContactorReleaseCurrent (outlet : Nat) (s : State) : Out :=
  act (fun b => if outletOk outlet && (b.drv outlet).opening.isSome then release outlet false b else b) s

/-! ### DC steps (Table 11-7) -/

/-- `DC_WELD_CHECK_DONE`: step 2 passes when every node shows UOUT ≥ 90.0 V with VA below 30 V; VA at 30 V or more is
cause 8; otherwise it fails without a latch. A pass goes on to step 3. -/
def execDcWeldCheckDone (outlet vaDV : Nat) (uoutDV : List Nat) (s : State) : Out :=
  act (fun b =>
    if outletOk outlet && (b.ao outlet).dcStep == 2 then
      if vaDV ≥ 300 then dcFail outlet 2 (vaDV / 10) 0 (fbFault outlet 8 b)
      else if uoutDV.length ≥ b.nmod outlet && uoutDV.all (· ≥ 900) then
        replan (updAo outlet (fun a => { a with dcStep := 3, weldOk := true, dcAt := b.sys.mtime })
          (sendSetpoints outlet 1 0 5 b))
      else dcFail outlet 2 (vaDV / 10) 0 b
    else b) s

/-- `PRECHARGE_DONE`: step 5 passes with UOUT of every node and VA within 20 V of the target, else it fails at its max. -/
def execPrechargeDone (outlet vaDV : Nat) (uoutDV : List Nat) (timedOut : Bool) (s : State) : Out :=
  act (fun b =>
    let a := b.ao outlet
    if outletOk outlet && a.dcStep == 5 && !a.preOk then
      let far := fun v => v > (b.ses outlet).utgt + 200 || (b.ses outlet).utgt > v + 200
      if timedOut || far vaDV || uoutDV.any far || uoutDV.length < b.nmod outlet then dcFail outlet 5 (vaDV / 10) 0 b
      else completeOpt a.dcCmd stOk (stepResult false (vaDV / 10) 0)
        (sayTo outlet ansOk (updAo outlet (fun a => { a with preOk := true, dcCmd := none }) b))
    else b) s

/-! ### Cabinet (Table 11-8) -/

/-- DC outlets at step 1 of their start go on to step 2 (Table 11-7). -/
def dcCabinetOn (s : Block) : Block :=
  outlets.foldl (fun s n => if (s.ao n).dcStep == 1 then dcStep2 n s else s) s

/-- `CABINET_IDLE_OFF`: 60 s without a closed DC outlet contactor or a DC start. -/
def execCabinetIdleOff (s : State) : Out :=
  act (fun b =>
    if b.alc.cabinet == .on && outlets.all (fun n => !b.isDc n || (!(b.drv n).fb && !(b.drv n).on && (b.ao n).dcStep == 0))
    then setCabinet .off (release 15 false b) else b) s

/-! ### Power-module links (R356–R361) -/

/-- The ENABLE word of a link: bit node for each enabled node of an outlet on it (Table 11-11). -/
def enableWord (j : Nat) (s : Block) : Nat :=
  outlets.foldl (fun m n =>
    if s.linkOf n == j && (s.ao n).enable then
      (List.range (s.nmod n)).foldl (fun m i => setBit m (s.nodeOf n + i)) m else m) 0

/-- `CAN_CTRL_TIMER`: one CTRL frame on every enabled link. After a power-fail warning or
an Anvil reset none is sent (Table 11-13). -/
def execCanCtrlTimer (s : State) : Out :=
  act (fun b =>
    if b.pwr.pfw || b.pwr.heldBy != .no || b.pwr.anvilDown then b
    else (upto 1 4).foldl (fun b j =>
      if b.canOn j then
        let a := (b.link j).alive
        sendCan j 0x020 (p8 a ++ [0] ++ p16 (enableWord j b) ++ p32 (b.sys.mtime % 4294967296))
          (updLink j (fun l => { l with alive := (a + 1) % 256 }) b)
      else b) b) s

/-- Outlets whose modules include the node. -/
def outletsOfNode (j node : Nat) (s : Block) : List Nat :=
  outlets.filter fun n => s.isDc n && s.linkOf n == j && s.nodeOf n ≤ node && node < s.nodeOf n + s.nmod n

def stopNode (j node : Nat) (s : Block) : Block := stopSessions 6 (fun n => (outletsOfNode j node s).contains n) s

/-- `PM_STATUS_FRAME`: recorded with its MTIME; a lost node is back; STATE 5 stops its outlet's session. -/
def execPmStatusFrame (link node : Nat) (data : List Byte) (s : State) : Out :=
  act (fun b =>
    if canOk link && 1 ≤ node && node ≤ 15 && b.canOn link then
      let was := (nodeRec link node b)
      let b1 := updNode link node (fun m => { m with status := fixLen 16 data, statusAt := b.sys.mtime, present := true }) b
      let b2 := if was.present || was.statusAt == 0 then b1 else raise 149 (link * 16 + node) b1
      if u8At data 1 == 5 then stopNode link node (raise 150 (u16At data 10 * 65536 + link * 16 + node) b2) else b2
    else b) s

/-- `PM_IDENT_FRAME`: recorded; a `CMD_ALC_PM_READ` that waits for it completes. -/
def execPmIdentFrame (link node : Nat) (data : List Byte) (s : State) : Out :=
  act (fun b =>
    if canOk link && 1 ≤ node && node ≤ 15 && b.canOn link then
      let b1 := updNode link node (fun m => { m with ident := fixLen 16 data }) b
      match (b1.link link).identCmd with
      | some (r, k) =>
        if k == node then
          let m := nodeRec link node b1
          complete r stOk (fixLen 16 m.status ++ fixLen 16 m.ident ++ p64 m.statusAt)
            (updLink link (fun l => { l with identCmd := none }) b1)
        else b1
      | none => b1
    else b) s

/-- A node counts as lost (R361): `EV149`, the counter, and its outlet's session stops with reason 6. -/
def nodeLost (link node : Nat) (s : Block) : Block :=
  stopNode link node (raise 149 (256 + link * 16 + node)
    (updLink link (fun l => { l with lost := satInc 65535 l.lost })
      (updNode link node (fun m => { m with present := false }) s)))

/-- `CAN_BUS_OFF`: `EV151`, and every node heard on the link counts as lost. -/
def execCanBusOff (link : Nat) (s : State) : Out :=
  act (fun b =>
    if canOk link && b.canOn link && (b.link link).state != 2 then
      let b1 := raise 151 (link * 16 + 2)
        (updLink link (fun l => { l with state := 2, tec := 255, busOff := satInc 65535 l.busOff }) b)
      (upto 1 15).foldl (fun b k => if (nodeRec link k b).present then nodeLost link k b else b) b1
    else b) s

/-- `CAN_BUS_OFF_RECOVERY`: error active again with its counts at 0, as ISO 11898-1 provides. -/
def execCanBusOffRecovery (link : Nat) (s : State) : Out :=
  act (fun b =>
    if canOk link && (b.link link).state == 2 then
      raise 151 (link * 16) (updLink link (fun l => { l with state := 0, tec := 0, recv := 0 }) b)
    else b) s

/-! ### Registers (R366) -/

/-- The on-chip planner compiles plans for some scheduled domain in the present mode (R337, R28). -/
def plannerOn (s : Block) : Bool :=
  let own := !bit s.split 0 || bit s.mbx.fallback 0
  (s.inMode [.service, .degraded] && own) || s.inMode [.standby, .maintain, .commission]

def alcGlobal (i : Nat) (s : Block) : Word :=
  let a := s.alc
  match i with
  | 0 => reg [fld 31 31 (b2n (plannerOn s)), fld 30 30 (b2n a.rpermit), fld 29 27 a.cabinet.code,
              fld 23 12 (maskOf ((outlets.filter fun n => (s.ao n).heldOff).map fun n => n - 1)),
              fld 11 0 (maskOf ((outlets.filter fun n => (s.ao n).dcStep != 0).map fun n => n - 1))]
  | 1 => reg [fld 31 16 (min (s.sys.mtime - a.cabAt) 65535), fld 15 0 s.pretime]
  | 2 => reg [fld 31 16 a.capSE, fld 15 0 a.capSI]
  | 3 | 4 | 5 => reg [fld 31 16 (tget a.capPE (i - 3)), fld 15 0 (tget a.capPI (i - 3))]
  | 6 => reg [fld 31 16 a.host.se, fld 15 0 a.host.si]
  | 7 => reg [fld 31 16 a.host.pe, fld 15 0 a.host.pi]
  | 8 => reg [fld 31 16 a.util.se, fld 15 0 a.util.si]
  | 9 => reg [fld 31 16 a.util.pe, fld 15 0 a.util.pi]
  | 10 => lo32 a.utilExp
  | 11 => hi32 a.utilExp
  | 12 => reg [fld 31 16 (s.cfg16 0x0008 16), fld 15 0 s.lag]
  | 13 => w32 a.cntRefuse
  | 14 => w32 a.cntOverdraw
  | _ => reg [fld 31 16 (maskOf (((upto 1 16).filter fun k => (s.drv k).on).map fun k => k - 1)),
              fld 15 0 (maskOf (((upto 1 16).filter fun k => (s.drv k).fb).map fun k => k - 1))]

def alcOutletWord (n i : Nat) (s : Block) : Option Word :=
  let a := s.ao n
  match i with
  | 0 => some (reg [fld 31 16 (s.a16 n 0), fld 15 0 (s.a16 n 2)])
  | 1 => some (reg [fld 31 30 (s.a8 n 4), fld 27 24 (s.nodeOf n), fld 23 21 (s.linkOf n), fld 20 18 (s.nmod n),
                    fld 15 0 (s.a16 n 8)])
  | 2 => some (reg [fld 31 16 (tc 16 a.setpt), fld 10 8 a.ph, fld 2 0 a.src])
  | 3 => some (reg [fld 31 16 a.impTgt, fld 15 0 a.expTgt])
  | 4 => some (reg [fld 31 29 a.dcStep, fld 28 28 (b2n a.dcFail),
                    fld 15 0 (u16At (nodeRec (s.linkOf n) (s.nodeOf n) s).status 2)])
  | 5 => some (reg [fld 31 16 a.sig, fld 15 0 (dA (irmsMax n s))])
  | _ => none

def cdWord (k i : Nat) (s : Block) : Word :=
  let d := s.drv k
  let st := match d.coil with | .off => 0 | .pullIn => 1 | .hold => 2 | .releasing => 3
  match i with
  | 0 => reg [fld 31 29 st, fld 28 28 (b2n d.fb), fld 27 27 (b2n d.rawFb), fld 23 16 d.fcause, fld 7 0 d.refuse]
  | 1 => reg [fld 31 16 d.tClose, fld 15 0 d.tOpen]
  | 2 => w32 d.cnt
  | _ => reg [fld 8 8 (b2n d.loaded), fld 7 0 d.seen]

/-- Nodes configured for an outlet on link j. -/
def nodesConfigured (j : Nat) (s : Block) : Nat :=
  maskOf ((upto 1 15).filter fun k => !(outletsOfNode j k s).isEmpty)

def canWord (j i : Nat) (s : Block) : Word :=
  let l := s.link j
  match i with
  | 0 => reg [fld 31 31 (b2n (s.canOn j)), fld 1 1 (s.cfg8 0x0008 (232 + 8 * (j - 1) + 2)),
              fld 0 0 (s.cfg8 0x0008 (232 + 8 * (j - 1) + 1))]
  | 1 => reg [fld 31 30 l.state, fld 23 16 l.recv, fld 15 8 l.tec]
  | 2 => reg [fld 31 16 (nodesConfigured j s), fld 15 0 (maskOf ((upto 1 15).filter fun k => (nodeRec j k s).present))]
  | _ => reg [fld 31 16 l.busOff, fld 15 0 l.lost]

/-- ALC block reads, by offset from 0x24_0000. -/
def rdAlc (a : Nat) (s : Block) : Option Word :=
  if a < 0x40 then some (alcGlobal (a / 4) s)
  else if 0x100 ≤ a && a < 0x280 then alcOutletWord ((a - 0x100) / 0x20 + 1) (a % 0x20 / 4) s
  else if 0x400 ≤ a && a < 0x500 then some (cdWord ((a - 0x400) / 0x10 + 1) (a % 0x10 / 4) s)
  else if 0x600 ≤ a && a < 0x640 then some (canWord ((a - 0x600) / 0x10 + 1) (a % 0x10 / 4) s)
  else none

/-- ALC block writes: W1C of `ALC_CDk_FLT`; the rest is RO. -/
def wrAlc (a v : Nat) (s : Block) : Wr :=
  match rdAlc a s with
  | none => .berr
  | some _ =>
    if 0x400 ≤ a && a < 0x500 && a % 0x10 == 0xC then
      .ok (updDrv ((a - 0x400) / 0x10 + 1) (fun d => { d with
        loaded := d.loaded && !bit v 8, seen := d.seen - Nat.land d.seen (v % 256) }) s)
    else .ok s

/-! ### Commands (Table 11-15) -/

def specAlcStatus : CmdSpec where
  op := 0x0700
  role := .general
  modes := mServed
  len := lenIs 0
  body := fun _ _ s => ok (wordBytes ((List.range 16).map fun i => alcGlobal i s)) s

/-- `CMD_ALC_STATUS`. -/
def execCmdAlcStatus (h : Req) (p : List Byte) (s : State) : Out := act (runCmd specAlcStatus h p) s

def specAlcLimitSet : CmdSpec where
  op := 0x0701
  role := .general
  modes := mWork
  len := lenIs 8
  body := fun _ p s =>
    ok [] { s with alc := { s.alc with host := ⟨u16At p 0, u16At p 2, u16At p 4, u16At p 6⟩, capWhy := 2 } }

/-- `CMD_ALC_LIMIT_SET` (R331). -/
def execCmdAlcLimitSet (h : Req) (p : List Byte) (s : State) : Out := act (runCmd specAlcLimitSet h p) s

def specAlcTargetSet : CmdSpec where
  op := 0x0702
  role := .general
  modes := mOutlets
  len := lenIs 8
  pre := fun _ p s =>
    let n := u8At p 0
    badUnless (outletOk n && (u16At p 4 == 0 || s.o8 n 1 == 1) && inProgress n s)
  lock := lockOf
  body := fun _ p s =>
    ok [] (replan (updAo (u8At p 0) (fun a => { a with impTgt := u16At p 2, expTgt := u16At p 4 }) s))

/-- `CMD_ALC_TARGET_SET` (R339). -/
def execCmdAlcTargetSet (h : Req) (p : List Byte) (s : State) : Out := act (runCmd specAlcTargetSet h p) s

/-- The lock of a driver a command names (R365). -/
def driverLock (p : List Byte) (_s : Block) : List Nat :=
  let k := u8At p 0
  if 1 ≤ k && k ≤ 12 then [k] else if 14 ≤ k && k ≤ 16 then [0] else []

/-- Drivers a command may name: 1 to 12 and 14 to 16. -/
def cdNameOk (k : Nat) : Bool := driverOk k && k != 13

/-- R351 for driver k: the mode decides which causes may be reset. -/
def resetOk (k : Nat) (s : Block) : Bool :=
  let d := s.drv k
  let weld := d.fcause == 2 || d.fcause == 4 || d.fcause == 7 || d.fcause == 8
  d.fcause != 0 && !d.fb && (if weld then s.sys.mode == .maintain && d.tested else true) &&
    (k != 14 && k != 15 || (!(s.drv 14).fb && !(s.drv 15).fb))

/-- The latched FCAUSE of driver k cleared (R351): `EV145`; the outlet, the cabinet or CD16 follows. -/
def cdReset (k : Nat) (s : Block) : Block :=
  let s1 := raise 145 k (updDrv k (fun d => { d with fcause := 0 }) s)
  if k ≤ 12 then faultCleared k (ovrEnd k 6 s1)
  else if (k == 14 || k == 15) && (s1.drv 14).fcause == 0 && (s1.drv 15).fcause == 0 && s1.alc.cabinet == .fault then
    setCabinet .off s1
  else s1

def specAlcFaultReset : CmdSpec where
  op := 0x0703
  role := .general
  modes := mOutService
  len := lenIs 4
  pre := fun _ p s => badUnless (cdNameOk (u8At p 0) && resetOk (u8At p 0) s)
  lock := driverLock
  body := fun _ p s => ok [] (cdReset (u8At p 0) s)

/-- `CMD_ALC_FAULT_RESET` (R351). -/
def execCmdAlcFaultReset (h : Req) (p : List Byte) (s : State) : Out := act (runCmd specAlcFaultReset h p) s

def specAlcPmRead : CmdSpec where
  op := 0x0704
  role := .general
  modes := mServed
  len := lenIs 4
  pre := fun _ p s =>
    badUnless (canOk (u8At p 0) && 1 ≤ u8At p 1 && u8At p 1 ≤ 15 && bit (nodesConfigured (u8At p 0) s) (u8At p 1))
  body := fun r p s =>
    let j := u8At p 0
    if (s.link j).identCmd.isSome then refuse stBusy s
    else .accepted (sendCan j 0x030 (zeros 8) (updLink j (fun l => { l with identCmd := some (r, u8At p 1) }) s))

/-- `CMD_ALC_PM_READ` (Table 11-10): IDENT_REQ is sent, and the node's IDENT completes the command. -/
def execCmdAlcPmRead (h : Req) (p : List Byte) (s : State) : Out := act (runCmd specAlcPmRead h p) s

/-- The conditions of a contactor test (R363); CDn of a BYPASSED outlet stays off (03 R91). -/
def cdTestOk (k : Nat) (s : Block) : Bool :=
  if k ≤ 12 then s.svcOf k != 1 && s.svcOf k != 3 && (s.ol k).cp == 0 && sideDead k s && !loadedNow k s && driverOpen k s
  else if k == 16 then driverOpen k s
  else dcOpen s && driverOpen k s

def specAlcCdTest : CmdSpec where
  op := 0x0780
  role := .general
  modes := [.maintain, .commission]
  len := lenIs 4
  pre := fun _ p s =>
    badUnless (cdNameOk (u8At p 0) && 100 ≤ u16At p 2 && u16At p 2 ≤ 5000 && cdTestOk (u8At p 0) s)
  lock := driverLock
  body := fun r p s =>
    if s.alc.test.isSome then refuse stBusy s
    else .accepted (energise (u8At p 0) { s with alc.test := some ⟨u8At p 0, u16At p 2, r, 0⟩ })

/-- `CMD_ALC_CD_TEST` (R363). -/
def execCmdAlcCdTest (h : Req) (p : List Byte) (s : State) : Out := act (runCmd specAlcCdTest h p) s

def specAlcCanRaw : CmdSpec where
  op := 0x0781
  role := .general
  modes := mCommission
  len := fun p => p.length ≥ 8 && p.length == 8 + u8At p 4
  pre := fun _ p s =>
    let j := u8At p 0
    badUnless (canOk j && u8At p 1 ≤ 1 && 1 ≤ u16At p 2 && u16At p 2 ≤ 0x7FF && u8At p 4 ≤ 64 &&
      outlets.all (fun n => !(s.isDc n && s.linkOf n == j && s.svcOf n == 1)))
  body := fun _ p s =>
    -- a raw CAN frame takes the module out of its evaluated configuration (R35, Table 14-10 bit 5)
    ok [] (evalRefresh (sendCan (u8At p 0) (u16At p 2) (p.drop 8) { s with cru.canRaw := true }))

/-- `CMD_ALC_CAN_RAW`. -/
def execCmdAlcCanRaw (h : Req) (p : List Byte) (s : State) : Out := act (runCmd specAlcCanRaw h p) s

def specsAlc : List CmdSpec :=
  [specAlcStatus, specAlcLimitSet, specAlcTargetSet, specAlcFaultReset, specAlcPmRead, specAlcCdTest, specAlcCanRaw]

end Sys2Proof.Machine
end

