-- ==== Sys2Proof/Machine/Calendar.lean ====
section
/-!
DEFINITION. Local time (09 R260): the billing section's offset and DST periods, and the civil date of a local day.
-/

namespace Sys2Proof.Machine

/-- Wall time `w` lies in DST period `i` of section 0x0005, start inclusive, end exclusive (R260). -/
def inDst (w : Int) (i : Nat) (s : Block) : Bool :=
  let a := s.cfg32 0x0005 (32 + 8 * i)
  let b := s.cfg32 0x0005 (36 + 8 * i)
  !(a == 0 && b == 0) && Int.ofNat (a * 1000) ≤ w && w < Int.ofNat (b * 1000)

/-- Local time in ms of a wall time (R260). -/
def localMs (w : Int) (s : Block) : Int :=
  let dst := if (List.range 16).any fun i => inDst w i s then s.cfg8 0x0005 25 else 0
  w + (i16At (s.secBody 0x0005) 6 + Int.ofNat dst) * 60000

/-- Local minutes since 1970-01-01 local midnight; wall times before it count as minute 0. -/
def localMinutes (w : Int) (s : Block) : Nat := (Int.fdiv (localMs w s) 60000).toNat

/-- Weekday of a day since 1970-01-01, Monday 0. -/
def weekday (day : Nat) : Nat := (day + 3) % 7

/-- Year of the 400-year cycle, day of the March-based year: helpers of `civil`. -/
def yearOfEra (doe : Nat) : Nat := (doe - doe / 1460 + doe / 36524 - doe / 146096) / 365

/-- Month 1 to 12 and day of the month of a day since 1970-01-01 (Gregorian calendar). -/
def civil (day : Nat) : Nat × Nat :=
  let z := day + 719468
  let doe := z % 146097
  let y := yearOfEra doe
  let doy := doe - (365 * y + y / 4 - y / 100)
  let mp := (5 * doy + 2) / 153
  (if mp < 10 then mp + 3 else mp - 9, doy - (153 * mp + 2) / 5 + 1)

end Sys2Proof.Machine
end

