-- ==== Sys2Proof/Machine/Commit.lean ====
section
/-!
DEFINITION. The two commit areas in MRAM: their CRC-32, which of them is valid and newest, and the vote over the three
copies (02 R63, R75; 08 R235).
-/

namespace Sys2Proof.Machine

/-! ### The bytes of an area -/

def p64s (l : List Nat) : List Byte := l.flatMap p64

def Demand.bytes (d : Demand) : List Byte :=
  p64s ([d.seq, d.lastEnd, d.nextEnd, d.start, b2n d.partial_] ++ d.imp0 ++ d.exp0 ++ d.demImp ++ d.demExp ++ d.maxImp ++
    d.maxExp ++ d.maxImpAt ++ d.maxExpAt) ++
  d.held.flatMap fun h => p64s (h.dur :: (h.imp ++ h.exp))

def Block60.bytes (b : Block60) : List Byte := [b.site, b.gross, b.out, b.aux, b.pls, b.dc, b.cab].flatMap pi64

/-- The session as the final commit carries it. -/
def Session.bytes (e : Session) : List Byte :=
  p64s ([e.sesid, e.proto, e.auth, e.service, e.reason, e.mtOpen, e.mtAuth, e.flags, e.markImp, e.markExp] ++ e.accOpen ++
    e.tarImp ++ e.tarExp) ++ pi64 e.cost ++ pi64 e.limit ++ e.subject

/-- A billing unit as the final commit carries it: its instant, the power-fail record, its Ingots. -/
def BilUnit.bytes (u : BilUnit) : List Byte :=
  p64s ([u.gseq, u.t0, u.owner] ++ u.tpf.toList) ++ u.drafts.flatMap fun d => d.body ++ p64s [d.type, d.point, d.flags]

def FinalRec.bytes (f : FinalRec) : List Byte :=
  p64s ((match f.pf with
    | none => [0]
    | some (t, src) => [1, t, src]) ++ [f.outs, f.ls]) ++
  f.log.flatMap (fun l => p64s [l.mtime, l.kind, l.index, l.detail]) ++ f.ses.flatMap (fun e => e.bytes) ++
  (f.pq.flatMap fun x => p64s [x.1, x.2.1, x.2.2.start, x.2.2.ext, x.2.2.phases, b2n x.2.2.test] ++ pi64 x.2.2.wall) ++
  f.units.flatMap fun u => u.bytes

/-- A copy's bytes for the marker's CRC-32. DESIGN CHOICE: the spec gives an area no layout. -/
def ComBody.bytes (b : ComBody) : List Byte :=
  b.accs.flatMap (fun l => l.flatMap fun v => leBytes 12 v) ++ b.dem.bytes ++ b.blocks.flatMap (fun x => x.bytes) ++
  p64s [b.mtime, b.saveAt] ++ pi64 b.wallOfs ++ p8 b.pp.code ++
  (match b.final with
    | none => []
    | some f => f.bytes)

/-- The CRC-32 over an area. -/
def areaCrc (l : List ComBody) : Nat := crc32 (l.flatMap fun b => b.bytes)

/-! ### The newest valid commit -/

/-- The area's marker, where the area is valid: its CRC-32 holds and no start has found it broken (R63). -/
def ComArea.valid (a : ComArea) : Option Marker :=
  match a.mark with
  | none => none
  | some m => if !m.bad && m.crc == areaCrc a.copies then some m else none

/-- The newest valid commit: its area and its sequence number. -/
def comNewest (l : List ComArea) : Option (Nat × Nat) :=
  match (tget l 0).valid, (tget l 1).valid with
  | none, none => none
  | some a, none => some (0, a.seq)
  | none, some b => some (1, b.seq)
  | some a, some b => if a.seq ≥ b.seq then some (0, a.seq) else some (1, b.seq)

/-- The newest valid commit's area. -/
def commitUsed (s : Block) : Option ComArea := (comNewest s.coms).map fun x => tget s.coms x.1

/-- The marker of the newest valid commit, and what it carries. -/
def markUsed (s : Block) : Option Marker := (commitUsed s).bind fun a => a.mark
def bodyUsed (s : Block) : ComBody := ((commitUsed s).map fun a => tget a.copies 0).getD ComBody.zero

/-- The area that a commit writes, which does not hold the newest valid commit, and the commit's sequence number (R63). -/
def comNext (s : Block) : Nat × Nat :=
  match comNewest s.coms with
  | none => (0, 1)
  | some (a, q) => (1 - a, q + 1)

/-- The three copies of a body written to an area. -/
def threeOf (b : ComBody) : List ComBody := [b, b, b]

/-- The marker of an area written last, with its CRC-32. -/
def markArea (area seq mtime kind : Nat) (s : Block) : Block :=
  { s with coms := tupd s.coms area fun x => { x with mark := some { seq, mtime, kind, crc := areaCrc x.copies, bad := false } } }

/-! ### The vote (R235) -/

/-- The value that at least two of three copies hold; `none` is a copy that ECC cannot correct. -/
def voteOf {α : Type} [BEq α] : List (Option α) → Option α
  | [some a, b, c] => if some a == b || some a == c then some a else if b.isSome && b == c then b else none
  | [none, b, c] => if b.isSome && b == c then b else none
  | _ => none

/-- The error of a copy's word among the hits of an area. -/
def hitOf (hits : List ComHit) (copy word : Nat) : Option ComHit := hits.find? fun h => h.copy == copy && min h.word 104 == word

/-- Accumulator `i` of point `p` as a copy reads it. -/
def accRead (hits : List ComHit) (b : ComBody) (copy p i : Nat) : Option Nat :=
  let v := (b.accs.getD p []).getD i 0
  match hitOf hits copy (8 * p + i) with
  | none => some v
  | some h => if h.flip == 0 then none else some (Nat.xor v h.flip)

/-- The rest of a copy, voted as one word. DESIGN CHOICE: the spec gives an area no layout. -/
def restRead (hits : List ComHit) (b : ComBody) (copy : Nat) : Option ComBody :=
  if (hitOf hits copy 104).isSome then none else some { b with accs := [] }

/-- A word is repaired where some copy does not read as voted. -/
def repaired {α : Type} [BEq α] (l : List (Option α)) : Nat := b2n (l.any fun x => x != voteOf l)

/-- An area's words formed by vote: the body, and how many words were repaired; none where some word has no two copies that
agree. -/
def areaVote (hits : List ComHit) (a : ComArea) : Option (ComBody × Nat) :=
  let reads := fun p i => (List.range 3).map fun c => accRead hits (tget a.copies c) c p i
  let rest := (List.range 3).map fun c => restRead hits (tget a.copies c) c
  let accs := (List.range 13).mapM fun p => (List.range 8).mapM fun i => voteOf (reads p i)
  match voteOf rest, accs with
  | some r, some x =>
    some ({ r with accs := x },
      (List.range 13).foldl (fun n p => (List.range 8).foldl (fun n i => n + repaired (reads p i)) n) (repaired rest))
  | _, _ => none

/-- One area tried by a start: voted, every copy rewritten, and its CRC-32 checked; or found not valid. -/
def areaTry (hits : List ComHit) (k : Nat) (a : ComArea) : ComArea × Nat :=
  match a.mark with
  | none => (a, 0)
  | some m =>
    let broken := ({ a with mark := some { m with bad := true } }, 0)
    let h := hits.filter fun h => h.area == k
    if h.any fun h => h.copy == 3 then broken
    else match areaVote h a with
      | none => broken
      | some (b, n) => if !m.bad && m.crc == areaCrc (threeOf b) then ({ a with copies := threeOf b }, n) else broken

/-- Step 5's choice: the area with the higher sequence number is tried first, then the other. Answers the areas as they are
left, and how many words were repaired in the area used. -/
def comRestore (hits : List ComHit) (l : List ComArea) : List ComArea × Nat :=
  let sq := fun k => ((tget l k).mark.map fun m => m.seq).getD 0
  let first := if sq 0 ≥ sq 1 then 0 else 1
  let (a, n) := areaTry hits first (tget l first)
  let l1 := tput l first a
  if a.valid.isSome then (l1, n)
  else
    let (b, m) := areaTry hits (1 - first) (tget l1 (1 - first))
    (tput l1 (1 - first) b, m)

end Sys2Proof.Machine
end

