-- ==== Sys2Proof/Machine/Rcm.lean ====
section
/-!
DEFINITION. Residual current and insulation (12): the fluxgate samples and detectors, trips, self-tests, the two
injectors, the cable check, and the commands of Table 12-10.
-/

namespace Sys2Proof.Machine

/-! ### Samples and detectors (R368, R369) -/

/-- The nominal mains period in 10 kHz samples (R368). -/
def mainsSamples (s : Block) : Nat := if s.nomFreq == 60 then 167 else 200

/-- Mean of the newest `w` samples, 0.01 mA. -/
def meanOf (w : Nat) (h : List Int) : Int := Int.tdiv ((h.take w).foldl (· + ·) 0) (Int.ofNat (max w 1))

/-- AC: RMS over T of the samples less DC(T), 0.01 mA. -/
def acOf (t : Nat) (h : List Int) : Nat :=
  let m := meanOf t h
  isqrt (((h.take t).foldl (fun a x => a + ((x - m) * (x - m)).toNat) 0) / max t 1)

/-- The five quantities of Table 12-1 in 0.01 mA: |DC(5T)|, |DC(T)|, |DC(T/2)|, AC, |sample|. -/
def quantities (t : Nat) (h : List Int) : List Nat :=
  [(meanOf (5 * t) h).natAbs, (meanOf t h).natAbs, (meanOf (t / 2) h).natAbs, acOf t h, (h.headD 0).natAbs]

/-- The thresholds in force in 0.01 mA (Table 12-1). -/
def thresholds (r : RcmOutlet) : List Nat := [r.tdcl * 10, r.tdcm * 10, r.tdch * 10, r.tac * 10, 50000]

/-- Persistence times in samples (Table 12-1). -/
def persistence : List Nat := [8000, 600, 200, 100, 10]

/-- The outlet's own self-test injects: its detectors are suspended (R370). -/
def RcmRun.testing : RcmRun → Bool
  | .session _ | .command _ | .reset _ => true
  | _ => false

/-- The detectors run on outlet n (R370). -/
def detecting (n : Nat) (s : Block) : Bool :=
  !s.pwr.anvilDown && s.svcOf n != 0 && s.svcOf n != 3 && !(s.rc n).run.testing

/-- The value a trip reports, 0.1 mA: the detector's quantity, or DC(T) for a link fault. -/
def tripValue (n cause : Nat) (s : Block) : Nat :=
  let q := quantities (mainsSamples s) (s.rc n).hist
  min (tget q (if 1 ≤ cause && cause ≤ 5 then cause - 1 else 1) / 10) 65535

/-! ### Trip (R372, R373) -/

def rcmCount (k : Nat) (s : Block) : Block := { s with rcm.cnt := tupd s.rcm.cnt k inc32 }

/-- An entry of Anvil's safety log (R373): kind 1 is a latched cause of this chapter. -/
def safetyLog (kind index detail : Nat) (s : Block) : Block :=
  { s with saf.log := { mtime := s.sys.mtime, kind, index, detail } :: s.saf.log }

/-- A cause latched; an earlier one stays. -/
def latchCause (n cause : Nat) (s : Block) : Block :=
  safetyLog 1 n cause (updRc n (fun r => { r with
    cause := if r.cause == 0 then cause else r.cause, insLatch := r.insLatch || cause == 8, seen := setBit r.seen (cause - 1) }) s)

/-- A test injection that met a decision completes with its detector and time (Table 12-10). -/
def injectDecided (n cause : Nat) (s : Block) : Block :=
  match (s.rc n).run with
  | .inject r at_ _ =>
    complete r stOk (p8 cause ++ zeros 3 ++ p32 ((s.asy.sampleCnt + 4294967296 - at_) % 4294967296 * 100))
      (updRc n (fun r => { r with run := .no }) s)
  | _ => s

/-- A trip decision (Table 12-3). -/
def trip (n cause value : Nat) (s : Block) : Block :=
  if (s.rc n).cause == cause then s
  else
    let s1 := fastRelease n true (latchCause n cause s)
    let s2 := raise 160 (value * 65536 + cause * 256 + n) { s1 with rcm := { s1.rcm with
      lastValue := value, lastCause := cause, lastOutlet := n, lastAt := s.sys.mtime } }
    injectDecided n cause (atTick ⟨n, 2, true, 6⟩ (rcmCount 0 s2))

/-- A value held to a range of ±m. -/
def heldTo (m x : Int) : Int := if x > m then m else if x < -m then -m else x

/-- One residual-current sample of outlet n, in steps of 0.05 mA, less the offset, within ±500 mA (R368, R369). -/
def rcmSample (n : Nat) (raw : Int) (s : Block) : Block :=
  if s.svcOf n == 0 then s
  else
    let r := s.rc n
    let x := heldTo 50000 (raw * 5 - r.offset)
    let h := (x :: r.hist).take 1000
    let t := mainsSamples s
    let q := quantities t h
    let th := thresholds r
    let on := detecting n s
    let ps := (List.range 5).map fun k => if on && tget q k ≥ tget th k then tget r.persist k + 1 else 0
    let loud := tget q 0 * 2 ≥ tget th 0 || tget q 3 * 2 ≥ tget th 3
    let s1 := updRc n (fun r => { r with hist := h, persist := ps, loudAt := if loud then some s.sys.mtime else r.loudAt }) s
    match (List.range 5).filter fun k => tget ps k ≥ tget persistence k with
    | k :: _ => trip n (k + 1) (tripValue n (k + 1) s1) s1
    | [] => s1

/-- The residual-current samples of one 10 kHz instant, outlets in order. -/
def rcmSamples (xs : List Int) (s : Block) : Block :=
  outlets.foldl (fun s n => match xs.drop (n - 1) with
    | x :: _ => rcmSample n x s
    | [] => s) s

/-- `RCM_TRIP`: a detector, link or insulation decision of a running detector (R369, R372). -/
def execRcmTrip (outlet cause : Nat) (s : State) : Out :=
  act (fun b =>
    if b.pwr.heldBy == .no && outletOk outlet && 1 ≤ cause && cause ≤ 8 && cause != 7 && detecting outlet b then
      trip outlet cause (tripValue outlet cause b) b
    else b) s

/-- `RCM_LINK_FAULT` (R371): a trip decision with cause 6; masked while BYPASSED (R91). -/
def execRcmLinkFault (outlet : Nat) (s : State) : Out :=
  act (fun b =>
    if b.pwr.heldBy == .no && outletOk outlet && b.svcOf outlet != 0 && !(b.rc outlet).linkFault then
      let b1 := updRc outlet (fun r => { r with linkFault := true }) b
      if b.svcOf outlet == 3 then b1
      else trip outlet 6 (tripValue outlet 6 b) (raise 163 (256 + outlet) (rcmCount 1 b1))
    else b) s

/-- `RCM_LINK_RESTORED` (R371): the latched fault remains. -/
def execRcmLinkRestored (outlet : Nat) (s : State) : Out :=
  act (fun b =>
    if outletOk outlet && (b.rc outlet).linkFault then
      let b1 := updRc outlet (fun r => { r with linkFault := false }) b
      if b.svcOf outlet == 3 then b1 else raise 163 outlet b1
    else b) s

/-! ### Fault reset (R382) -/

/-- The reset succeeds: `EV161`, the causes cleared, override 2 ends, the outlet follows R616. -/
def rcmResetDone (n : Nat) (r : CmdRef) (s : Block) : Block :=
  let s1 := updRc n (fun c => { c with run := .no, cause := 0, insLatch := false, below := 0, asym := 0 }) s
  complete r stOk [] (faultCleared n (ovrEnd n 2 (raise 161 n (rcmCount 7 s1))))

/-- The reset fails and clears nothing. -/
def rcmResetFail (n : Nat) (r : CmdRef) (s : Block) : Block :=
  complete r stBadParam [] (updRc n (fun c => { c with run := .no }) s)

/-! ### Self-test (R374, R375) -/

/-- The result of Table 12-4 from what the steps read, in 0.01 mA: 0 pass, else the first failure cause. -/
def selftestResult (offset plus minus : Int) (ac : Nat) (asserted : Bool) : Nat :=
  if offset > 200 || offset < -200 then 1
  else if plus > 1150 || plus < 850 || minus < -1150 || minus > -850 then 2
  else if ac < 2550 || ac > 3450 then 3
  else if !asserted then 4
  else 0

/-- A second failure of the session's self-test latches cause 7 (R375), masked while BYPASSED (03 R91). -/
def stFail (n : Nat) (s : Block) : Block :=
  if s.svcOf n == 3 then updRc n (fun r => { r with run := .no }) s else
  atTick ⟨n, 2, true, 6⟩ (rcmCount 2 (latchCause n 7 (updRc n (fun r => { r with run := .no }) s)))

/-- The self-test of a fault reset has ended: cause 8 also needs an injection measurement. -/
def resetTested (n res : Nat) (r : CmdRef) (s : Block) : Block :=
  if res != 0 then rcmResetFail n r s
  else if (s.rc n).insLatch then insAsk 3 n (some r) s
  else rcmResetDone n r s

/-- `RCM_SELFTEST_DONE` (Table 12-4): the mean offset, DC(T/2) at ±10 mA and AC at 30 mA in 0.01 mA, and whether the AC
comparator asserted. -/
def execRcmSelftestDone (outlet : Nat) (offset plus minus : Int) (ac : Nat) (asserted : Bool) (s : State) : Out :=
  act (fun b =>
    if outletOk outlet && (b.rc outlet).run.testing then
      let res := selftestResult offset plus minus ac asserted
      let b1 := raise 162 (res * 256 + outlet) (countSelfTest 2 (res != 0) (updRc outlet (fun r => { r with
        result := res, persist := [0, 0, 0, 0, 0]
        offset := if res == 0 then offset else r.offset
        turns := if res == 0 then b.cfg16 0x0009 (16 + 12 * (outlet - 1) + 8) else r.turns }) b))
      match (b.rc outlet).run with
      | .session second =>
        if res == 0 then
          replan (updSes outlet (fun e => { e with rcmOk := true }) (updRc outlet (fun r => { r with run := .no }) b1))
        else if second then stFail outlet b1
        else updRc outlet (fun r => { r with run := .retryWait b1.sys.mtime }) b1
      | .command r =>
        complete r stOk (p8 res ++ [0] ++ pi16 (b1.rc outlet).offset) (updRc outlet (fun c => { c with run := .no }) b1)
      | .reset r => resetTested outlet res r b1
      | _ => b1
    else b) s

/-! ### Insulation (R376–R379) -/

/-- Ω/V of a resistance on outlet n (R376). -/
def ohmPerVolt (n riso : Nat) (s : Block) : Nat := riso / max (s.o16 n 10) 1
def Block.insWarn (s : Block) : Nat := s.cfg16 0x0009 0
def Block.insFault (s : Block) : Nat := s.cfg16 0x0009 2

def insEvent (e begin_ n perV : Nat) (s : Block) : Block := raise e (min perV 65535 * 65536 + begin_ * 256 + n) s

/-- A warning begins, or goes on (R379). -/
def warnBegin (n perV : Nat) (s : Block) : Block :=
  let s1 := updRc n (fun r => { r with warn := true, ins := 3 }) s
  if (s.rc n).warn then s1 else insEvent 164 1 n perV (rcmCount 3 s1)

/-- A warning ends (R379). -/
def warnEnd (n perV : Nat) (s : Block) : Block :=
  let s1 := updRc n (fun r => { r with warn := false, ins := 2, below := 0 }) s
  if (s.rc n).warn then insEvent 164 0 n perV s1 else s1

/-- An insulation fault, cause 8 (R379), masked while BYPASSED (03 R91). -/
def insFaulted (n perV : Nat) (s : Block) : Block :=
  if s.svcOf n == 3 then s else
  trip n 8 (min perV 65535) (insEvent 165 1 n perV (rcmCount 4 (updRc n (fun r => { r with ins := 4 }) s)))

/-- An injection measurement during charging (R379). -/
def judge (n riso : Nat) (s : Block) : Block :=
  let v := ohmPerVolt n riso s
  if v ≥ s.insWarn then warnEnd n v s
  else if v ≥ s.insFault then warnBegin n v (updRc n (fun r => { r with below := 0 }) s)
  else if (s.rc n).below ≥ 1 then insFaulted n v (updRc n (fun r => { r with below := r.below + 1 }) s)
  else warnBegin n v (updRc n (fun r => { r with below := 1 }) s)

/-- `INS_ASYMMETRY_READING` (Table 12-5): 100 readings in a row below INSFAULT are a fault; in a cable check it fails the
check and latches nothing (R381). -/
def execInsAsymmetryReading (outlet risoOhm : Nat) (s : State) : Out :=
  act (fun b =>
    let inStep := (b.ao outlet).dcStep != 0
    if outletOk outlet && b.isDc outlet && ((b.drv outlet).fb || inStep) && b.svcOf outlet != 3 && b.svcOf outlet != 0 then
      let v := ohmPerVolt outlet risoOhm b
      let k := if v < b.insFault then (b.rc outlet).asym + 1 else 0
      let b1 := updRc outlet (fun r => { r with asym := k }) b
      if k == 100 then
        (if (b.ao outlet).dcStep == 4 then updRc outlet (fun r => { r with cableAsym := true }) b1
         else insFaulted outlet v b1)
      else b1
    else b) s

/-- What a measurement of a use means to the outlet (R378–R382). -/
def measured (q : InsReq) (riso : Nat) (s : Block) : Block :=
  let n := q.outlet
  match q.use, q.cmd with
  | 1, _ => judge n riso s
  | 2, _ => updRc n (fun r => { r with cableOhm := some riso }) s
  | _, some r =>
    if (s.rc n).run == .reset r then
      (if ohmPerVolt n riso s ≥ s.insWarn then rcmResetDone n r (warnEnd n (ohmPerVolt n riso s) s)
       else rcmResetFail n r s)
    else complete r stOk (p32 riso ++ p16 (min (ohmPerVolt n riso s) 65535) ++ p16 0) s
  | _, none => s

/-- `INS_MEASUREMENT_DONE`: injector 1 or 2, RISO in Ω, the time it took. -/
def execInsMeasurementDone (injector risoOhm ms : Nat) (s : State) : Out :=
  act (fun b =>
    if injector == 1 || injector == 2 then
      let i := injector - 1
      match (b.inj i).cur with
      | none => b
      | some q =>
        let b1 := updInj i (fun j => { j with
          cur := none, time := min ms 65535, last := if q.use == 1 then q.outlet else j.last }) b
        injNext i (measured q risoOhm (updRc q.outlet (fun r => { r with riso := some (risoOhm, b.sys.mtime) }) b1))
    else b) s

/-- An outlet's cable check leaves its injector. -/
def cableLeave (n : Nat) (s : Block) : Block :=
  let i := injOf n
  let mine := fun (q : InsReq) => q.use == 2 && q.outlet == n
  injNext i (updInj i (fun j => { j with
    queue := j.queue.filter fun q => !mine q
    cur := match j.cur with
      | some q => if mine q then none else some q
      | none => none }) s)

/-- A cable check passes: precharge follows with UTGT held at UCHK (Table 12-6 step 4). -/
def cablePass (n riso : Nat) (s : Block) : Block :=
  let a := s.ao n
  completeOpt a.dcCmd stOk (stepResult false (vehicleVolt n s) riso)
    (sayWith n ansOk { VAns.none with iso := some (if (s.rc n).warn then 2 else 1) } (sendSetpoints n 1 ((s.rc n).uchk * 10) 5
      (updAo n (fun a => { a with dcStep := 5, dcAt := s.sys.mtime, dcCmd := none }) s)))

/-- `CABLE_CHECK_DONE` (Tables 12-6, 12-7). -/
def execCableCheckDone (outlet : Nat) (vaReached : Bool) (s : State) : Out :=
  act (fun b =>
    if outletOk outlet && (b.ao outlet).dcStep == 4 && (!vaReached || (b.rc outlet).cableOhm.isSome) then
      let r := b.rc outlet
      let riso := r.cableOhm.getD 0
      let v := ohmPerVolt outlet riso b
      let code := if !vaReached then 1 else if r.cableAsym || v < b.insFault then 2 else 0
      let b1 := raise 166 (code * 65536 + outlet) (rcmCount 5 (cableLeave outlet b))
      if code != 0 then
        dcFail outlet 4 (vehicleVolt outlet b) riso
          (sayWith outlet ansFailed { VAns.none with iso := some (if code == 1 then 4 else 3) } (rcmCount 6 (if code == 2 then updRc outlet (fun r => { r with ins := 4 }) b1 else b1)))
      else cablePass outlet riso (if v < b.insWarn then warnBegin outlet v b1 else warnEnd outlet v b1)
    else b) s

/-- `INJECTOR_FAULT` (Table 12-9): its outlets are measured by asymmetry only until it passes. -/
def execInjectorFault (injector : Nat) (fault : Bool) (s : State) : Out :=
  act (fun b =>
    if b.pwr.heldBy == .no && (injector == 1 || injector == 2) && (b.inj (injector - 1)).fault != fault then
      let i := injector - 1
      injNext i (raise 167 (b2n fault * 256 + i) (updInj i (fun j => { j with
        fault
        queue := (match j.cur with | some q => if fault && q.use != 1 then [q] else [] | none => []) ++ j.queue
        cur := if fault then none else j.cur }) b))
    else b) s

/-! ### Registers (R387) -/

def rcmState (n : Nat) (s : Block) : Nat :=
  let r := s.rc n
  if s.svcOf n == 0 || s.svcOf n == 3 then 0
  else if r.cause != 0 then 4
  else if r.run.testing then 1
  else if (s.ses n).rcmOk && (s.ses n).st.stoppable then 3 else 2


def injWord (i : Nat) (s : Block) : Word :=
  let j := s.inj i
  let (use, n) := match j.cur with
    | some q => (q.use, q.outlet)
    | none => (if j.fault then 4 else 0, 0)
  reg [fld 31 31 (b2n j.cur.isSome), fld 30 28 use, fld 27 24 n, fld 23 16 j.queue.length, fld 15 0 j.time]

def rcmGlobal (i : Nat) (s : Block) : Word :=
  let m := s.rcm
  match i with
  | 0 => reg [fld 23 12 (if s.sys.mode == .selftest then 0 else outletMask fun n => s.svcOf n != 0 && !(s.rc n).linkFault),
              fld 11 0 (if s.sys.mode == .selftest then 0 else outletMask fun n => detecting n s)]
  | 1 => rcmFaultMap s
  | 2 => reg [fld 31 16 s.insWarn, fld 15 0 s.insFault]
  | 3 => injWord 0 s
  | 4 => injWord 1 s
  | 5 => reg [fld 31 16 m.lastValue, fld 15 12 m.lastCause, fld 7 0 m.lastOutlet]
  | 6 => lo32 m.lastAt
  | 7 => hi32 m.lastAt
  | k => w32 (tget m.cnt (k - 8))

def rcmWord (n i : Nat) (s : Block) : Word :=
  let r := s.rc n
  let t := mainsSamples s
  match i with
  | 0 => reg [fld 31 16 r.tdcm, fld 15 0 r.tdcl]
  | 1 => reg [fld 31 16 r.tac, fld 15 0 r.tdch]
  | 2 => reg [fld 31 30 (if s.fitted n then s.o8 n 0 else 0), fld 25 24 (if s.isDc n then injOf n + 1 else 0), fld 15 0 r.turns]
  | 3 => reg [fld 31 29 (rcmState n s), fld 28 24 r.cause, fld 18 16 (if s.isDc n then r.ins else 0),
              fld 15 0 (min (r.persist.foldl max 0 / 10) 65535)]
  | 4 => reg [fld 31 16 (tc 16 (Int.tdiv (meanOf t r.hist) 10)), fld 15 0 (min (acOf t r.hist / 10) 65535)]
  | 5 => reg [fld 31 24 r.result, fld 15 0 (tc 16 r.offset)]
  | 6 => match r.riso with
    | none => 0xFFFFFFFF
    | some (ohm, at_) => reg [fld 31 16 (min (ohm / 1000) 65535), fld 15 0 (min (s.sys.mtime - at_) 65535)]
  | _ => reg [fld 7 0 r.seen]

/-- RCM block reads, by offset from 0x28_0000. -/
def rdRcm (a : Nat) (s : Block) : Option Word :=
  if a < 0x40 then some (rcmGlobal (a / 4) s)
  else if 0x100 ≤ a && a < 0x280 then some (rcmWord ((a - 0x100) / 0x20 + 1) (a % 0x20 / 4) s)
  else none

/-- RCM block writes: W1C of `RCM_FLTn`; the rest is RO. -/
def wrRcm (a v : Nat) (s : Block) : Wr :=
  match rdRcm a s with
  | none => .berr
  | some _ =>
    if 0x100 ≤ a && a % 0x20 == 0x1C then
      .ok (updRc ((a - 0x100) / 0x20 + 1) (fun r => { r with seen := r.seen - Nat.land r.seen (v % 256) }) s)
    else .ok s

/-! ### Commands (Table 12-10) -/

def specRcmStatus : CmdSpec where
  op := 0x0800
  role := .general
  modes := mServed
  len := lenIs 4
  body := fun _ p s =>
    if outletOk (u8At p 0) then ok (wordBytes ((List.range 8).map fun i => rcmWord (u8At p 0) i s)) s
    else refuse stBadParam s

/-- `CMD_RCM_STATUS`. -/
def execCmdRcmStatus (h : Req) (p : List Byte) (s : State) : Out := act (runCmd specRcmStatus h p) s

/-- The conditions of R382 that are met before the command's own self-test. -/
def rcmResetOk (n : Nat) (s : Block) : Bool :=
  let r := s.rc n
  outletOk n && r.cause != 0 && !(s.drv n).fb && !(s.drv n).on && !r.linkFault &&
    (match r.loudAt with | none => true | some t => t + 1000 ≤ s.sys.mtime)

def specRcmFaultReset : CmdSpec where
  op := 0x0801
  role := .general
  modes := mOutService
  len := lenIs 4
  pre := fun _ p s => badUnless (rcmResetOk (u8At p 0) s)
  lock := lockOf
  body := fun r p s =>
    if (s.rc (u8At p 0)).run != .no then refuse stBusy s
    else .accepted (updRc (u8At p 0) (fun c => { c with run := .reset r }) s)

/-- `CMD_RCM_FAULT_RESET` (R382). -/
def execCmdRcmFaultReset (h : Req) (p : List Byte) (s : State) : Out := act (runCmd specRcmFaultReset h p) s

def specRcmSelftest : CmdSpec where
  op := 0x0802
  role := .general
  modes := mWork
  len := lenIs 4
  pre := fun _ p s =>
    let n := u8At p 0
    badUnless (outletOk n && s.svcOf n != 0 && s.svcOf n != 3 && !(s.drv n).fb && !(s.drv n).on && (s.ao n).dcStep == 0)
  lock := lockOf
  body := fun r p s =>
    if (s.rc (u8At p 0)).run != .no then refuse stBusy s
    else .accepted (updRc (u8At p 0) (fun c => { c with run := .command r }) s)

/-- `CMD_RCM_SELFTEST` (R374). -/
def execCmdRcmSelftest (h : Req) (p : List Byte) (s : State) : Out := act (runCmd specRcmSelftest h p) s

def specInsMeasure : CmdSpec where
  op := 0x0803
  role := .general
  modes := [.maintain, .commission]
  len := lenIs 4
  pre := fun _ p s =>
    let n := u8At p 0
    badUnless (outletOk n && s.isDc n && s.svcOf n != 1 && !(s.drv n).fb && !(s.drv n).on)
  lock := lockOf
  body := fun r p s => .accepted (insAsk 3 (u8At p 0) (some r) s)

/-- `CMD_INS_MEASURE` (R378). -/
def execCmdInsMeasure (h : Req) (p : List Byte) (s : State) : Out := act (runCmd specInsMeasure h p) s

def specRcmTestInject : CmdSpec where
  op := 0x0880
  role := .general
  modes := mCommission
  len := lenIs 8
  pre := fun _ p s =>
    let n := u8At p 0
    badUnless (outletOk n && (u8At p 1 == 1 || u8At p 1 == 2) && 1 ≤ u16At p 2 && u16At p 2 ≤ 5000 &&
      10 ≤ u16At p 4 && u16At p 4 ≤ 2000 && s.svcOf n != 1 && s.svcOf n != 3)
  lock := lockOf
  body := fun r p s =>
    if (s.rc (u8At p 0)).run != .no then refuse stBusy s
    else .accepted (updRc (u8At p 0) (fun c => { c with run := .inject r s.asy.sampleCnt (u16At p 4) }) s)

/-- `CMD_RCM_TEST_INJECT`: a decision of a detector completes it (Table 12-10). -/
def execCmdRcmTestInject (h : Req) (p : List Byte) (s : State) : Out := act (runCmd specRcmTestInject h p) s

/-- `RCM_TEST_INJECT_END`: no decision; DETECTOR 0. The spec states no decision time then: a free value. -/
def execRcmTestInjectEnd (outlet : Nat) (s : State) : Out :=
  act (fun b =>
    match (b.rc outlet).run with
    | .inject r _ _ =>
      if outletOk outlet then
        let (i, b1) := b.draw
        complete r stOk (zeros 4 ++ p32 (Config.freeWord i).toNat) (updRc outlet (fun c => { c with run := .no }) b1)
      else b
    | _ => b) s

def specsRcm : List CmdSpec :=
  [specRcmStatus, specRcmFaultReset, specRcmSelftest, specInsMeasure, specRcmTestInject]

end Sys2Proof.Machine
end

