-- ==== Sys2Proof/Machine/SafetyIn.lean ====
section
/-!
DEFINITION. Machine safety (13): the safety inputs and their faults, the enable pairs, the functions of Table 13-3 and
their reaction (Table 13-4), the safety parameter set (R403–R405), and the commands of Table 13-8.
-/

namespace Sys2Proof.Machine

/-! ### The applied parameter set (Table 13-5a) -/

/-- Field of input k, and of function f, in a parameter set. -/
def psIn (p : List Byte) (k o : Nat) : Nat := u8At p (16 + 8 * k + o)
def psFn (p : List Byte) (f o : Nat) : Nat := u8At p (160 + 16 * f + o)
def psTpo (p : List Byte) (k : Nat) : Nat := u8At p (144 + k - 1)
def psMask (p : List Byte) (f : Nat) : Nat := u16At p (160 + 16 * f + 4)

def Block.inType (s : Block) (k : Nat) : Nat := psIn s.saf.pset k 0
def Block.fnKind (s : Block) (f : Nat) : Nat := psFn s.saf.pset f 0
def Block.fnMask (s : Block) (f : Nat) : Nat := psMask s.saf.pset f
def Block.fnPair (s : Block) (f : Nat) : Nat := psFn s.saf.pset f 6
def Block.fnEdm (s : Block) (f : Nat) : Nat := psFn s.saf.pset f 7
def Block.sin (s : Block) (k : Nat) : SafIn := tget s.saf.ins k
def Block.fn (s : Block) (f : Nat) : SafFn := tget s.saf.fns f

/-- Inputs and functions 0 to 15. -/
def safNums : List Nat := List.range 16

def updIn (k : Nat) (f : SafIn → SafIn) (s : Block) : Block := { s with saf.ins := tupd s.saf.ins k f }
def updFn (k : Nat) (f : SafFn → SafFn) (s : Block) : Block := { s with saf.fns := tupd s.saf.fns k f }

/-- Inputs of a function: IN1, and IN2 for TWOHAND. -/
def Block.fnInputs (s : Block) (f : Nat) : List Nat :=
  if s.fnKind f == 4 then [psFn s.saf.pset f 1, psFn s.saf.pset f 2] else [psFn s.saf.pset f 1]

/-! ### Inputs (R389, R392, R393) -/

/-- Every input reads as demanded (R393, Table 3-1). -/
def allDemanded (s : Block) : Bool := s.inMode [.factory, .provision]

/-- The input is healthy: not demanding (Table 13-1). -/
def inHealthy (k : Nat) (s : Block) : Bool :=
  let i := s.sin k
  !allDemanded s && match s.inType k with
    | 1 | 3 => i.fA && i.fB
    | 2 => i.fA && !i.fB
    | 4 => i.fA
    | _ => false

/-- Every channel of the input is in the demanding state (R393, R397). -/
def inDemanding (k : Nat) (s : Block) : Bool :=
  let i := s.sin k
  allDemanded s || match s.inType k with
    | 1 | 3 => !i.fA && !i.fB
    | 2 => !i.fA && i.fB
    | _ => !i.fA

def inFaulted (k : Nat) (s : Block) : Bool := (s.sin k).fcause != 0

/-- `SAF_LAST` and a counted latched fault, with its entry in Anvil's safety log. -/
def safFault (type index detail : Nat) (s : Block) : Block :=
  safetyLog type index detail { s with saf := { s.saf with
    cntFault := inc32 s.saf.cntFault, lastType := type, lastIndex := index, lastDetail := detail, lastAt := s.sys.mtime } }

/-- A channel fault latches on its input (R393); in FACTORY and PROVISION none does. A further cause on an input with a
latched fault adds its channel only. -/
def latchInput (k cause : Nat) (chA chB : Bool) (s : Block) : Block :=
  if allDemanded s then s
  else
    let s1 := updIn k (fun i => { i with faultA := i.faultA || chA, faultB := i.faultB || chB }) s
    if inFaulted k s then s1
    else
      let s2 := updIn k (fun i => { i with fcause := cause, relSeen := inDemanding k s }) s1
      safFault 2 k cause (raise 170 (cause * 65536 + k * 256 + b2n (chB && !chA)) s2)

/-! ### Enable pairs (R394) -/

/-- Modes in which an enable pair may be on (R394). -/
def mPairs : List Mode := [.standby, .service, .degraded, .maintain, .commission, .activate]

/-- Functions that name pair p. -/
def fnsOfPair (p : Nat) (s : Block) : List Nat := safNums.filter fun f => s.fnKind f != 0 && s.fnPair f == p

/-- A readback fault is latched on pair p. -/
def pairFaulted (p : Nat) (s : Block) : Bool := bit s.saf.tpoFault (2 * p - 2) || bit s.saf.tpoFault (2 * p - 1)

/-- Both outputs of pair p are in mode 2. -/
def pairFitted (p : Nat) (s : Block) : Bool := psTpo s.saf.pset (2 * p - 1) == 2 && psTpo s.saf.pset (2 * p) == 2

/-- The EDM input of pair p, if a function names one. -/
def pairEdm (p : Nat) (s : Block) : Option Nat :=
  (((fnsOfPair p s).map s.fnEdm).filter fun e => e != 0xFF).head?

/-- What keeps pair p on (R394). -/
def pairMayStay (p : Nat) (s : Block) : Bool :=
  pairFitted p s && s.inMode mPairs && (fnsOfPair p s).all (fun f => (s.fn f).st == .satisfied) && !pairFaulted p s

/-- What lets pair p switch on: its EDM input healthy as well. While the pair is on, its external contactors are closed
and R395 judges the EDM input instead. -/
def pairMayStart (p : Nat) (s : Block) : Bool :=
  pairMayStay p s && match pairEdm p s with
    | none => true
    | some e => inHealthy e s

/-- Every enable pair as R394 gives it now. -/
def pairEval (s : Block) : Block :=
  let on := maskOf ((List.range 4).filter fun i =>
    if bit s.saf.pairs i then pairMayStay (i + 1) s else pairMayStart (i + 1) s)
  { s with saf := { s.saf with
    pairs := on
    pairAt := (List.range 4).map fun i => if bit on i == bit s.saf.pairs i then tget s.saf.pairAt i else s.sys.mtime } }

/-! ### Functions (R396–R399) -/

/-- The function demands (Table 13-2); a demand test is a real demand. -/
def fnDemandNow (f : Nat) (s : Block) : Bool :=
  (s.fn f).test.isSome ||
  (if s.fnKind f == 4 then !(s.fn f).act else !(s.fnInputs f).all fun k => inHealthy k s)

/-- A fault is latched on an input, the EDM input or the pair of the function (Table 13-3). -/
def fnFaulted (f : Nat) (s : Block) : Bool :=
  (s.fnInputs f).any (fun k => inFaulted k s) || (s.fnEdm f != 0xFF && inFaulted (s.fnEdm f) s) || (s.fn f).edm ||
  (s.fnPair f != 0 && pairFaulted (s.fnPair f) s)

/-- Outlets of the function's mask. -/
def fnOutlets (f : Nat) (s : Block) : List Nat := outlets.filter fun n => bit (s.fnMask f) (n - 1)

/-- The outlet the function's mask names alone, if it does. -/
def fnSingle (f : Nat) (s : Block) : Option Nat :=
  match fnOutlets f s with
  | [n] => some n
  | _ => none

/-- Steps 4 to 6 of Table 13-4 for the function's outlets. In OUTAGE only the state and the log change (R402). -/
def reactOutlets (f : Nat) (s : Block) : Block :=
  if s.sys.mode == .outage || (s.fn f).masked then s
  else (fnOutlets f s).foldl (fun s n => atTick ⟨n, 3, false, 10⟩ (fastRelease n true s)) s

/-- The safety reaction of Table 13-4: enable pairs off, outlets released. -/
def safetyReaction (f : Nat) (s : Block) : Block := reactOutlets f (pairEval s)

def fnGo (f : Nat) (st : FnState) (s : Block) : Block := updFn f (fun x => { x with st, at_ := s.sys.mtime }) s

/-- Override 3 ends on outlets of the function that are no longer under demand (R401, R169). -/
def demandEnds (f : Nat) (s : Block) : Block :=
  (fnOutlets f s).foldl (fun s n => if underDemand n s then s else ovrEnd n 3 s) s

/-- SATISFIED → DEMAND (Table 13-3). -/
def fnDemand (f : Nat) (s : Block) : Block :=
  let s1 := raise 168 (f * 16777216 + s.fnKind f * 65536 + s.fnMask f % 4096) (fnGo f .demand s)
  let s2 := safetyLog 5 f (s.fnKind f) { s1 with saf := { s1.saf with
    cntDemand := inc32 s1.saf.cntDemand, lastType := 1, lastIndex := f, lastDetail := s.fnKind f, lastAt := s.sys.mtime } }
  safetyReaction f s2

/-- Entry into SATISFIED: `EV169`, the enable pairs, the end of the demand. -/
def fnSatisfy (f : Nat) (s : Block) : Block :=
  demandEnds f (pairEval (raise 169 (f * 16777216) (fnGo f .satisfied s)))

/-- One function after a change of what it depends on (Table 13-3). -/
def fnEval (f : Nat) (s : Block) : Block :=
  match (s.fn f).st with
  | .unused => s
  | .fault => if fnFaulted f s then s else fnGo f .demand s
  | .satisfied =>
    if fnFaulted f s then safetyReaction f (fnGo f .fault s)
    else if fnDemandNow f s then fnDemand f s else s
  | .demand => if fnFaulted f s then fnGo f .fault s else s
  | .waitReset =>
    if fnFaulted f s then fnGo f .fault s
    else if fnDemandNow f s then fnGo f .demand s else s

/-- Every function in number order, then the enable pairs. -/
def fnEvalAll (s : Block) : Block := pairEval (safNums.foldl (fun s f => fnEval f s) s)

/-- MASKED of every function whose mask names one outlet alone follows that outlet's bypass (R91, R399). -/
def refreshMasks (s : Block) : Block :=
  safNums.foldl (fun s f =>
    match fnSingle f s with
    | none => s
    | some n =>
      let m := s.svcOf n == 3 && (s.fn f).st != .unused
      if (s.fn f).masked == m then s
      else raise 177 (b2n m * 256 + (n - 1) * 4096 + f) (updFn f (fun x => { x with masked := m }) s)) s

/-- Every function starts in DEMAND (Table 13-3, first row), with the reaction of R400 on the outlets it names. -/
def fnStartAll (s : Block) : Block :=
  let s1 := safNums.foldl (fun s f =>
    let st := if s.fnKind f == 0 then FnState.unused else .demand
    updFn f (fun _ => { SafFn.reset with st, at_ := s.sys.mtime }) s) s
  let s2 := refreshMasks s1
  pairEval (safNums.foldl (fun s f => if (s.fn f).st == .demand then reactOutlets f s else s) s2)

/-! ### Two hands (R397) -/

/-- The actuation of a TWOHAND function after a change of an input. -/
def twoHand (f : Nat) (s : Block) : Block :=
  if s.fnKind f != 4 then s
  else
    let x := s.fn f
    let h1 := inHealthy (psFn s.saf.pset f 1) s
    let h2 := inHealthy (psFn s.saf.pset f 2) s
    let rel := (s.fnInputs f).all fun k => inDemanding k s
    if h1 && h2 then
      if x.act || !x.bothRel then s
      else if (match x.firstAt with | none => true | some t => s.sys.mtime ≤ t + 500) then
        raise 173 (256 + f) (updFn f (fun x => { x with act := true, bothRel := false, firstAt := none }) s)
      else raise 173 (512 + f) (updFn f (fun x => { x with bothRel := false, firstAt := none }) s)
    else updFn f (fun x => { x with
      act := false
      bothRel := x.bothRel || rel
      firstAt := if h1 || h2 then (if x.firstAt.isSome then x.firstAt else some s.sys.mtime) else none }) s

/-- What follows a change of filtered channel values: the release seen for R393, two-hand actuation, the functions. -/
def inputsChanged (s : Block) : Block :=
  let s1 := safNums.foldl (fun s k =>
    updIn k (fun i => { i with relSeen := i.relSeen || inDemanding k s }) s) s
  fnEvalAll (safNums.foldl (fun s f => twoHand f s) s1)

/-- VDD_IO below its limit: every channel reads 0, and cause 6 latches on every input in use (R393). -/
def vddioLost (s : Block) : Block :=
  let s1 := safNums.foldl (fun s k =>
    updIn k (fun i => { i with rawA := false, rawB := false, fA := false, fB := false }) s) s
  inputsChanged (safNums.foldl (fun s k =>
    if s.inType k == 0 then s else latchInput k 6 true (s.inType k != 4) s) s1)

/-! ### Rows -/

/-- The filtered channels of input k disagree: A and B differ, or on type 2 are equal (R392). -/
def inDiffers (k : Nat) (s : Block) : Bool :=
  let i := s.sin k
  match s.inType k with
  | 1 | 3 => i.fA != i.fB
  | 2 => i.fA == i.fB
  | _ => false

/-- The times from which the healthy state and a disagreement of input k count, after a change from `old`. -/
def inTimes (k : Nat) (old s : Block) : Block :=
  updIn k (fun i => { i with
    since := if inHealthy k s && !inHealthy k old then s.sys.mtime else i.since
    diffAt := if inDiffers k s && !inDiffers k old then s.sys.mtime else i.diffAt }) s

/-- `SAFETY_INPUT_CHANGE` (R392): a channel's filter accepts a value. -/
def execSafetyInputChange (input : Nat) (chanB value : Bool) (s : State) : Out :=
  act (fun b =>
    if b.pwr.anvilDown || !safOk input || b.inType input == 0 || (chanB && b.inType input == 4) ||
        (value && !b.pwr.vddioOk) then b
    else
      let b1 := updIn input (fun i => if chanB then { i with rawB := value, fB := value }
                                      else { i with rawA := value, fA := value }) b
      inputsChanged (inTimes input b b1)) s

/-- Channel of input k is sourced from a test-pulse output (R391). -/
def sourced (k : Nat) (chanB : Bool) (s : Block) : Bool :=
  let t := s.inType k
  let src := psIn s.saf.pset k (if chanB then 2 else 1)
  (t == 1 || t == 2 || (t == 4 && !chanB)) && src != 0 && psTpo s.saf.pset src == 1

/-- One cycle's check of one channel: a second failure in a row latches its cause (R391). -/
def pulseCheck (missed foreign : List (Nat × Bool)) (k : Nat) (chanB : Bool) (s : Block) : Block :=
  let i := s.sin k
  let on := sourced k chanB s && (if chanB then i.fB else i.fA)
  let m := if on && missed.contains (k, chanB) then (if chanB then i.missB else i.missA) + 1 else 0
  let x := if on && foreign.contains (k, chanB) then (if chanB then i.crossB else i.crossA) + 1 else 0
  let s1 := updIn k (fun i => if chanB then { i with missB := m, crossB := x } else { i with missA := m, crossA := x }) s
  if m == 2 then latchInput k 1 (!chanB) chanB s1
  else if x == 2 then latchInput k 2 (!chanB) chanB s1
  else s1

/-- Readback of the outputs of a pair that is on: a second disagreement in a row latches cause 5 on the pair (R394). -/
def readbackCheck (readback k : Nat) (s : Block) : Block :=
  let p := (k + 1) / 2
  let miss := if bit s.saf.pairs (p - 1) && bit readback (k - 1) then tget s.saf.tpoMiss (k - 1) + 1 else 0
  let s1 := { s with saf.tpoMiss := tput s.saf.tpoMiss (k - 1) miss }
  if miss == 2 && !pairFaulted p s then
    safFault 4 p 5 (raise 176 p { s1 with saf.tpoFault := setBit s1.saf.tpoFault (k - 1) })
  else s1

/-- `TEST_PULSE_CYCLE` (R391, R394): channels that missed their own pulse or read a foreign one in this 8 ms cycle, and
outputs (bit k − 1 for TPOk) whose readback disagrees. -/
def execTestPulseCycle (missedOwn foreign : List (Nat × Bool)) (readback : Nat) (s : State) : Out :=
  act (fun b =>
    if b.pwr.anvilDown then b else
    let b1 := safNums.foldl (fun s k => pulseCheck missedOwn foreign k true (pulseCheck missedOwn foreign k false s)) b
    let b2 := countSelfTest 3 (b1.saf.cntFault != b.saf.cntFault) b1
    let b3 := (upto 1 8).foldl (fun s k => readbackCheck readback k s) b2
    fnEvalAll (countSelfTest 4 (b3.saf.cntFault != b2.saf.cntFault) b3)) s

/-- The function is healthy (R398): its inputs healthy, or a TWOHAND function actuated. -/
def fnHealthy (f : Nat) (s : Block) : Bool := !fnDemandNow f s && !fnFaulted f s

/-- MTIME since which every input of the function has been healthy. -/
def fnSince (f : Nat) (s : Block) : Nat := (s.fnInputs f).foldl (fun m k => max m (s.sin k).since) 0

/-- The functions that wait for the reset act of an input, each back to SATISFIED. -/
def resetAct (input : Nat) (s : Block) : Block :=
  safNums.foldl (fun s f =>
    if s.fnKind f != 0 && psFn s.saf.pset f 3 == input && (s.fn f).st == .waitReset && fnHealthy f s then
      fnSatisfy f (raise 172 (input * 65536 + 256 + f) s)
    else s) s

/-- `SAFETY_RESET_ACT` (R398): the trailing edge of a reset input that was healthy for `heldMs`. -/
def execSafetyResetAct (input heldMs : Nat) (s : State) : Out :=
  act (fun b =>
    if safOk input && b.inType input == 4 && !b.pwr.anvilDown &&
        safNums.any (fun f => b.fnKind f != 0 && psFn b.saf.pset f 3 == input) then
      let b1 := updIn input (fun i => { i with rawA := false, fA := false }) b
      if 100 ≤ heldMs && heldMs ≤ 3000 then resetAct input b1
      else raise 172 (input * 65536 + 0xFF) b1
    else b) s

/-! ### Registers (Tables 13-9, 13-10) -/

/-- Every contact input of ESTOP, GUARD and TWOHAND is sourced from two different TPOs (R407). -/
def cat4 (s : Block) : Bool :=
  safNums.all fun f => !(s.fnKind f == 1 || s.fnKind f == 2 || s.fnKind f == 4) ||
    (s.fnInputs f).all fun k =>
      psIn s.saf.pset k 1 != 0 && psIn s.saf.pset k 2 != 0 && psIn s.saf.pset k 1 != psIn s.saf.pset k 2

/-- SHA-512 of the applied set as bytes (R405). -/
def psetHash (p : List Byte) : List Byte := sha512 p

def safGlobal (i : Nat) (s : Block) : Word :=
  let a := s.saf
  match i with
  | 0 => reg [fld 31 30 a.pstate, fld 29 29 (b2n (cat4 s)), fld 28 28 (b2n (allDemanded s)),
              maskOf (safNums.filter fun f => s.fnKind f != 0)]
  | 1 => w32 (u32At a.pset 4)
  | 2 => w32 (u32At a.pset 8)
  | 3 => reg [fld 27 16 (maskOf ((outlets.filter fun n => underDemand n s).map fun n => n - 1)),
              maskOf (safNums.filter fun f => (s.fn f).st != .unused && (s.fn f).st != .satisfied)]
  | 4 => reg [fld 31 16 (maskOf (safNums.filter fun k => (s.sin k).faultB)),
              maskOf (safNums.filter fun k => (s.sin k).faultA)]
  | 5 => reg (safNums.map fun k => b2n (s.sin k).rawA * 2 ^ (2 * k) + b2n (s.sin k).rawB * 2 ^ (2 * k + 1))
  | 6 => reg (safNums.map fun k => b2n (s.sin k).fA * 2 ^ (2 * k) + b2n (s.sin k).fB * 2 ^ (2 * k + 1))
  | 7 => reg (fld 23 16 a.tpoFault :: (upto 1 8).map fun k => fld (2 * k - 1) (2 * k - 2) (psTpo a.pset k))
  | 8 => w32 a.pairs
  | 9 => w32 a.cntDemand
  | 10 => w32 a.cntFault
  | 11 => reg [fld 23 16 a.lastDetail, fld 15 8 a.lastIndex, fld 7 0 a.lastType]
  | 12 => lo32 a.lastAt
  | 13 => hi32 a.lastAt
  | 14 => w32 (u32At (psetHash a.pset) 0)
  | _ => w32 (u32At (psetHash a.pset) 4)

def safInWord (k : Nat) (s : Block) : Word :=
  let p := s.saf.pset
  reg [fld 31 29 (psIn p k 0), fld 28 25 (psIn p k 1), fld 24 21 (psIn p k 2), fld 18 16 (s.sin k).fcause,
       fld 15 8 (psIn p k 3), fld 0 0 (b2n (inHealthy k s))]

def safFnCfg (f : Nat) (s : Block) : Word :=
  let p := s.saf.pset
  let auto := psFn p f 3 == 0xFF
  reg [fld 31 28 (psFn p f 0), fld 27 24 (psFn p f 1), fld 23 20 (psFn p f 2),
       fld 19 16 (if auto then 0 else psFn p f 3), fld 15 15 (b2n auto), fld 14 12 (psFn p f 6), fld 11 0 (s.fnMask f)]

def safFnStat (f : Nat) (s : Block) : Word :=
  let x := s.fn f
  let e := s.fnEdm f
  reg [fld 31 29 x.st.code, fld 28 28 (b2n x.masked), fld 27 24 (if e == 0xFF then 0 else e), fld 23 23 (b2n (e != 0xFF)),
       fld 15 0 (min (s.sys.mtime - x.at_) 65535)]

/-- SAF block reads, by offset from 0x2C_0000. -/
def rdSaf (a : Nat) (s : Block) : Option Word :=
  if a < 0x40 then some (safGlobal (a / 4) s)
  else if 0x100 ≤ a && a < 0x140 then some (safInWord ((a - 0x100) / 4) s)
  else if 0x200 ≤ a && a < 0x280 then
    some (if a % 8 == 0 then safFnCfg ((a - 0x200) / 8) s else safFnStat ((a - 0x200) / 8) s)
  else none

/-! ### Parameter-set checks (R404) -/

/-- The ranges of Table 13-5a for input k. -/
def psInOk (p : List Byte) (k : Nat) : Bool :=
  let t := psIn p k 0
  let b := psIn p k 2
  let disc := u16At p (16 + 8 * k + 4)
  t ≤ 4 && psIn p k 1 ≤ 8 && b ≤ 8 && !((t == 3 || t == 4) && b != 0) &&
    3 ≤ psIn p k 3 && psIn p k 3 ≤ 10 && 50 ≤ disc && disc ≤ 2000 && u16At p (16 + 8 * k + 6) == 0

/-- A channel's source is static, or an output in mode 1; A and B of one input have different outputs (R404). -/
def psSrcOk (p : List Byte) (k : Nat) : Bool :=
  let a := psIn p k 1
  let b := psIn p k 2
  (a == 0 || psTpo p a == 1) && (b == 0 || psTpo p b == 1) && (a == 0 || a != b)

/-- The ranges of Table 13-5a for function f. -/
def psFnOk (p : List Byte) (f : Nat) : Bool :=
  let kind := psFn p f 0
  let tedm := u16At p (160 + 16 * f + 8)
  kind ≤ 4 && psFn p f 1 ≤ 15 && psFn p f 2 ≤ 15 && (kind == 4 || psFn p f 2 == 0) &&
    (psFn p f 3 == 0xFF || psFn p f 3 ≤ 15) && psMask p f < 4096 && psFn p f 6 ≤ 4 &&
    (psFn p f 7 == 0xFF || psFn p f 7 ≤ 15) && 50 ≤ tedm && tedm ≤ 1000 && allZero (bytesAt p (160 + 16 * f + 10) 6)

/-- Inputs of a function of the set. -/
def psInputs (p : List Byte) (f : Nat) : List Nat :=
  if psFn p f 0 == 4 then [psFn p f 1, psFn p f 2] else [psFn p f 1]

/-- Types, resets, pairs and masks of function f (R404, Table 13-2). -/
def psFnWired (p : List Byte) (fitted : Nat → Bool) (f : Nat) : Bool :=
  let kind := psFn p f 0
  let ty := fun k => psIn p k 0
  let rst := psFn p f 3
  let pair := psFn p f 6
  let edm := psFn p f 7
  kind == 0 ||
    ((psInputs p f).all (fun k =>
        if kind == 3 then ty k == 3 else if kind == 4 then ty k == 2 else ty k == 1 || ty k == 2) &&
      (rst == 0xFF || ty rst == 4) && (edm == 0xFF || ty edm == 1 || ty edm == 4) &&
      !(kind == 1 && rst == 0xFF) && !(kind == 4 && rst != 0xFF) &&
      (pair == 0 || (psTpo p (2 * pair - 1) == 2 && psTpo p (2 * pair) == 2)) && !(edm != 0xFF && pair == 0) &&
      !(psMask p f == 0 && pair == 0) && outlets.all (fun n => !bit (psMask p f) (n - 1) || fitted n))

/-- The uses of inputs by used functions: input, role (0 IN, 1 RESET, 2 EDM), pair. -/
def psUses (p : List Byte) : List (Nat × Nat × Nat) :=
  (safNums.filter fun f => psFn p f 0 != 0).flatMap fun f =>
    (psInputs p f).map (fun k => (k, 0, 0)) ++
      (if psFn p f 3 == 0xFF then [] else [(psFn p f 3, 1, 0)]) ++
      (if psFn p f 7 == 0xFF then [] else [(psFn p f 7, 2, psFn p f 6)])

/-- Two uses may share an input: one reset input, or one EDM input of one pair (R404). -/
def psShare (a b : Nat × Nat × Nat) : Bool :=
  a.1 != b.1 || (a.2.1 == 1 && b.2.1 == 1) || (a.2.1 == 2 && b.2.1 == 2 && a.2.2 == b.2.2)

def psSharesOk : List (Nat × Nat × Nat) → Bool
  | [] => true
  | u :: r => r.all (psShare u) && psSharesOk r

/-- The set passes every check of R404 but the claims. -/
def psetOk (p : List Byte) (fitted : Nat → Bool) : Bool :=
  p.length == 416 && u16At p 0 == 0x0100 && u16At p 2 == 416 && u32At p 8 == crc32 (p.drop 16) && u32At p 12 == 0 &&
    safNums.all (fun k => psInOk p k && psSrcOk p k) && (upto 1 8).all (fun k => psTpo p k ≤ 2) &&
    allZero (bytesAt p 152 8) && safNums.all (fun f => psFnOk p f && psFnWired p fitted f) && psSharesOk (psUses p)

/-- The shared lands a set claims: resources 1 to 4 for TPO5 to TPO8 in use (R390). -/
def psetClaims (p : List Byte) : List Nat := ((upto 5 8).filter fun k => psTpo p k != 0).map fun k => k - 4

/-! ### Commands (Table 13-8) -/

def specSafStatus : CmdSpec where
  op := 0x0900
  role := .notMb0
  modes := mServed
  len := lenIs 0
  body := fun _ _ s => ok (wordBytes ((List.range 16).map fun i => safGlobal i s)) s

/-- `CMD_SAF_STATUS`. -/
def execCmdSafStatus (h : Req) (p : List Byte) (s : State) : Out := act (runCmd specSafStatus h p) s

def specSafPsetRead : CmdSpec where
  op := 0x0901
  role := .notMb0
  modes := mServed
  len := lenIs 8
  body := fun _ p s =>
    let o := u32At p 0
    let n := u16At p 4
    if 1 ≤ n && n ≤ 416 && o + n ≤ 416 then ok (bytesAt s.saf.pset o n) s else refuse stBadParam s

/-- `CMD_SAF_PSET_READ`. -/
def execCmdSafPsetRead (h : Req) (p : List Byte) (s : State) : Out := act (runCmd specSafPsetRead h p) s

def specSafPsetLoad : CmdSpec where
  op := 0x0902
  role := .mb1
  modes := mStandby
  len := fun p => 5 ≤ p.length && p.length ≤ 420
  body := fun r p s =>
    let o := u32At p 0
    let d := p.drop 4
    match s.saf.stage with
    | some (own, st) =>
      if own != r.mb then refuse stBusy s
      else if o % 4 != 0 || o + d.length > 416 then refuse stBadParam s
      else ok [] { s with saf.stage := some (own, putBytes st o d) }
    | none =>
      if o % 4 != 0 || o + d.length > 416 then refuse stBadParam s
      else ok [] { s with saf.stage := some (r.mb, putBytes [] o d) }

/-- `CMD_SAF_PSET_LOAD` (R405, R150). -/
def execCmdSafPsetLoad (h : Req) (p : List Byte) (s : State) : Out := act (runCmd specSafPsetLoad h p) s

/-- A set applied (R405): COMMITTED, written to the copy not written last (R403), `EV175`, every function in DEMAND. -/
def applyPset (set : List Byte) (s : Block) : Block :=
  fnStartAll (raise 175 (16777216 + u32At set 4 % 16777216)
    { s with saf := { s.saf with
      pset := set, pstate := 1, copies := tput s.saf.copies (1 - s.saf.newest) (some (set, 1)), newest := 1 - s.saf.newest } })

/-- A copy of the set as a start reads it: `none` where its CRC-32 does not hold over bytes 16 to 415. Each hit is a byte that
reads with some bits wrong. -/
def psetRead (hits : List (Nat × Nat)) (c : List Byte × Nat) : Option (List Byte × Nat) :=
  let b := hits.foldl (fun (l : List Byte) h => tupd l h.1 fun x => x ^^^ BitVec.ofNat 8 h.2) c.1
  if hits.isEmpty || crc32 (b.drop 16) == u32At b 8 then some (b, c.2) else none

/-- The copy that a start loads: of the valid ones, the one written last (R403). -/
def psetLoad (hits : List (Nat × Nat × Nat)) (s : Block) : Option (Nat × List Byte × Nat) :=
  let read := fun k => ((tget s.saf.copies k).bind fun c => psetRead ((hits.filter fun h => h.1 == k).map fun h => h.2) c).map
    fun c => (k, c)
  match read s.saf.newest with
  | some r => some r
  | none => read (1 - s.saf.newest)

def specSafPsetCommit : CmdSpec where
  op := 0x0903
  role := .mb1
  modes := mStandby
  len := lenIs 8
  body := fun _ p s =>
    let s0 := { s with saf.stage := none }
    match s.saf.stage with
    | none => refuse stBadParam s
    | some (_, st) =>
      let set := fixLen 416 st
      if !(psetOk set s.fitted && u32At p 0 == u32At set 8 && u32At p 4 == u32At set 4) then refuse stBadParam s0
      else
        let (good, s1) := claimAll 4 (psetClaims set) (if (psetClaims set).all fun r =>
          tget s0.pin.holder r == 0 || tget s0.pin.holder r == 4 then unclaim 4 s0 else s0)
        if good then ok [] (applyPset set s1) else refuse stResourceHeld s1

/-- `CMD_SAF_PSET_COMMIT` (R404, R405). -/
def execCmdSafPsetCommit (h : Req) (p : List Byte) (s : State) : Out := act (runCmd specSafPsetCommit h p) s

def specSafPsetConfirm : CmdSpec where
  op := 0x0904
  role := .mb1
  modes := mStandby
  len := lenIs 16
  body := fun _ p s =>
    if s.saf.pstate == 1 && u32At p 0 == u32At s.saf.pset 4 && bytesAt p 8 8 == (psetHash s.saf.pset).take 8 then
      ok [] (raise 175 (2 * 16777216 + u32At s.saf.pset 4 % 16777216) { s with saf := { s.saf with
        pstate := 2, copies := tput s.saf.copies s.saf.newest (some (s.saf.pset, 2)) } })
    else refuse stBadParam s

/-- `CMD_SAF_PSET_CONFIRM` (R405). -/
def execCmdSafPsetConfirm (h : Req) (p : List Byte) (s : State) : Out := act (runCmd specSafPsetConfirm h p) s

def specSafDemandTest : CmdSpec where
  op := 0x0980
  role := .notMb0
  modes := [.maintain, .commission]
  len := lenIs 4
  body := fun r p s =>
    let f := u8At p 0
    if !(f ≤ 15 && s.fnKind f != 0 && 100 ≤ u16At p 2 && u16At p 2 ≤ 10000) then refuse stBadParam s
    else if (s.fn f).test.isSome then refuse stBusy s
    else .accepted (fnEval f (updFn f (fun x => { x with test := some r, testEnd := s.sys.mtime + u16At p 2 }) s))

/-- `CMD_SAF_DEMAND_TEST`: a real demand of the function. -/
def execCmdSafDemandTest (h : Req) (p : List Byte) (s : State) : Out := act (runCmd specSafDemandTest h p) s

def specsSaf : List CmdSpec :=
  [specSafStatus, specSafPsetRead, specSafPsetLoad, specSafPsetCommit, specSafPsetConfirm, specSafDemandTest]

end Sys2Proof.Machine
end

