-- ==== Sys2Proof/Machine/Wave.lean ====
section
/-!
DEFINITION. The sine function in fixed point, for the synthetic samples of test injection (07 R219) and the DFT of the
harmonic quantities (08 Table 8-2). Results are scaled by 2⁴⁰.
-/

namespace Sys2Proof.Machine

/-- 1.0 and π/2 in this scale. -/
def fixOne : Int := 1099511627776
def halfPi : Int := 1727108826179

/-- sin x for 0 ≤ x ≤ π/2, by its power series to x²¹ (the rest is below 2⁻⁵⁰). -/
def sinQuarter (x : Int) : Int :=
  let x2 := x * x / fixOne
  x * ([21, 19, 17, 15, 13, 11, 9, 7, 5, 3].foldl (fun (a : Int) k => fixOne - x2 * a / fixOne / (k * (k - 1))) fixOne) / fixOne

/-- sin of `num / den` of a turn, and cos. -/
def sinTurn (num den : Nat) : Int :=
  let r := num % den * 4
  let x := Int.ofNat (r % den) * halfPi / Int.ofNat den
  let v := sinQuarter (if r / den % 2 == 1 then halfPi - x else x)
  if r / den ≥ 2 then -v else v
def cosTurn (num den : Nat) : Int := sinTurn (4 * num + den) (4 * den)

/-- The squared magnitude of bin m of the DFT of 1,024 points, scaled by 2⁸⁰. -/
def dftPower (m : Nat) (ys : List Int) : Nat :=
  let (_, a, b) := ys.foldl (fun (t : Nat × Int × Int) y =>
    (t.1 + 1, t.2.1 + y * cosTurn (m * t.1) 1024, t.2.2 + y * sinTurn (m * t.1) 1024)) (0, 0, 0)
  (a * a + b * b).toNat

end Sys2Proof.Machine
end

