-- ==== Sys2Proof/Machine/Energy.lean ====
section
/-!
DEFINITION. Energy quantities, accumulation, demand, pulse outputs, voltage events and the energy balance (08), and the
accumulator commits (02 R63, R64). The rows at a boundary call these operations; the rows and commands that belong to this
chapter alone stand at the end.
-/

namespace Sys2Proof.Machine

/-! ### Points in use (Tables 7-2, 7-5) -/

/-- Points 0 to 12. -/
def points : List Nat := List.range 13

/-- Field of point p's record in force (Table 7-5). -/
def Block.p8 (s : Block) (p o : Nat) : Nat := u8At (s.ptConf p) o
def Block.p32 (s : Block) (p o : Nat) : Nat := u32At (s.ptConf p) o
def Block.ifs (s : Block) (p : Nat) : Nat := s.p32 p 8
def Block.vfs (s : Block) (p : Nat) : Nat := s.p32 p 12
def Block.xfs (s : Block) (p : Nat) : Nat := s.p32 p 16

def Block.pt (s : Block) (p : Nat) : Point := tget s.asy.points p
def Block.pq (s : Block) (p : Nat) : PointQ := tget s.nrg.pq p
def Block.ch (s : Block) (p c : Nat) : Chan := tget (s.pt p).chans c
def updPt (p : Nat) (f : Point → Point) (s : Block) : Block := { s with asy.points := tupd s.asy.points p f }
def updPq (p : Nat) (f : PointQ → PointQ) (s : Block) : Block := { s with nrg.pq := tupd s.nrg.pq p f }
def updCh (p c : Nat) (f : Chan → Chan) (s : Block) : Block := updPt p (fun x => { x with chans := tupd x.chans c f }) s

/-- Phases in use, 0 to 2. -/
def phasesOf (p : Nat) (s : Block) : List Nat :=
  match s.ptType p with
  | 1 => [0, 1, 2]
  | 2 | 3 => [0]
  | _ => []

/-- Test injection runs on point p (R219). -/
def tinjOn (p : Nat) (s : Block) : Bool := bit s.asy.tinjCtrl 31 && bits s.asy.tinjCtrl 11 8 == p

/-- An in-use channel of the point is faulted (`ASY_PSTATp.FAULT`). -/
def pointFaulted (p : Nat) (s : Block) : Bool := (List.range 8).any fun c => chInUse p c s && (s.ch p c).faulted

/-- Modes in which metering and accumulation are live (Table 3-1). -/
def mMeter : List Mode :=
  [.standby, .service, .degraded, .maintain, .commission, .activate, .outage, .safestop]

/-- The Assay core is metering. -/
def metering (s : Block) : Bool := s.inMode mMeter && s.pwr.heldBy == .no && !s.pwr.assayDown

/-- A quotient of naturals rounded to the nearest, halves up. -/
def roundDiv (n d : Nat) : Nat := if d == 0 then 0 else (2 * n + d) / (2 * d)

/-- A quotient of an integer by a natural, its magnitude rounded to the nearest. -/
def roundDivI (n : Int) (d : Nat) : Int :=
  if n < 0 then -(Int.ofNat (roundDiv n.natAbs d)) else Int.ofNat (roundDiv n.natAbs d)

/-! ### Accumulation (R228–R231) -/

/-- The point's averaging time in ns: its last measured period, the nominal one where there is none, 20 ms on a DC point
(R229). -/
def avgNs (p : Nat) (s : Block) : Nat :=
  if s.ptType p == 3 then 20000000
  else if (s.pt p).period != 0 then (s.pt p).period
  else 1000000000 / max s.nomFreq 1

/-- The weighted sum of one product over the last `t` ns of samples: 100,000 per whole sample, the rest on the edge
sample (R229). -/
def winSum (t : Nat) (f : Prod → Int) (h : List Prod) : Int :=
  let n := t / 100000
  let whole := (h.take n).foldl (fun a x => a + f x) 0
  let edge := match h.drop n with
    | x :: _ => f x
    | [] => 0
  whole * 100000 + edge * Int.ofNat (t % 100000)

/-- Quadrant 0 to 3 of a pair (Table 8-1). -/
def quadOf (p q : Int) : Nat := if p ≥ 0 then (if q ≥ 0 then 0 else 3) else (if q ≥ 0 then 1 else 2)

/-- Units of 2⁻³² mWh that a mean of W / t sample-code products adds in 100 µs (R231): a full scale of mV and mA makes one
code product vfs × ifs / 2^46 µW, and 1 mWh is 3.6 × 10^10 µW × 100 µs. -/
def incOf (w scale t : Nat) : Nat := roundDiv (w * scale) (t * 16384 * 36000000000)

/-- The cycle Irms of a phase is below the starting limit (R230). On a DC point the mean of |I| over 20 ms counts. -/
def belowStart (p : Nat) (x : PhaseQ) (s : Block) : Bool :=
  if s.ptType p == 3 then
    let m := ((x.hist.take 200).foldl (fun (a : Int) (h : Prod) => a + h.q) 0).toNat
    m * 2000 * 10 < 9 * 8388608 * 200
  else x.irms * x.irms * 20000000000 < 81 * (s.ifs p * 1000) * (s.ifs p * 1000)

/-- The eight increments of one phase at one instant (Table 8-3). -/
def increments (p : Nat) (x : PhaseQ) (s : Block) : List Nat :=
  let t := avgNs p s
  let wp := winSum t (fun h => h.p) x.hist
  if s.ptType p == 3 then
    let i := incOf wp.natAbs (s.vfs p * s.xfs p) t
    if wp ≥ 0 then [i, 0, 0, 0, 0, 0, 0, 0] else [0, i, 0, 0, 0, 0, 0, 0]
  else
    let sc := s.vfs p * s.ifs p
    let wq := winSum t (fun h => h.q) x.hist
    let ws := isqrt ((winSum t (fun h => h.v2) x.hist).toNat * (winSum t (fun h => h.i2) x.hist).toNat)
    let ip := incOf wp.natAbs sc t
    let iq := incOf wq.natAbs sc t
    let is := incOf ws sc t
    let k := quadOf wp wq
    (if wp ≥ 0 then [ip, 0] else [0, ip]) ++ (List.range 4).map (fun j => if j == k then iq else 0) ++
      (if wp ≥ 0 then [is, 0] else [0, is])

/-- Sums of two lists of increments. -/
def addLists (a b : List Nat) : List Nat := (List.zip a b).map fun x => x.1 + x.2

/-! ### Pulse outputs (R243, R244) -/

/-- Field of pulse output k's record (Table 8-5). -/
def Block.pl8 (s : Block) (k o : Nat) : Nat := s.cfg8 0x0004 (96 + 8 * (k - 1) + o)
def Block.pulseOn (s : Block) (k : Nat) : Bool := bit (s.pl8 k 0) 7
def Block.pulseConst (s : Block) (k : Nat) : Nat := s.cfg32 0x0004 (96 + 8 * (k - 1) + 4)
def Block.pls (s : Block) (k : Nat) : Pulse := tget s.nrg.pulse (k - 1)
def updPls (k : Nat) (f : Pulse → Pulse) (s : Block) : Block := { s with nrg.pulse := tupd s.nrg.pulse (k - 1) f }

/-- The increments that output k counts among the eight of its point. -/
def pulseInc (qty : Nat) (inc : List Nat) : Nat :=
  if qty < 8 then tget inc qty else if qty == 8 then tget inc 2 + tget inc 3 else tget inc 4 + tget inc 5

/-- Energy counted on output k: impulses that fall due join the backlog. -/
def pulseCount (k e : Nat) (s : Block) : Block :=
  let x := s.pls k
  let a := x.acc + e * s.pulseConst k
  let unit := 1000000 * 4294967296
  let b := x.backlog + a / unit
  updPls k (fun x => { x with acc := a % unit, backlog := min b 65535, sat := x.sat || b > 65535 }) s

/-- Output k at a sample instant (Table 8-6): the rest elapses, an idle output emits the next impulse, then test impulses;
outputs are held inactive in OUTAGE, and while their point is under test injection (R244). `EV086` at a backlog of 1,000 and
at saturation. -/
def pulseStep (k : Nat) (was : Pulse) (s : Block) : Block :=
  let x := s.pls k
  let y := if x.active || x.rest > 1 || s.sys.mode == .outage || tinjOn (s.pl8 k 1) s then { x with rest := x.rest - 1 }
    else if x.backlog > 0 then { x with rest := 0, active := true, backlog := x.backlog - 1, cnt := (x.cnt + 1) % 4294967296 }
    else if x.test > 0 then { x with rest := 0, active := true, test := x.test - 1 }
    else { x with rest := 0 }
  let s1 := updPls k (fun _ => { y with warned := y.backlog ≥ 1000 || (y.warned && y.backlog > 0) }) s
  let s2 := if y.backlog ≥ 1000 && !was.warned then raise 86 k s1 else s1
  if y.sat && !was.sat then raise 86 (256 + k) s2 else s2

/-- The outputs go inactive at the power-fail warning (R244): an impulse under way ends, with its rest. -/
def pulsesOff (s : Block) : Block :=
  (upto 1 8).foldl (fun s k =>
    if (s.pls k).active then updPls k (fun x => { x with active := false, rest := 10 * s.pl8 k 2 }) s else s) s

/-- The pulse outputs at one sample instant, with the increments of the 13 points. -/
def pulses (incs : List (List Nat)) (s : Block) : Block :=
  (upto 1 8).foldl (fun s k =>
    if s.pulseOn k then
      pulseStep k (s.pls k) (pulseCount k (pulseInc (bits (s.pl8 k 0) 3 0) (tget incs (s.pl8 k 1))) s)
    else s) s

/-! ### Cycle quantities and direction (R226, R232, R233) -/

/-- µV or µA of the square root of a mean of squared codes. -/
def rmsOf (sum : Int) (n scale : Nat) : Nat :=
  isqrt (sum.toNat * (scale * 1000) * (scale * 1000) / (max n 1 * 70368744177664))

/-- µW of a mean product of codes. -/
def powerOf (sum : Int) (n vs is : Nat) : Int := roundDivI (sum * Int.ofNat (vs * is)) (max n 1 * 70368744177664)

/-- µV or µA of a mean of codes, as a magnitude (DC points). -/
def meanMag (sum : Int) (n scale : Nat) : Nat := roundDiv (sum.natAbs * scale * 1000) (max n 1 * 8388608)

/-- One phase at the point's B-CYC. -/
def cyclePhase (p : Nat) (s : Block) (x : PhaseQ) : PhaseQ :=
  let r := x.run
  let n := x.runN
  if n == 0 then x
  else if s.ptType p == 3 then { x with
    urms := meanMag r.v2 n (s.vfs p), irms := meanMag r.i2 n (s.xfs p), p := powerOf r.p n (s.vfs p) (s.xfs p)
    q := 0, s := 0, run := ⟨0, 0, 0, 0⟩, runN := 0 }
  else
    let u := rmsOf r.v2 n (s.vfs p)
    let i := rmsOf r.i2 n (s.ifs p)
    { x with
      urms := u, irms := i, p := powerOf r.p n (s.vfs p) (s.ifs p), q := powerOf r.q n (s.vfs p) (s.ifs p)
      s := u * i / 1000000, run := ⟨0, 0, 0, 0⟩, runN := 0 }

/-- P, Q and S of the point in µW, µvar, µVA (Table 8-2). -/
def pointP (p : Nat) (s : Block) : Int := (s.pq p).ph.foldl (fun a x => a + x.p) 0
def pointQ (p : Nat) (s : Block) : Int := (s.pq p).ph.foldl (fun a x => a + x.q) 0
def pointS (p : Nat) (s : Block) : Nat := (s.pq p).ph.foldl (fun a x => a + x.s) 0

/-- Outlet n is bidirectional (Table 10-1 DIR). -/
def Block.bidir (s : Block) (n : Nat) : Bool := s.o8 n 1 == 1

/-- The direction of a point after its cycle P is known (R232, R233). -/
def cycleDir (p : Nat) (s : Block) : Block :=
  let x := s.pq p
  let w := pointP p s
  let th : Int := Int.ofNat (s.cfg16 0x0004 2) * 1000000
  let d := if w > th then 1 else if w < -th then 2 else x.dir
  let run := if d == x.dir then x.dirRun + 1 else 1
  let s1 := updPq p (fun x => { x with dir := d, dirRun := run }) s
  if d == 0 || run != 5 then s1
  else
    let rev := x.estab != 0 && x.estab != d
    let s2 := updPq p (fun x => { x with estab := d, rev := if rev then (x.rev + 1) % 4294967296 else x.rev }) s1
    let s3 := if rev then raiseAs (tinjOn p s) 76 (p * 256 + d) s2 else s2
    if d == 2 && p != 0 && !s.bidir p then
      raiseAs (tinjOn p s) 87 (p * 256) (flagPoint p 6 (updPq p (fun x => { x with forbid := true }) s3))
    else s3

/-- THD, order 1 as an RMS value and orders 2 to 40 of a window of samples, newest first (Table 8-2). The DFT is of the 1,024
points resampled from it, of 10 cycles at 50 Hz or 12 at 60 Hz. -/
def harmonics (cycles scale : Nat) (win : List Int) : List Nat :=
  let ys := (List.range 1024).map fun k => Config.resample win k
  let m := (upto 1 40).map fun h => dftPower (cycles * h) ys
  let m1 := m.headD 0
  let rest := m.drop 1
  let rel := fun x => if m1 == 0 then 0 else min (isqrt (x * 100000000 / m1)) 65535
  [rel (rest.foldl (· + ·) 0), isqrt (2 * m1 * (scale * 1000) * (scale * 1000) / 89202980794122492566142873090593446023921664)] ++
    rest.map rel

/-- Whole cycles of a harmonic window. -/
def winCycles (s : Block) : Nat := if s.nomFreq == 60 then 12 else 10

/-- The harmonic window of an AC point at its B-CYC (Table 8-2). -/
def cycleHarmonics (p : Nat) (s : Block) : Block :=
  if s.ptType p == 3 then s
  else if (s.pq p).winCyc + 1 < winCycles s then updPq p (fun x => { x with winCyc := x.winCyc + 1 }) s
  else
    updPt p (fun x => { x with chans := (List.zip (List.range 8) x.chans).map fun y =>
      if y.1 != 3 && y.1 != 7 && chInUse p y.1 s then
        { y.2 with win := [], harm := harmonics (winCycles s) (if y.1 ≤ 2 then s.ifs p else s.vfs p) y.2.win }
      else { y.2 with win := [] } }) (updPq p (fun x => { x with winCyc := 0 }) s)

/-- The quantities of a point at its B-CYC: `ns` is the cycle's duration, none from the timer. -/
def cycleQuantities (p ns : Nat) (s : Block) : Block :=
  let s1 := updPq p (fun x => { x with
    ph := x.ph.map fun f => cyclePhase p s f
    inRms := rmsOf x.inRun ((x.ph.headD default).runN) (s.ifs p), inRun := 0
    cycs := if ns == 0 then x.cycs else match x.cycs with
      | (c, d) :: r => (c + 1, d + ns) :: r
      | [] => [(1, ns)] }) s
  let s2 := updPt p (fun x => { x with
    cyc := (x.cyc + 1) % 4294967296
    ovr := maskOf ((List.range 8).filter fun c => (tget x.chans c).runOvr)
    chans := x.chans.map fun c => { c with peak := c.runPeak, runPeak := 0, runOvr := false } }) s1
  cycleDir p (cycleHarmonics p s2)

/-! ### Voltage events (R245–R247) -/

def Block.sagth (s : Block) : Nat := s.cfg16 0x0004 4
def Block.swlth (s : Block) : Nat := s.cfg16 0x0004 6
def Block.intth (s : Block) : Nat := s.cfg16 0x0004 8
def Block.pqhyst (s : Block) : Nat := s.cfg16 0x0004 10

/-- Urms(1/2) compared with `th` in 0.1 % of UNOM: µV on the left, th × UNOM × 100 on the right. -/
def uBelow (p th : Nat) (x : PhaseQ) (s : Block) : Bool := x.u12 < th * s.unom p * 100
def uAbove (p th : Nat) (x : PhaseQ) (s : Block) : Bool := x.u12 > th * s.unom p * 100

/-- Urms(1/2) in 0.1 % of UNOM. -/
def uPermil (p : Nat) (x : PhaseQ) (s : Block) : Nat := x.u12 / max (s.unom p * 100) 1

/-- A voltage event's word (Table 8-10). -/
def pqWord (end_ : Bool) (p : Nat) (e : PqOpen) : Nat :=
  b2n end_ * 2147483648 + e.phases * 16777216 + min (e.ext / 10) 255 * 65536 + p * 256

/-- An ended event enters the log, unless it is synthetic (R245, R246). -/
def pqLog (kind p : Nat) (inc : Bool) (dur : Nat) (e : PqOpen) (s : Block) : Block :=
  if e.test then s
  else { s with nrg.pqLog := ({ kind, point := p, phases := e.phases, incomplete := inc, ext := e.ext, start := e.start
                                dur, wall := e.wall } :: s.nrg.pqLog).take 128 }

/-- One kind of event (1 sag, 2 swell, 3 interruption) after a half-cycle value: `now` the phases that meet the
condition, with their values; `starts` and `ends` as Table 8-7 gives them. -/
def pqEvent (kind p : Nat) (cur : Option PqOpen) (now : List (Nat × Nat)) (starts ends : Bool) (s : Block) :
    Option PqOpen × Block :=
  let mask := maskOf (now.map fun x => x.1)
  let worst := fun (l : List (Nat × Nat)) (e : Nat) => l.foldl (fun m x => if kind == 2 then max m x.2 else min m x.2) e
  match cur with
  | none =>
    if starts then
      let e : PqOpen := { start := s.sys.mtime, wall := s.wall, phases := mask, test := tinjOn p s
                          ext := worst now ((now.headD (0, 0)).2) }
      (some e, raiseAs e.test (77 + kind) (pqWord false p e) s)
    else (none, s)
  | some e =>
    let e := { e with phases := Nat.lor e.phases mask, ext := worst now e.ext }
    if ends then
      let s1 := pqLog kind p false (s.sys.mtime - e.start) e (raiseAs e.test (77 + kind) (pqWord true p e) s)
      (none, { s1 with nrg := { s1.nrg with
        sagCnt := if kind == 1 then inc32 s1.nrg.sagCnt else s1.nrg.sagCnt
        swlCnt := if kind == 2 then inc32 s1.nrg.swlCnt else s1.nrg.swlCnt
        intCnt := if kind == 3 then inc32 s1.nrg.intCnt else s1.nrg.intCnt } })
    else (some e, s)

/-- The three kinds of event of a point after a new value of `phase`. -/
def pqCheck (p phase : Nat) (s : Block) : Block :=
  let use := phasesOf p s
  let ph := fun k => tget (s.pq p).ph k
  let vals := fun (c : PhaseQ → Bool) => (use.filter fun k => c (ph k)).map fun k => (k, uPermil p (ph k) s)
  let low := fun x => uBelow p s.sagth x s
  let high := fun x => uAbove p s.swlth x s
  let dead := fun x => uBelow p s.intth x s
  let (a, s1) := pqEvent 1 p (s.pq p).sag (vals low) (low (ph phase))
    (use.all fun k => !uBelow p (s.sagth + s.pqhyst) (ph k) s) s
  let (b, s2) := pqEvent 2 p (s.pq p).swell (vals high) (high (ph phase))
    (use.all fun k => !uAbove p (s.swlth - s.pqhyst) (ph k) s) s1
  let (c, s3) := pqEvent 3 p (s.pq p).intr (vals dead) (use.all fun k => dead (ph k))
    (use.any fun k => !uBelow p (s.intth + s.pqhyst) (ph k) s) s2
  updPq p (fun x => { x with sag := a, swell := b, intr := c }) s3

/-! ### Demand (R238–R242) -/

/-- Subinterval length L in ms (R238). -/
def demL (s : Block) : Nat := s.cfg8 0x0004 0 * 60000 / max (s.cfg8 0x0004 1) 1

/-- A_IMP and A_EXP of every point, visible. -/
def impNow (s : Block) : List Nat := points.map fun p => tget (accVis p s) 0
def expNow (s : Block) : List Nat := points.map fun p => tget (accVis p s) 1

/-- The next end (R239): at least 1 s ahead, wall time a multiple of L. -/
def nextEnd (s : Block) : Nat :=
  let l : Int := Int.ofNat (max (demL s) 1)
  let w := s.wall + 1000
  let k := Int.fdiv (w + l - 1) l
  (k * l - s.sys.wallOfs).toNat

def scheduleEnd (s : Block) : Block := { s with nrg.dem.nextEnd := nextEnd s }

/-- Sliding demand in W over the held subintervals (R240): mWh × 3,600 / ms. -/
def slide (held : List SubInt) (f : SubInt → List Nat) (p : Nat) : Nat :=
  let e := held.foldl (fun a x => a + tget (f x) p) 0
  let d := held.foldl (fun a x => a + x.dur) 0
  e * 3600 / max d 1

/-- A maximum replaced for one point and direction: `EV085` (R240). -/
def demandMax (p : Nat) (ex : Bool) (w : Nat) (s : Block) : Block :=
  let d := s.nrg.dem
  if w ≤ tget (if ex then d.maxExp else d.maxImp) p then s
  else
    let s1 := if ex then { s with nrg.dem := { d with
        maxExp := tput d.maxExp p w, maxExpAt := tput d.maxExpAt p s.sys.mtime } }
      else { s with nrg.dem := { d with maxImp := tput d.maxImp p w, maxImpAt := tput d.maxImpAt p s.sys.mtime } }
    raise 85 (p * 256 + b2n ex) s1

/-- A subinterval end recorded at MTIME `t` (R240), `forced` where R242 flags it PARTIAL: energies, sliding demand, maxima,
`NRG_DEMSEQ`, `EV084`. -/
def demandEnd (t : Nat) (forced : Bool) (s : Block) : Block :=
  let d := s.nrg.dem
  let i := impNow s
  let e := expNow s
  let sub : SubInt := { dur := t - d.start, imp := (List.zip i d.imp0).map fun x => x.1 - x.2
                        exp := (List.zip e d.exp0).map fun x => x.1 - x.2 }
  let n := max (s.cfg8 0x0004 1) 1
  let held := (sub :: d.held).take n
  let part := forced || held.length < n || held.any fun x => x.dur != demL s
  let di := points.map fun p => slide held (fun x => x.imp) p
  let de := points.map fun p => slide held (fun x => x.exp) p
  let s1 := { s with nrg.dem := { d with
    seq := (d.seq + 1) % 4294967296, lastEnd := t, start := t, imp0 := i, exp0 := e, held, demImp := di, demExp := de
    partial_ := part } }
  let s2 := raise 84 s1.nrg.dem.seq s1
  if part then s2
  else points.foldl (fun s p => demandMax p true (tget de p) (demandMax p false (tget di p) s)) s2

/-- The end of R242 with the held subintervals dropped; the next one begins now. -/
def demandRestart (t : Nat) (s : Block) : Block :=
  let s1 := demandEnd t true s
  scheduleEnd { s1 with nrg.dem := { s1.nrg.dem with held := [], start := s1.sys.mtime } }

/-- Maxima cleared at a billing-period close (R240). -/
def demandClear (s : Block) : Block :=
  let z := List.replicate 13 0
  { s with nrg.dem := { s.nrg.dem with maxImp := z, maxExp := z, maxImpAt := z, maxExpAt := z } }

/-! ### Energy balance (R248–R252) -/

def BalSt.code : BalSt → Nat
  | .off => 0 | .filling => 1 | .running => 2 | .mismatch => 3 | .suspended => 4

/-- A balance state entered: `EV083` (Table 8-9). -/
def balGo (st : BalSt) (s : Block) : Block := raise 83 st.code { s with nrg.bal.st := st }

/-- FAULT in `ASY_PSTATp`: an in-use channel is faulted, or MP00 runs without a valid calibration record (07 R212, R215). -/
def ptFaultShown (p : Nat) (s : Block) : Bool := pointFaulted p s || (p == 0 && !s.asy.recOk)

/-- A suspension cause holds (R251). -/
def balCause (s : Block) : Bool := ptFaultShown 0 s || s.sys.mode == .commission

def dropBlocks (s : Block) : Block := { s with nrg.bal := { s.nrg.bal with blocks := [] } }

/-- The suspension causes evaluated (Table 8-9). -/
def balCheck (s : Block) : Block :=
  let st := s.nrg.bal.st
  if balCause s then
    if st == .filling || st == .running || st == .mismatch then balGo .suspended (dropBlocks s) else s
  else if st == .suspended && s.cfg8 0x0004 12 == 1 then balGo .filling s
  else s

/-- A whole-module reset, or a commit that carries section 0x0004 (Table 8-9). -/
def balConfigured (s : Block) : Block :=
  if s.cfg8 0x0004 12 == 0 then
    (if s.nrg.bal.st == .off then s else balGo .off (dropBlocks s))
  else if balCause s then
    (if s.nrg.bal.st == .suspended then s else balGo .suspended (dropBlocks s))
  else balGo .filling (dropBlocks s)

/-- Points in the balance: MP00 and outlets IN_SERVICE, OUT_OF_SERVICE or FAULTED (R248). -/
def balMembers (s : Block) : Nat :=
  maskOf (0 :: outlets.filter fun n => s.svcOf n == 1 || s.svcOf n == 2 || s.svcOf n == 4)

/-- The increase of accumulator q of point p since the block began, 2⁻³² units. -/
def balDelta (p q : Nat) (s : Block) : Int :=
  Int.ofNat (tget (tget s.nrg.accs p) q) - Int.ofNat (tget (tget s.nrg.bal.acc0 p) q)

/-- W × 1 s in units of 2⁻³² mWh. -/
def wattSecond (w : Nat) : Int := Int.ofNat (w * 4294967296 * 10 / 36)

/-- I²t of a phase over the block in µA² s from the sum of squared codes. -/
def i2tOf (p : Nat) (sum : Int) (s : Block) : Nat :=
  sum.toNat * (s.ifs p * 1000) * (s.ifs p * 1000) / (70368744177664 * 10000)

/-- The block that ends now, whose I²t `secondQuantities` has formed (Table 8-8). mΩ × µA² s is 10^-15 J; 1 mWh is 3.6 J. -/
def balBlock (s : Block) : Block60 :=
  let m := outlets.filter fun n => bit s.nrg.bal.members n
  let net := fun p => balDelta p 0 s - balDelta p 1 s
  let gro := fun p => balDelta p 0 s + balDelta p 1 s
  let lsOn := fun k => (tget s.lsw.ch (k - 1)).wasOn
  let pls := (upto 1 12).foldl (fun a k => if lsOn k then a + wattSecond (s.cfg16 0x0004 (24 + 2 * (k - 1))) else a) 0
  let dc := m.foldl (fun a n =>
    if s.isDc n then a + Int.tdiv (gro n * Int.ofNat (s.cfg16 0x0004 (48 + 4 * (n - 1)))) 10000 else a) 0
  let cab := m.foldl (fun a n =>
    if s.isDc n then a
    else
      let t := (s.pq n).ph.foldl (fun a x => a + x.i2t) 0
      a + t * s.cfg16 0x0004 (50 + 4 * (n - 1))) 0
  { site := net 0, gross := gro 0, out := m.foldl (fun a n => a + net n) 0
    aux := wattSecond (s.cfg32 0x0004 20) + pls, pls, dc
    cab := Int.ofNat (cab * 4294967296 / 3600000000000000) }

/-- The sum of one term over the held blocks, rounded to the nearest mWh (R250). -/
def balSum (f : Block60 → Int) (b : List Block60) : Int := roundDivI (b.foldl (fun a x => a + f x) 0) 4294967296

/-- One evaluation over 60 blocks (R250, Table 8-9). -/
def balEvaluate (s : Block) : Block :=
  let b := s.nrg.bal
  let es := balSum (fun x => x.site) b.blocks
  let eo := balSum (fun x => x.out) b.blocks
  let el := balSum (fun x => x.aux + x.dc + x.cab) b.blocks
  let g := balSum (fun x => x.gross) b.blocks
  let d := es - eo - el
  let tol := 1000 * s.cfg16 0x0004 14 + s.cfg16 0x0004 16 * g.toNat / 10000
  let bad := d.natAbs > tol
  let s1 := { s with nrg.bal := { b with
    eSite := es, eOut := eo, eLoss := el, d, tol, eAux := balSum (fun x => x.aux) b.blocks
    ePls := balSum (fun x => x.pls) b.blocks, eDc := balSum (fun x => x.dc) b.blocks
    eCab := balSum (fun x => x.cab) b.blocks, evals := inc32 b.evals, miss := if bad then inc32 b.miss else b.miss
    clean := if bad then 0 else b.clean + 1
    episode := if bad && b.st == .mismatch then b.episode + 1 else b.episode } }
  let s2 := if b.st == .filling then balGo .running s1 else s1
  if s2.nrg.bal.st == .running then
    if bad then
      let s3 := balGo .mismatch { s2 with nrg.bal := { s2.nrg.bal with first := s.sys.mtime, episode := 1, clean := 0 } }
      let s4 := raise 81 ((if d < 0 then 2147483648 else 0) + min (d.natAbs / 1000) 2147483647) s3
      tamper 13 2 0 { s4 with cru.tamOut := setBit s4.cru.tamOut 13 }
    else s2
  else if s2.nrg.bal.st == .mismatch && s2.nrg.bal.clean ≥ 60 then
    let s3 := balGo .running (raise 82 s2.nrg.bal.episode s2)
    { s3 with cru.tamOut := clrBit s3.cru.tamOut 13 }
  else s2

/-- The balance at a B-SEC: the block that ends, unless it began at no B-SEC (R248), an evaluation with 60 blocks held, and
the next block's membership. -/
def balSecond (s : Block) : Block :=
  let s0 := balCheck s
  let st := s0.nrg.bal.st
  let s1 := if st == .off || st == .suspended || !s0.nrg.bal.live then s0
    else
      let s1 := { s0 with nrg.bal.blocks := (balBlock s0 :: s0.nrg.bal.blocks).take 60 }
      if s1.nrg.bal.blocks.length == 60 then balEvaluate s1 else s1
  { s1 with
    nrg.bal.live := true
    nrg.bal.members := balMembers s1
    nrg.bal.acc0 := s1.nrg.accs
    lsw.ch := s1.lsw.ch.map fun c => { c with wasOn := c.st == .inrush || c.st == .on } }

/-! ### Other work of a B-SEC -/

/-- Frequency over the last 10 s and I²t of the second (Table 8-2). -/
def secondQuantities (s : Block) : Block :=
  points.foldl (fun s p =>
    let x := s.pq p
    let c := x.cycs.foldl (fun a y => a + y.1) 0
    let d := x.cycs.foldl (fun a y => a + y.2) 0
    updPq p (fun x => { x with
      freq := if s.ptType p == 1 || s.ptType p == 2 then (if d == 0 then 0 else c * 1000000000000 / d) else 0
      cycs := ((0, 0) :: x.cycs).take 10
      ph := x.ph.map fun f => { f with i2t := i2tOf p f.i2run s, i2run := 0 } }) s) s

/-! ### Commits (02 R63, R75) -/

/-- Commit types (R578). -/
def comPeriodic := 1
def comIngot := 2
def comAccum := 3
def comFinal := 4
def comFull := 5

/-- What every commit carries (R63). -/
def comBody (final : Option FinalRec) (s : Block) : ComBody :=
  { accs := s.nrg.accs, dem := s.nrg.dem, blocks := s.nrg.bal.blocks, mtime := s.sys.mtime, wallOfs := s.sys.wallOfs
    pp := s.bil.pp, saveAt := s.nrg.saveAt, final }

/-- What only a final or a full commit carries, from the state whose outputs it records (Table 2-8 steps 5 and 6). -/
def finalRec (pf : Option (Nat × Nat)) (s : Block) : FinalRec where
  pf
  outs := maskOf (((upto 1 16).filter fun k => (s.drv k).on).map (· - 1))
  ls := maskOf ((List.range s.lsw.ch.length).filter fun k =>
    let st := (tget s.lsw.ch k).st
    st == .inrush || st == .on)
  log := s.saf.log
  pq := points.flatMap fun p =>
    let x := s.pq p
    (x.sag.map fun e => (1, p, e)).toList ++ (x.swell.map fun e => (2, p, e)).toList ++ (x.intr.map fun e => (3, p, e)).toList
  ses := (s.out.o.map fun o => o.ses).filter fun e => e.metered
  units := s.bil.units

/-- A commit's body written to the three copies of the area that does not hold the newest valid commit (R63). -/
def comWrite (b : ComBody) (s : Block) : Block :=
  { s with coms := tupd s.coms (comNext s).1 fun x => { x with copies := threeOf b } }

/-- A commit of a type: body first, marker last (R63); a full one with the billing values (09 R267). -/
def commit (kind : Nat) (s : Block) : Block :=
  let (area, seq) := comNext s
  let f := if kind == comFull then some (finalRec none s) else none
  let s1 := markArea area seq s.sys.mtime kind (comWrite (comBody f s) s)
  if kind == comFull then saveBil s1 else s1

/-- The final commit begun (02 Table 2-8 steps 3 to 6): the area is written, its marker is not yet, so that the area is not
valid. -/
def finalOpen (f : FinalRec) (s : Block) : Block := comWrite (comBody (some f) s) s

/-- The final commit's marker written and the billing values (09 R267), with the MTIME of its accumulators (Table 2-8 step 7). -/
def finalMark (s : Block) : Block :=
  let (area, seq) := comNext s
  saveBil (markArea area seq s.nrg.tpf comFinal { s with pwr.finalDone := true })

/-- A periodic save with `NRG_SAVE` (R63, Table 8-12) and the closes of every driver (11 Table 11-18). -/
def periodicSave (s : Block) : Block := commit comPeriodic { s with
  nrg.saveAt := s.sys.mtime, alc.drivers := s.alc.drivers.map fun d => { d with saved := d.cnt } }

/-! ### Rows -/

/-- The site-voltage source of the power-fail warning is clear once every phase of MP00 in use has been at or above 80 % of
nominal for two half-cycles in a row (02 R62). -/
def siteSeen (point phase uV : Nat) (s : Block) : Block :=
  if point != 0 || !s.pwr.siteLoss then s
  else
    let good := tput s.pwr.siteGood phase (if uV ≥ s.unom 0 * 800000 then tget s.pwr.siteGood phase + 1 else 0)
    if (phasesOf 0 s).all fun k => tget good k ≥ 2 then { s with pwr.siteLoss := false, pwr.siteGood := [0, 0, 0] }
    else { s with pwr.siteGood := good }

/-- Urms(1/2) of a phase in µV: over the samples of the cycle of `ns` that ends now (Table 8-2). -/
def halfRms (p phase ns : Nat) (s : Block) : Nat :=
  let h := (tget (s.pq p).ph phase).hist.take (ns / 100000)
  rmsOf (h.foldl (fun a x => a + x.v2) 0) h.length (s.vfs p)

/-- `HALF_CYCLE_RMS` (R226, R245): a zero crossing of a phase's voltage ends a cycle of `cycleNs`. -/
def execHalfCycleRms (point phase cycleNs : Nat) (s : State) : Out :=
  act (fun b =>
    if pointOk point && (phasesOf point b).contains phase && b.ptType point != 3 && metering b then
      let u := halfRms point phase cycleNs b
      siteSeen point phase u (pqCheck point phase (updPq point (fun x => { x with
        ph := tupd x.ph phase fun f => { f with u12 := u } }) b))
    else b) s

/-- `PULSE_OUTPUT_END` (Table 8-6): the output goes inactive, and a test completes after its last impulse. -/
def execPulseOutputEnd (k : Nat) (s : State) : Out :=
  act (fun b =>
    if 1 ≤ k && k ≤ 8 && (b.pls k).active then
      let b1 := updPls k (fun x => { x with active := false, rest := 10 * b.pl8 k 2 }) b
      if (b.pls k).test == 0 then
        completeOpt (b.pls k).testCmd stOk [] (updPls k (fun x => { x with testCmd := none }) b1)
      else b1
    else b) s

/-! ### Registers (Tables 8-12 to 8-15) -/

/-- Fields of pulse output k (Table 8-14). -/
def pulseWord (k i : Nat) (s : Block) : Word :=
  let x := s.pls k
  match i with
  | 0 => reg [fld 31 31 (b2n (s.pulseOn k)), fld 30 30 (s.pl8 k 3 % 2), fld 23 16 (s.pl8 k 2), fld 11 8 (s.pl8 k 0 % 16),
              fld 3 0 (s.pl8 k 1)]
  | 1 => reg [fld 16 0 (s.pulseConst k)]
  | 2 => w32 x.cnt
  | _ => reg [fld 31 31 (b2n x.sat), fld 15 0 x.backlog]

def balStat (s : Block) : Word :=
  let b := s.nrg.bal
  reg [fld 31 29 b.st.code, fld 28 28 (b2n (b.d < 0)), fld 27 22 b.blocks.length, fld 12 0 b.members]

/-- Power factor of a point in 1/10,000 (Table 8-2). -/
def pfOf (p : Nat) (s : Block) : Nat :=
  if pointS p s == 0 || s.ptType p == 3 then 0 else min ((pointP p s).natAbs * 10000 / pointS p s) 10000

/-- Extreme of the event in progress; an interruption is shown before a sag, a sag before a swell. -/
def pqExtreme (x : PointQ) : Nat :=
  match x.intr, x.sag, x.swell with
  | some e, _, _ => e.ext
  | _, some e, _ => e.ext
  | _, _, some e => e.ext
  | _, _, _ => 0

/-- Words 0x40 to 0x6C of a point's instance (Table 8-15). -/
def nrgPoint (p a : Nat) (s : Block) : Option Word :=
  let x := s.pq p
  let d := s.nrg.dem
  let quad := fun k => (tget x.ph k).quad
  if a < 0x40 then
    let v := tget (accVis p s) (a / 8)
    some (if a % 8 == 0 then lo32 v else hi32 v)
  else match a with
    | 0x40 => some (w32 (tc 32 (satI32 (Int.tdiv (pointP p s) 1000000))))
    | 0x44 => some (w32 (tc 32 (satI32 (Int.tdiv (pointQ p s) 1000000))))
    | 0x48 => some (w32 (satU32 (pointS p s / 1000000)))
    | 0x4C => some (reg [fld 31 30 (if s.ptType p == 3 then 0 else quadOf (pointP p s) (pointQ p s)), fld 15 0 (pfOf p s)])
    | 0x50 => some (w32 x.freq)
    | 0x54 => some (reg [fld 31 30 x.dir, fld 29 29 (b2n x.forbid), fld 28 28 (b2n (tinjOn p s)),
        fld 27 27 (b2n ((phasesOf p s).any fun k => (tget x.ph k).start)), fld 9 8 (quad 0), fld 11 10 (quad 1),
        fld 13 12 (quad 2)])
    | 0x58 => some (reg [fld 31 31 (b2n x.sag.isSome), fld 30 30 (b2n x.swell.isSome), fld 29 29 (b2n x.intr.isSome),
        fld 15 0 (pqExtreme x)])
    | 0x5C => some (w32 x.rev)
    | 0x60 => some (w32 (tget d.demImp p))
    | 0x64 => some (w32 (tget d.demExp p))
    | 0x68 => some (w32 (tget d.maxImp p))
    | 0x6C => some (w32 (tget d.maxExp p))
    | _ => none

/-- NRG block reads, by offset from 0x18_0000. -/
def rdNrg (a : Nat) (s : Block) : Option Word :=
  let d := s.nrg.dem
  let b := s.nrg.bal
  let i32 := fun (v : Int) => some (w32 (tc 32 (satI32 v)))
  if 0x100 ≤ a && a < 0x180 then some (pulseWord ((a - 0x100) / 16 + 1) (a % 16 / 4) s)
  else if 0x1000 ≤ a && a < 0x1D00 then nrgPoint ((a - 0x1000) / 0x100) (a % 0x100) s
  else match a with
    | 0x00 => some (w32 (maskOf (points.filter fun p => tinjOn p s)))
    | 0x04 => some (lo32 s.nrg.saveAt)
    | 0x08 => some (hi32 s.nrg.saveAt)
    | 0x0C => some (w32 s.nrg.voteCnt)
    | 0x10 => some (w32 (s.cfg16 0x0004 2))
    | 0x20 => some (reg [fld 23 16 (s.cfg8 0x0004 0), fld 15 8 (s.cfg8 0x0004 1), fld 0 0 (b2n d.partial_)])
    | 0x24 => some (w32 d.seq)
    | 0x28 => some (lo32 d.lastEnd)
    | 0x2C => some (hi32 d.lastEnd)
    | 0x30 => some (lo32 d.nextEnd)
    | 0x34 => some (hi32 d.nextEnd)
    | 0x40 => some (balStat s)
    | 0x44 => some (reg [fld 31 16 (s.cfg16 0x0004 16), fld 15 0 (s.cfg16 0x0004 14)])
    | 0x48 => some (w32 (s.cfg32 0x0004 20))
    | 0x4C => i32 b.eSite
    | 0x50 => i32 b.eOut
    | 0x54 => i32 b.eLoss
    | 0x58 => i32 b.d
    | 0x5C => some (w32 (satU32 b.tol))
    | 0x60 => some (w32 b.evals)
    | 0x64 => some (w32 b.miss)
    | 0x68 => some (lo32 b.first)
    | 0x6C => some (hi32 b.first)
    | 0x80 => some (reg [fld 31 16 s.swlth, fld 15 0 s.sagth])
    | 0x84 => some (reg [fld 31 16 s.pqhyst, fld 15 0 s.intth])
    | 0x88 => some (w32 s.nrg.sagCnt)
    | 0x8C => some (w32 s.nrg.swlCnt)
    | 0x90 => some (w32 s.nrg.intCnt)
    | _ => none

/-! ### Commands (Table 8-11) -/

def specNrgSnapshot : CmdSpec where
  op := 0x0400
  role := .general
  modes := mServed ++ [.zeroised]
  len := lenIs 0
  body := fun _ _ s =>
    ok (p64 s.sys.mtime ++ p32 s.asy.sampleCnt ++ zeros 4 ++ points.flatMap fun p => (accVis p s).flatMap p64) s

/-- `CMD_NRG_SNAPSHOT` (R234). -/
def execCmdNrgSnapshot (h : Req) (p : List Byte) (s : State) : Out := act (runCmd specNrgSnapshot h p) s

/-- One phase's 24 bytes. -/
def qtyPhase (x : PhaseQ) : List Byte :=
  p32 (satU32 x.urms) ++ p32 (satU32 x.irms) ++ pi32 (satI32 (Int.tdiv x.p 1000000)) ++
    pi32 (satI32 (Int.tdiv x.q 1000000)) ++ p32 (satU32 (x.s / 1000000)) ++ p32 (satU32 x.u12)

def specNrgQtyRead : CmdSpec where
  op := 0x0401
  role := .general
  modes := mServed
  len := lenIs 4
  body := fun _ p s =>
    let n := u8At p 0
    if !pointOk n then refuse stBadParam s
    else
      let x := s.pq n
      ok (p32 (b2n (tinjOn n s)) ++ p32 (satU32 x.inRms) ++ x.ph.flatMap qtyPhase ++ p32 x.freq ++ zeros 4) s

/-- `CMD_NRG_QTY_READ`. -/
def execCmdNrgQtyRead (h : Req) (p : List Byte) (s : State) : Out := act (runCmd specNrgQtyRead h p) s

def specNrgHarmRead : CmdSpec where
  op := 0x0402
  role := .general
  modes := mServed
  len := lenIs 4
  body := fun _ p s =>
    let n := u8At p 0
    let c := u8At p 1
    if !(pointOk n && s.ptType n != 3 && (c ≤ 2 || (4 ≤ c && c ≤ 6)) && chInUse n c s) then refuse stBadParam s
    else
      let h := (s.ch n c).harm
      ok (p32 (satU32 (tget h 1)) ++ p16 (tget h 0) ++ zeros 2 ++ (upto 2 40).flatMap (fun k => p16 (tget h k)) ++ zeros 2) s

/-- `CMD_NRG_HARM_READ`: the values of the last whole window. -/
def execCmdNrgHarmRead (h : Req) (p : List Byte) (s : State) : Out := act (runCmd specNrgHarmRead h p) s

def specNrgDemandRead : CmdSpec where
  op := 0x0403
  role := .general
  modes := mServed
  len := lenIs 4
  body := fun _ p s =>
    let n := u8At p 0
    let d := s.nrg.dem
    if !pointOk n then refuse stBadParam s
    else ok (p32 d.seq ++ p32 (b2n d.partial_) ++ p32 (tget d.demImp n) ++ p32 (tget d.demExp n) ++ p32 (tget d.maxImp n) ++
      p32 (tget d.maxExp n) ++ p64 (tget d.maxImpAt n) ++ p64 (tget d.maxExpAt n)) s

/-- `CMD_NRG_DEMAND_READ`. -/
def execCmdNrgDemandRead (h : Req) (p : List Byte) (s : State) : Out := act (runCmd specNrgDemandRead h p) s

/-- One 32-byte entry of the power-quality log. -/
def pqBytes (e : PqEntry) : List Byte :=
  p8 e.kind ++ p8 e.point ++ p8 e.phases ++ p8 (b2n e.incomplete) ++ p16 e.ext ++ zeros 2 ++ p64 e.start ++
    p32 (satU32 e.dur) ++ zeros 4 ++ pi64 e.wall

def specNrgPqRead : CmdSpec where
  op := 0x0404
  role := .general
  modes := mServed
  len := lenIs 4
  body := fun _ p s =>
    let first := u16At p 0
    let n := u16At p 2
    if first > 127 || n < 1 || n > 32 then refuse stBadParam s
    else
      let l := (s.nrg.pqLog.drop first).take n
      ok (p16 l.length ++ zeros 2 ++ l.flatMap pqBytes) s

/-- `CMD_NRG_PQ_READ`. -/
def execCmdNrgPqRead (h : Req) (p : List Byte) (s : State) : Out := act (runCmd specNrgPqRead h p) s

def specNrgBalRead : CmdSpec where
  op := 0x0405
  role := .general
  modes := mServed
  len := lenIs 0
  body := fun _ _ s =>
    let b := s.nrg.bal
    let v := fun (x : Int) => pi32 (satI32 x)
    ok (p32 (balStat s).toNat ++ v b.eSite ++ v b.eOut ++ v b.eLoss ++ v b.d ++ p32 (satU32 b.tol) ++ v b.eAux ++ v b.ePls ++
      v b.eDc ++ v b.eCab) s

/-- `CMD_NRG_BAL_READ`. -/
def execCmdNrgBalRead (h : Req) (p : List Byte) (s : State) : Out := act (runCmd specNrgBalRead h p) s

def specNrgPulseTest : CmdSpec where
  op := 0x0480
  role := .general
  modes := mCommission
  len := lenIs 4
  body := fun r p s =>
    let k := u8At p 0
    let n := u16At p 2
    if !(1 ≤ k && k ≤ 8 && 1 ≤ n && n ≤ 10000 && s.pulseOn k) then refuse stBadParam s
    else if (s.pls k).testCmd.isSome then refuse stBusy s
    else .accepted (updPls k (fun x => { x with test := n, testCmd := some r }) s)

/-- `CMD_NRG_PULSE_TEST`: the impulses follow at the sample instants and do not count. -/
def execCmdNrgPulseTest (h : Req) (p : List Byte) (s : State) : Out := act (runCmd specNrgPulseTest h p) s

def specsNrg : List CmdSpec :=
  [specNrgSnapshot, specNrgQtyRead, specNrgHarmRead, specNrgDemandRead, specNrgPqRead, specNrgBalRead, specNrgPulseTest]

end Sys2Proof.Machine
end

