-- ==== Sys2Proof/Machine/LoadSwitch.lean ====
section
/-!
DEFINITION. Load switches LS1 to LS12 (18): profiles, the channel states of Table 18-4, retries and the thermal latch,
pulse generators, diagnostics, stored schedules, registers and commands.
-/

namespace Sys2Proof.Machine

/-! ### Profiles (R518, R519) -/

/-- A profile record (Table 18-2). -/
def profBytes (slew limIn tin lim ttrip iol retries rwait : Nat) : List Byte :=
  p16 slew ++ p16 limIn ++ p16 tin ++ p16 lim ++ p16 ttrip ++ p16 iol ++ p8 retries ++ p8 0 ++ p16 rwait

/-- The record of a profile code, empty for a user profile not loaded (Table 18-1). -/
def profileOf (code : Nat) (s : Block) : List Byte :=
  match code with
  | 1 => profBytes 500 9000 50 3600 10 20 3 1
  | 2 => profBytes 2000 7500 500 3600 100 50 3 5
  | 3 => profBytes 5000 4500 2000 3300 50 100 2 10
  | 4 => profBytes 200 4500 100 3600 20 20 3 1
  | 5 => profBytes 20000 3000 1000 3600 10 0 1 30
  | _ => tget s.lsw.user (code - 6)

/-- Ranges of Table 18-2. -/
def profileOk (r : List Byte) : Bool :=
  let v := u16At r
  100 ≤ v 0 && v 0 ≤ 50000 && 500 ≤ v 2 && v 2 ≤ 12000 && v 4 ≤ 5000 && 200 ≤ v 6 && v 6 ≤ 3600 && 1 ≤ v 8 &&
    v 8 ≤ 1000 && v 10 ≤ 1000 && u8At r 12 ≤ 7 && u8At r 13 == 0 && 1 ≤ v 14 && v 14 ≤ 600

/-! ### Channels -/

def channels : List Nat := upto 1 12
def Block.ls (s : Block) (k : Nat) : LsChan := tget s.lsw.ch (k - 1)
def updLs (k : Nat) (f : LsChan → LsChan) (s : Block) : Block := { s with lsw.ch := tupd s.lsw.ch (k - 1) f }

/-- Field of channel k's record (Table 18-5). -/
def Block.l8 (s : Block) (k o : Nat) : Nat := s.cfg8 0x000D (16 + 12 * (k - 1) + o)
def Block.lsEn (s : Block) (k : Nat) : Bool := s.l8 k 0 == 1

/-- The mode runs load switches (Table 3-1). -/
def lsRuns (s : Block) : Bool := s.inMode [.standby, .service, .degraded, .maintain, .commission, .activate]

/-- The profile in use, the configured one before the first start. -/
def profInUse (k : Nat) (s : Block) : List Byte :=
  match (s.ls k).prof with
  | [] => profileOf (s.l8 k 1) s
  | p => p

/-- A state entered: `EV240` (R523). -/
def lsGo (k : Nat) (st : LsSt) (s : Block) : Block :=
  if (s.ls k).st == st then s else raise 240 (k * 256 + st.code) (updLs k (fun c => { c with st }) s)

/-- A start or restart with the configured profile (R518, R519); with TRIPPED 0, RCNT is that profile's RETRIES. -/
def lsStart (k : Nat) (s : Block) : Block :=
  let p := profileOf (s.l8 k 1) s
  lsGo k .inrush (updLs k (fun c => { c with
    prof := p, wasOn := true, startAt := s.sys.mtime, starts := (c.starts + 1) % 65536, rcnt := if c.tripped then c.rcnt else u8At p 12 }) s)

/-- `EV241` (R520). -/
def tripEvent (k peak cause : Nat) (s : Block) : Block :=
  raise 241 (min peak 255 * 16777216 + cause * 65536 + (s.ls k).rcnt * 256 + k) s

/-- LOCKOUT with `EV242` (Table 18-4). -/
def lsLockout (k : Nat) (s : Block) : Block :=
  raise 242 k (lsGo k .lockout { s with lsw.cntLock := inc32 s.lsw.cntLock })

/-- WAIT judged: a start that was never a restart, the restart after RWAIT, or LOCKOUT (R522, Table 18-4). -/
def lsWait (k : Nat) (s : Block) : Block :=
  let c := s.ls k
  if c.st != .wait || c.latch then s
  else if !c.tripped then (if c.req then lsStart k s else s)
  else if !c.waited then s
  else if c.rcnt == 0 then lsLockout k s
  else
    let s1 := updLs k (fun c => { c with rcnt := c.rcnt - 1 }) { s with lsw.cntRetry := inc32 s.lsw.cntRetry }
    tripEvent k 0 0 (lsStart k s1)

/-- An on or off request (R523, R526): a channel with EN 0 ignores it; LOCKOUT and SUSPENDED record it in REQ. -/
def lsRequest (k : Nat) (on : Bool) (s : Block) : Block :=
  if !s.lsEn k then s
  else
    let c := s.ls k
    let s1 := updLs k (fun c => { c with req := on }) s
    match c.st with
    | .lockout | .suspended => s1
    | .off =>
      if !on then s1
      else if !c.latch && !c.tripped then lsStart k s1
      else lsWait k (lsGo k .wait s1)
    | .inrush | .on | .wait => if on then s1 else lsGo k .off s1

/-- A trip (R520): the output off, TRIPPED, WAIT; RWAIT counts from now. -/
def lsTrip (k cause peak : Nat) (s : Block) : Block :=
  let c := s.ls k
  if c.st != .inrush && c.st != .on then s
  else
    let s1 := updLs k (fun c => { c with
      tripped := true, waited := false, tripAt := s.sys.mtime, cause, seen := setBit c.seen (cause - 1)
      trips := satInc 65535 c.trips, ipeak := min (peak * 100) 65535 }) { s with lsw.cntTrip := inc32 s.lsw.cntTrip }
    let s2 := match s1.lsw.test with
      | some t => if t.ch == k && t.cause == 0 then { s1 with lsw.test := some { t with cause } } else s1
      | none => s1
    lsGo k .wait (tripEvent k peak cause s2)

/-- Suspension of every enabled channel (Table 18-4). -/
def lsSuspend (s : Block) : Block :=
  channels.foldl (fun s k =>
    if !s.lsEn k || (s.ls k).st == .suspended then s
    else lsGo k .suspended (updLs k (fun c => { c with held := c.st, reqHeld := c.req, suspAt := s.sys.mtime }) s)) s

/-- One channel back in its held state; timers resume, and a request recorded meanwhile acts (Table 18-4). -/
def lsResumeOne (k : Nat) (s : Block) : Block :=
  let c := s.ls k
  if c.st != .suspended then s
  else
    let to_ := if c.held == .inrush || c.held == .on then LsSt.inrush else c.held
    let s1 := lsGo k to_ (updLs k (fun c => { c with
      tripAt := c.tripAt + (s.sys.mtime - c.suspAt), startAt := s.sys.mtime, wasOn := c.wasOn || to_ == .inrush }) s)
    if c.req != c.reqHeld then lsRequest k c.req s1 else s1

def lsResume (s : Block) : Block := channels.foldl (fun s k => lsResumeOne k s) s

/-- The channels after a mode change: off where the mode stops load switches, back where it runs them. -/
def lsSync (s : Block) : Block := if lsRuns s then lsResume s else lsSuspend s

/-! ### Pulse generators (R524) -/

/-- P in CLK_MOD clocks, 0 where the generator is off. -/
def pgPeriod (g : Nat) (s : Block) : Nat :=
  let f := tget s.lsw.freq (g - 1)
  if f == 0 then 0 else roundDiv 12500000 f

/-- Periods counted so far. -/
def pgCount (g : Nat) (s : Block) : Nat :=
  let p := pgPeriod g s
  let n := tget s.lsw.pgCnt (g - 1)
  if p == 0 then n else (n + (s.sys.mtime - tget s.lsw.pgAt (g - 1)) * 12500 / p) % 4294967296

/-- The clock of a generator's period at `x` / 256 of it, rounded down. -/
def pgEdge (p x : Nat) : Nat := x % 256 * p / 256

/-- A channel conducts in clock `t` of its generator's period (R524): in INRUSH fully; in ON with DUTY 256 or without a running
generator steadily, else from the edge that PHASE gives to the one DUTY later. -/
def lsConducts (k t : Nat) (s : Block) : Bool :=
  let c := s.ls k
  let p := if c.pgen == 0 then 0 else pgPeriod c.pgen s
  let on := pgEdge p (256 - c.phase)
  let off := pgEdge p (256 - c.phase + c.duty)
  match c.st with
  | .inrush => true
  | .on => p == 0 || c.duty == 256 || (if on < off then on ≤ t % p && t % p < off else on ≤ t % p || t % p < off)
  | _ => false

/-- FREQ of a generator changed. -/
def pgSet (g f : Nat) (s : Block) : Block :=
  if tget s.lsw.freq (g - 1) == f then s
  else
    let n := pgCount g s
    { s with lsw := { s.lsw with
      freq := tput s.lsw.freq (g - 1) f, pgCnt := tput s.lsw.pgCnt (g - 1) n
      pgAt := tput s.lsw.pgAt (g - 1) s.sys.mtime } }

/-- A configuration commit applied (R524, R529): generators and PWM as configured; a channel whose EN is 0 goes off. -/
def lsConfigured (s : Block) : Block :=
  let s1 := (upto 1 4).foldl (fun s g => pgSet g (s.cfg16 0x000D (4 + 2 * (g - 1))) s) s
  channels.foldl (fun s k =>
    let s1 := updLs k (fun c => { c with
      pgen := s.l8 k 2, phase := s.l8 k 3, duty := s.cfg16 0x000D (16 + 12 * (k - 1) + 4) }) s
    if s.lsEn k then s1 else lsGo k .off (updLs k (fun c => { c with req := false }) s1)) s1

/-! ### Schedules (R526, R527) -/

/-- Field of entry j. -/
def Block.e8 (s : Block) (j o : Nat) : Nat := s.cfg8 0x000D (160 + 8 * j + o)
def Block.e16 (s : Block) (j o : Nat) : Nat := s.cfg16 0x000D (160 + 8 * j + o)

/-- Stored schedules run: split bit 7 at 0, or the host silent (Table 1-7). -/
def schedRuns (s : Block) : Bool := !s.assisted 7

/-- Local minute MINUTE of a masked day lies after `m0`, up to `m1` (type 1). -/
def minuteReached (j m0 m1 : Nat) (s : Block) : Bool :=
  (List.range 8).any fun i =>
    let day := m1 / 1440 - i
    let k := day * 1440 + s.e16 j 4
    i ≤ m1 / 1440 && m0 < k && k ≤ m1 && bit (s.e8 j 6) (weekday day)

/-- An outlet of entry j's mask is ACTIVE (type 3). -/
def entryActive (j : Nat) (s : Block) : Bool := outlets.any fun n => bit (s.e16 j 4) (n - 1) && (s.ses n).st == .active

/-- Entry j requests on or off for its channels: `EV245`, and the requests wait for the next B-TICK. -/
def entryRequest (j : Nat) (on : Bool) (s : Block) : Block :=
  let ks := channels.filter fun k => bit (s.e16 j 2) (k - 1)
  raise 245 (j * 65536 + (if on then 1 else 2) * 256)
    { s with lsw := { s.lsw with
      lastEnt := j, cond := if s.e8 j 0 == 1 then s.lsw.cond else putBit s.lsw.cond j on
      due := s.lsw.due ++ ks.map fun k => (k, on) } }

/-- Entry j at a B-SEC; `first` at the first one of a running mode after a whole-module reset, `m0` the local minute last
seen. -/
def entrySecond (first : Bool) (m0 m1 : Nat) (j : Nat) (s0 : Block) : Block :=
  let s := if entryActive j s0 then { s0 with lsw.idleAt := tput s0.lsw.idleAt j s0.sys.mtime } else s0
  let was := bit s.lsw.cond j
  match s.e8 j 0 with
  | 1 => if !first && minuteReached j m0 m1 s then entryRequest j (s.e8 j 1 == 1) s else s
  | 2 =>
    let t := (tget s.asy.tsrc (s.e8 j 4)).t
    let ton := i8At (s.secBody 0x000D) (160 + 8 * j + 5) * 10
    let toff := i8At (s.secBody 0x000D) (160 + 8 * j + 6) * 10
    if first then entryRequest j (t ≥ ton) s
    else if !was && t ≥ ton then entryRequest j true s
    else if was && t ≤ toff then entryRequest j false s
    else s
  | 3 =>
    let now := entryActive j s
    if first then entryRequest j now s
    else if now && !was then entryRequest j true s
    else if was && s.sys.mtime ≥ tget s.lsw.idleAt j + 60000 then entryRequest j false s
    else s
  | _ => s

/-- INIT of every channel requested (R527). -/
def initRequests (s : Block) : Block :=
  { s with lsw.due := s.lsw.due ++ (channels.filter fun k => s.lsEn k).map fun k => (k, s.l8 k 7 == 1) }

/-- A channel's measured currents and junction, which the spec gives no number for; no current where the output is off. -/
def lsMeasureOne (k : Nat) (s : Block) : Block :=
  let (i, s1) := s.draw
  let (j, s2) := s1.draw
  let (t, s3) := s2.draw
  let live := (s.ls k).st == .inrush || (s.ls k).st == .on
  let mA := fun n => if live then (Config.freeWord n).toNat % 65536 else 0
  updLs k (fun c => { c with ipeak := mA i, imean := mA j, tj := sgn 16 (Config.freeWord t).toNat }) s3

/-- The measurements at a B-SEC (`LSW_CHk_CUR`, `LSW_CHk_TEMP`, `LSW_ITOTAL`). -/
def lsMeasure (s : Block) : Block :=
  let (n, s1) := (channels.foldl (fun s k => lsMeasureOne k s) s).draw
  let live := channels.any fun k => (s.ls k).st == .inrush || (s.ls k).st == .on
  { s1 with lsw.itPeak := if live then (Config.freeWord n).toNat % 65536 else 0 }

/-- The first B-SEC of a mode that runs load switches after a whole-module reset has come: INIT has been asked for (R527). -/
def lsOpened (s : Block) : Block := if lsRuns s then { s with lsw.schedInit := true } else s

/-- The schedules at a B-SEC (R527). They are Larkspur's work, so in hold-over the load switches keep their state (02 R57). -/
def lsSchedules (s : Block) : Block :=
  if bylithDown s then s else
  let m1 := localMinutes s.wall s
  let s1 := if !lsRuns s || !schedRuns s then lsOpened s
    else
      let first := !s.lsw.schedInit
      let s0 := if first then initRequests (lsOpened s) else s
      (List.range 16).foldl (fun s j => entrySecond first ((s0.lsw.lastMin).getD m1) m1 j s) s0
  { s1 with lsw.lastMin := some m1 }

/-- Load switches at a B-SEC: the power die measures, the schedules act. -/
def lsSecond (s : Block) : Block := lsSchedules (lsMeasure s)

/-- Requests that waited for the B-TICK, in order of arrival (R526). -/
def lsApplyDue (s : Block) : Block :=
  s.lsw.due.foldl (fun s r => lsRequest r.1 r.2 s) { s with lsw.due := [] }

/-! ### Rows -/

/-- `LSW_OVERCURRENT` (R518, R520): the steady phase of a channel. -/
def execLswOvercurrent (ch peakDA : Nat) (s : State) : Out :=
  act (fun b => if lsOk ch && (b.ls ch).st == .on then lsTrip ch 1 peakDA b else b) s

/-- `LSW_SHORT` (R520): any phase. -/
def execLswShort (ch peakDA : Nat) (s : State) : Out :=
  act (fun b => if lsOk ch then lsTrip ch 2 peakDA b else b) s

/-- `LSW_THERMAL_SET` (R521): the latch sets; a conducting channel trips. -/
def execLswThermalSet (ch peakDA : Nat) (tjDC : Int) (s : State) : Out :=
  act (fun b =>
    if b.pwr.heldBy == .no && lsOk ch && !(b.ls ch).latch then
      lsTrip ch 3 peakDA (raise 243 (256 + ch) (updLs ch (fun c => { c with latch := true, latchAt := b.sys.mtime, tj := tjDC }) b))
    else b) s

/-- Cause `c` found: CAUSE, SEEN, `EV244` (R520). -/
def lsFlag (k c : Nat) (s : Block) : Block :=
  raise 244 (c * 65536 + 256 + k)
    (updLs k (fun x => { x with flags := setBit x.flags c, cause := c, seen := setBit x.seen (c - 1) })
      { s with lsw.cntDiag := inc32 s.lsw.cntDiag })

/-- The result of a diagnostic pulse: two failures in a row are cause SWITCH (R525). -/
def diagResult (k : Nat) (pass : Bool) (s0 : Block) : Block :=
  let s := countSelfTest 5 (!pass) s0
  if pass then updLs k (fun c => { c with diagFail := 0 }) s
  else
    let s1 := updLs k (fun c => { c with diagFail := c.diagFail + 1 }) s
    if (s1.ls k).diagFail ≥ 2 then lsLockout k (lsFlag k 7 s1) else s1

/-- A test ended with its result (Table 18-8). -/
def lsTestDone (t : LsTest) (peak cause : Nat) (s : Block) : Block :=
  complete t.cmd stOk (p16 (min peak 65535) ++ p8 cause ++ p8 0) { s with lsw.test := none }

/-- `LSW_DIAG_PULSE` (R525): the periodic pulse of an OFF channel, or that of `CMD_LSW_TEST` OP 1, whose peak current is
a free value. -/
def execLswDiagPulse (ch : Nat) (pass : Bool) (s : State) : Out :=
  act (fun b =>
    if !lsOk ch || (b.ls ch).st != .off || !b.lsEn ch then b
    else match b.lsw.test with
      | some t =>
        if t.ch == ch && t.op == 1 then
          let (i, b1) := b.draw
          lsTestDone t ((Config.freeWord i).toNat % 65536) (if pass then 0 else 7) (diagResult ch pass b1)
        else b
      | none => if bit (b.l8 ch 6) 1 && b.cfg16 0x000D 0 != 0 && lsRuns b then diagResult ch pass b else b) s

/-- The condition of a flag can be judged on the channel now (Table 18-3, R525). -/
def flagLive (k c : Nat) (s : Block) : Bool :=
  let x := s.ls k
  let off := x.st == .off || x.st == .wait || x.st == .lockout
  s.lsEn k && lsRuns s &&
    (if c == 4 then x.st == .on && x.duty == 256 && u16At (profInUse k s) 10 != 0
     else if c == 5 then off && bit (s.l8 k 6) 0
     else c == 6 && off)

/-- `LSW_DIAG_FLAG` (R520, R525): a flag found or, after 1 s without its condition, cleared. -/
def execLswDiagFlag (ch cause : Nat) (found : Bool) (s : State) : Out :=
  act (fun b =>
    if !lsOk ch || cause < 4 || cause > 6 then b
    else if found then (if flagLive ch cause b && !bit (b.ls ch).flags cause then lsFlag ch cause b else b)
    else if bit (b.ls ch).flags cause then
      raise 244 (cause * 65536 + ch) (updLs ch (fun x => { x with flags := clrBit x.flags cause }) b)
    else b) s

/-! ### Registers (Tables 18-9, 18-10) -/

def lsMap (f : LsChan → Bool) (s : Block) : Nat := maskOf ((channels.filter fun k => f (s.ls k)).map fun k => k - 1)

def LsChan.live (c : LsChan) : Bool := c.st == .inrush || c.st == .on

def lswGlobal (i : Nat) (s : Block) : Word :=
  let l := s.lsw
  match i with
  | 0 => reg [fld 31 31 (b2n (bit s.split 7)), fld 30 30 (b2n (lsRuns s)), fld 29 29 (b2n (schedRuns s && lsRuns s))]
  | 1 => reg [fld 27 16 (lsMap (fun c => c.req) s), fld 11 0 (lsMap LsChan.live s)]
  | 2 => reg [fld 27 16 (lsMap (fun c => c.st == .lockout) s), fld 11 0 (lsMap (fun c => c.st == .wait) s)]
  | 3 => w32 (lsMap (fun c => c.latch) s)
  | 4 => w32 (lsMap (fun c => c.flags != 0) s)
  | 5 =>
    let mean := l.ch.foldl (fun a c => a + c.imean) 0
    reg [fld 31 16 l.itPeak, fld 15 0 (min mean 65535)]
  | 6 => w32 l.cntTrip
  | 7 => w32 l.cntRetry
  | 8 => w32 l.cntLock
  | 9 => w32 l.cntDiag
  | 10 => reg [fld 23 16 l.lastEnt, fld 15 0 (maskOf ((List.range 16).filter fun j => s.e8 j 0 != 0))]
  | _ => w32 (s.cfg16 0x000D 0)

/-- RWAIT remaining in 100 ms, and seconds in ON without a trip. -/
def lsRetry (k : Nat) (s : Block) : Word :=
  let c := s.ls k
  let due := c.tripAt + u16At (profInUse k s) 14 * 1000
  let t := if c.st == .suspended then c.suspAt else s.sys.mtime
  reg [fld 31 16 (if c.tripped && !c.waited then min ((due - t + 99) / 100) 65535 else 0),
       fld 15 0 (if c.st == .on then min ((s.sys.mtime - c.onAt) / 1000) 65535 else 0)]

def lswChan (k i : Nat) (s : Block) : Word :=
  let c := s.ls k
  match i with
  | 0 => reg [fld 31 31 (b2n (s.lsEn k)), fld 27 24 (s.l8 k 1), fld 17 16 (s.l8 k 6), fld 0 0 (s.l8 k 7)]
  | 1 => reg [fld 31 29 c.st.code, fld 28 28 (b2n c.req), fld 27 27 (b2n c.latch), fld 26 26 (b2n c.tripped),
              fld 23 16 c.cause, fld 10 8 c.rcnt]
  | 2 => reg [fld 31 16 c.ipeak, fld 15 0 c.imean]
  | 3 => reg [fld 15 0 (tc 16 c.tj)]
  | 4 => reg [fld 24 16 c.duty, fld 15 8 c.phase, fld 2 0 c.pgen]
  | 5 => lsRetry k s
  | 6 => w32 c.seen
  | _ => reg [fld 31 16 c.trips, fld 15 0 c.starts]

/-- LSW block reads, by offset from 0x40_0000 (R532). -/
def rdLsw (a : Nat) (s : Block) : Option Word :=
  if a < 0x30 then some (lswGlobal (a / 4) s)
  else if 0x40 ≤ a && a < 0x80 && a % 16 < 12 then
    let g := (a - 0x40) / 16 + 1
    some (if a % 16 == 0 then reg [fld 31 31 (b2n (pgPeriod g s != 0)), fld 20 0 (pgPeriod g s)]
          else if a % 16 == 4 then w32 (tget s.lsw.freq (g - 1)) else w32 (pgCount g s))
  else if 0x100 ≤ a && a < 0x280 then some (lswChan ((a - 0x100) / 32 + 1) (a % 32 / 4) s)
  else none

/-- LSW writes: only `LSW_CHk_FLT` is writable, W1C of causes no longer present. -/
def wrLsw (a v : Nat) (s : Block) : Wr :=
  if 0x100 ≤ a && a < 0x280 && a % 32 == 0x18 then
    .ok (updLs ((a - 0x100) / 32 + 1) (fun c => { c with seen := c.seen - Nat.land c.seen v }) s)
  else match rdLsw a s with
    | none => .berr
    | some _ => .ok s

/-! ### Commands (Table 18-8) -/

def specLswStatus : CmdSpec where
  op := 0x0E00
  role := .general
  modes := mServed
  len := lenIs 4
  body := fun _ p s =>
    if !lsOk (u8At p 0) then refuse stBadParam s
    else ok (wordBytes ((List.range 12).map fun i => lswGlobal i s) ++
      wordBytes ((List.range 8).map fun i => lswChan (u8At p 0) i s)) s

/-- `CMD_LSW_STATUS`. -/
def execCmdLswStatus (h : Req) (p : List Byte) (s : State) : Out := act (runCmd specLswStatus h p) s

/-- A mask of channels, each with EN 1. -/
def maskEnabled (m : Nat) (s : Block) : Bool := m < 4096 && channels.all fun k => !bit m (k - 1) || s.lsEn k

def specLswSet : CmdSpec where
  op := 0x0E01
  role := .general
  modes := mRun
  len := lenIs 4
  body := fun _ p s =>
    let on := u16At p 0
    let off := u16At p 2
    if !bit s.split 7 || Nat.land on off != 0 || !maskEnabled on s || !maskEnabled off s then refuse stBadParam s
    else ok [] (channels.foldl (fun s k =>
      if bit on (k - 1) then lsRequest k true s else if bit off (k - 1) then lsRequest k false s else s) s)

/-- `CMD_LSW_SET` (R526): applied at IMM. -/
def execCmdLswSet (h : Req) (p : List Byte) (s : State) : Out := act (runCmd specLswSet h p) s

def specLswPwmSet : CmdSpec where
  op := 0x0E02
  role := .general
  modes := mRun
  len := lenIs 8
  body := fun _ p s =>
    let k := u8At p 0
    let g := u8At p 1
    let d := u16At p 2
    let f := u16At p 6
    if !(lsOk k && g ≤ 4 && 1 ≤ d && d ≤ 256 && (f == 0 || (10 ≤ f && f ≤ 25000)) &&
        (g == 0 || f != 0 || tget s.lsw.freq (g - 1) != 0)) then refuse stBadParam s
    else
      let s1 := if g != 0 && f != 0 then pgSet g f s else s
      ok [] (updLs k (fun c => { c with pgen := g, duty := d, phase := u8At p 4 }) s1)

/-- `CMD_LSW_PWM_SET` (R524). -/
def execCmdLswPwmSet (h : Req) (p : List Byte) (s : State) : Out := act (runCmd specLswPwmSet h p) s

def specLswReset : CmdSpec where
  op := 0x0E03
  role := .general
  modes := [.standby, .service, .degraded, .maintain]
  len := lenIs 4
  body := fun _ p s =>
    let k := u8At p 0
    if !lsOk k || (s.ls k).st != .lockout || (s.ls k).latch then refuse stBadParam s
    else ok [] (lsGo k .off (updLs k (fun c => { c with
      rcnt := u8At (profInUse k s) 12, tripped := false, diagFail := 0, flags := clrBit c.flags 7 }) s))

/-- `CMD_LSW_RESET` (R522, Table 18-4). -/
def execCmdLswReset (h : Req) (p : List Byte) (s : State) : Out := act (runCmd specLswReset h p) s

def specLswProfileRead : CmdSpec where
  op := 0x0E04
  role := .general
  modes := mServed
  len := lenIs 4
  body := fun _ p s =>
    let n := u8At p 0
    if n < 1 || n > 9 || profileOf n s == [] then refuse stBadParam s else ok (profileOf n s) s

/-- `CMD_LSW_PROFILE_READ`. -/
def execCmdLswProfileRead (h : Req) (p : List Byte) (s : State) : Out := act (runCmd specLswProfileRead h p) s

def specLswProfileLoad : CmdSpec where
  op := 0x0E80
  role := .general
  modes := mStandby
  len := lenIs 20
  body := fun _ p s =>
    let n := u8At p 0
    let r := bytesAt p 4 16
    if n < 6 || n > 9 || !profileOk r ||
        channels.any (fun k => s.l8 k 1 == n && (s.ls k).st == .inrush) then refuse stBadParam s
    else ok [] { s with lsw.user := tput s.lsw.user (n - 6) r }

/-- `CMD_LSW_PROFILE_LOAD` (R519). -/
def execCmdLswProfileLoad (h : Req) (p : List Byte) (s : State) : Out := act (runCmd specLswProfileLoad h p) s

def specLswTest : CmdSpec where
  op := 0x0E81
  role := .general
  modes := mCommission
  len := lenIs 4
  body := fun r p s =>
    let k := u8At p 0
    let op := u8At p 1
    let d := u16At p 2
    if !(lsOk k && (op == 1 || (op == 2 && 100 ≤ d && d ≤ 60000)) && s.lsEn k && (s.ls k).st == .off) then
      refuse stBadParam s
    else if s.lsw.test.isSome then refuse stBusy s
    else
      let s1 := { s with lsw.test := some { ch := k, op, ends := s.sys.mtime + d, cause := 0, cmd := r } }
      .accepted (if op == 2 then lsRequest k true s1 else s1)

/-- `CMD_LSW_TEST`. -/
def execCmdLswTest (h : Req) (p : List Byte) (s : State) : Out := act (runCmd specLswTest h p) s

def specsLsw : List CmdSpec :=
  [specLswStatus, specLswSet, specLswPwmSet, specLswReset, specLswProfileRead, specLswProfileLoad, specLswTest]

end Sys2Proof.Machine
end

