-- ==== Sys2Proof/Machine/Display.lean ====
section
/-!
DEFINITION. The LED matrix and the bistable register display (17): starting, blanking and supervision of the matrix,
frames, cues, maps; the bistable display's update journal, its drives and re-drives; registers and commands.
-/

namespace Sys2Proof.Machine

/-- Bits set among the low `n` bits of a mask. -/
def countBits (m n : Nat) : Nat := ((List.range n).filter fun i => bit m i).length

def Block.d8 (s : Block) (o : Nat) : Nat := s.cfg8 0x000C o
def Block.men (s : Block) : Bool := s.d8 0 == 1
def Block.ben (s : Block) : Bool := s.d8 12 == 1

/-! ### Matrix: lit, blank, starting (R499–R501) -/

/-- The mode lights the matrix (R499). -/
def litMode (s : Block) : Bool :=
  s.inMode [.standby, .service, .degraded, .maintain, .commission, .activate] ||
    (s.sys.mode == .safestop && !bylithDown s)

/-- The blanking cause in the coding of `EV232`, 0 none (R501). -/
def disCause (s : Block) : Nat :=
  if s.pwr.pfw then 4
  else if !litMode s then 1
  else if bylithDown s then 3
  else if !s.pwr.vledOk then 2
  else if !s.men then 5
  else match s.dis.test with
    | some t => if t.op == 3 then 6 else 0
    | none => 0

/-- The matrix goes blank: `EV232` where it was lit. -/
def disBlank (cause : Nat) (s : Block) : Block :=
  let was := s.dis.mstate == 2
  let s1 := { s with dis := { s.dis with
    mstate := if s.men then 3 else 0, bcause := cause, glive := 0, sinks := []
    cntBlank := if was then inc32 s.dis.cntBlank else s.dis.cntBlank } }
  if was then raise 232 cause s1 else s1

/-- Lit: `EV232`, with the gain ramp of step 5. -/
def disLit (s : Block) : Block :=
  raise 232 256 { s with dis := { s.dis with mstate := 2, bcause := 0, ramp := 24, glive := 0 } }

/-- The matrix follows its blanking causes; a start after hold-over, a VLED fault or the warning begins at step 4 of
Table 17-2 (R500); after a test the matrix returns to its source. -/
def disSync (s : Block) : Block :=
  let c := disCause s
  if c != 0 then
    (if s.dis.mstate == 2 || s.dis.mstate == 1 || s.dis.bcause != c then disBlank c s else s)
  else if s.dis.mstate == 1 || s.dis.mstate == 2 then s
  else if s.dis.bcause == 6 then disLit s
  else
    let b := s.dis.bcause
    { s with dis := { s.dis with mstate := 1, bcause := 0, short := b == 2 || b == 3 || b == 4 } }

/-- A configuration commit restarts the matrix in full and sets `DIS_GAIN` to GDEF (R512). -/
def disConfigured (s : Block) : Block :=
  let s1 := disBlank 5 { s with dis.gain := s.d8 1 }
  disSync { s1 with dis.short := false }

/-! ### Supervision (R502) -/

def colEvent (c : Nat) (short latched : Bool) (s : Block) : Block :=
  raise 233 (b2n short * 512 + b2n latched * 256 + c) s

/-- A column's open or short latch made `v`. -/
def colLatch (c : Nat) (short v : Bool) (s : Block) : Block :=
  let d := s.dis
  let m := if short then d.colShort else d.colOpen
  if bit m c == v then s
  else
    let s1 := { s with dis := { d with
      colShort := if short then putBit m c v else d.colShort, colOpen := if short then d.colOpen else putBit m c v
      cntCol := if v then inc32 d.cntCol else d.cntCol } }
    colEvent c short v s1

/-- A row's latch made `v`. -/
def rowLatch (r : Nat) (v : Bool) (s : Block) : Block :=
  if (tget s.dis.rows r).latch == v then s
  else raise 234 (b2n v * 256 + r) { s with dis.rows := tupd s.dis.rows r fun x => { x with latch := v } }

/-- Every latch as the diagnostic frames find it (Table 17-2 step 3, `CMD_DIS_TEST` OP 3). -/
def disDiagnose (opens shorts rows : Nat) (s : Block) : Block :=
  let s1 := (List.range 96).foldl (fun s c => colLatch c true (bit shorts c) (colLatch c false (bit opens c) s)) s
  (List.range 24).foldl (fun s r => rowLatch r (bit rows r) s) s1

/-- Counts of consecutive frames with a fault. -/
def runs (hit : Nat → Bool) (l : List Nat) : List Nat :=
  (List.range 96).map fun c => if hit c then tget l c + 1 else 0

/-- A sink of column c is set to at least 1 mA in the frame in force (R502: an open column is judged by such a sink). -/
def colDriven (c : Nat) (s : Block) : Bool :=
  (List.range 24).any fun r => let k := tget s.dis.sinks (96 * r + c); k.1 != 0 && 1000 ≤ k.2

/-- Supervision of one lit frame. -/
def disSupervise (o : FrameObs) (s : Block) : Block :=
  let d := s.dis
  let s1 := { s with dis := { d with
    openRun := runs (fun c => o.openCols.contains c && colDriven c s) d.openRun
    shortRun := runs (fun c => o.shortCols.contains c) d.shortRun
    rows := (List.range 24).map fun r =>
      let x := tget d.rows r
      let oc := o.rowOc.contains r && !x.latch
      { x with oc, run := if oc then x.run + 1 else 0, peak := min (tget o.rowPeak r) 65535 }
    cntOc := d.cntOc + ((List.range 24).filter fun r => o.rowOc.contains r && !(tget d.rows r).latch).length
    iavg := min o.iavg 65535, vled := min o.vled 65535 } }
  let s2 := (List.range 96).foldl (fun s c =>
    let s := if tget s.dis.openRun c ≥ 3 then colLatch c false true s else s
    if tget s.dis.shortRun c ≥ 3 then colLatch c true true s else s) s1
  (List.range 24).foldl (fun s r => if (tget s.dis.rows r).run ≥ 3 then rowLatch r true s else s) s2

/-! ### Frames, cues, gain, maps (R494–R498) -/

/-- A display cue queued (R495): the oldest waiting one is dropped from a full queue. -/
def cueAdd (target cue : Nat) (s : Block) : Block :=
  let d := s.dis
  match d.cues with
  | (t, c) :: r =>
    if d.cues.length ≥ 8 then
      raise 238 (t * 256 + c) { s with dis := { d with cues := r ++ [(target, cue)], dropped := satInc 65535 d.dropped } }
    else { s with dis.cues := d.cues ++ [(target, cue)] }
  | [] => { s with dis.cues := [(target, cue)] }

/-- The map whose range contains a band, if it is held and valid; 15 none (R498). -/
def mapFor (band : Nat) (s : Block) : Nat :=
  match (List.range 4).filter fun m => s.d8 (4 + 2 * m) ≤ band && band ≤ s.d8 (5 + 2 * m) && s.d8 (4 + 2 * m) != 0xFF with
  | m :: _ => if (tget s.dis.maps m).loaded && (tget s.dis.maps m).valid then m else 15
  | [] => 15

/-- The matrix band as decided at a B-SEC, and the map it selects, which applies at the next B-FRM. -/
def disBand (band : Nat) (temp : Int) (s : Block) : Block :=
  { s with dis := { s.dis with band, temp, bandSet := true, mapNext := mapFor band s } }

def disGainAddr : Nat := 0x3C0008

/-- The gain's shadow at B-FRM; a value above GMAX applies as GMAX (R515). -/
def disApplyGain (s : Block) : Block :=
  match lookupN disGainAddr s.shadows with
  | none => s
  | some w => { s with dis.gain := min (w.toNat % 64) (s.d8 2), shadows := eraseN disGainAddr s.shadows }

/-- The maps as a start reads them (R497): one whose CRC-32 fails is not valid, with `EV235` and MAP 15. -/
def mapsRead (hits : List (Nat × Nat × Nat)) (s : Block) : Block :=
  (List.range 4).foldl (fun s m =>
    let x := tget s.dis.maps m
    let d := (hits.filter fun h => h.1 == m).foldl (fun (l : List Byte) h => tupd l h.2.1 fun y => y ^^^ BitVec.ofNat 8 h.2.2) x.data
    let good := crc32 d == x.crc
    if !x.loaded then s
    else
      let s1 := { s with dis.maps := tput s.dis.maps m { x with valid := good, data := d } }
      if good then s1 else raise 235 (s.dis.band * 256 + 15) s1) s

/-- The map at B-FRM (R497, R498). -/
def disApplyMap (s : Block) : Block :=
  let m := s.dis.mapNext
  let s1 := { s with dis := { s.dis with map := m, mapData := (tget s.dis.maps m).data } }
  if m == s.dis.map then s1 else raise 235 (s.dis.band * 256 + m) s1

/-- One step of the gain ramp (Table 17-2 step 5). -/
def disRamp (s : Block) : Block :=
  let r := s.dis.ramp - 1
  { s with dis := { s.dis with ramp := r, glive := s.dis.gain * (24 - r) / 24 } }

/-! ### Bistable display (R503–R511) -/

/-- Segments a to g of a digit (R503). -/
def segCode (d : Nat) : Nat := tget [0x3F, 0x06, 0x5B, 0x4F, 0x66, 0x6D, 0x7D, 0x07, 0x7F, 0x6F] d

/-- The decimal digits of the low `n` digits of a number on digits `first` to 5, leading zeros blank (R504). -/
def digits (first v : Nat) : Nat :=
  ((List.range 6).filter fun d => first ≤ d).foldl (fun a d =>
    let p := 10 ^ (5 - d)
    if d == 5 || v % 10 ^ (6 - first) / p != 0 then a + segCode (v / p % 10) * 2 ^ (7 * d) else a) 0

/-- Rendering of an item (Table 17-4). -/
def bsdRender (item arg : Nat) (s : Block) : Option Nat :=
  let ann := fun (l : List Nat) => maskOf l
  let kwh := fun (mwh : Nat) => mwh / 1000000
  match item with
  | 1 | 2 =>
    let ex := item == 2
    let tail := if ex then [46] else []
    if arg == 0 then some (digits 0 (kwh (tget (accVis 0 s) (if ex then 1 else 0))) + ann (42 :: tail))
    else if arg ≤ 8 then
      let v := kwh (tget (if ex then s.bil.tregExp else s.bil.tregImp) (arg - 1))
      some (segCode arg + digits 1 v + ann (42 :: 45 :: tail))
    else none
  | 3 => some (segCode s.bil.inForce * 2 ^ 35 + ann [45])
  | 4 => some (digits 0 (s.bil.credit.natAbs / 1000) + ann (if s.bil.credit < 0 then [43, 44] else [43]))
  | _ => none

/-- ITEM, ARG and FLAGS of the scroll item shown. -/
def scrollItem (i : Nat) (s : Block) : Nat × Nat × Nat :=
  (s.cfg8 0x0005 (584 + 4 * i), s.cfg8 0x0005 (585 + 4 * i), s.cfg8 0x0005 (587 + 4 * i))

/-- The value of a scroll item now (09 Table 9-12): energies in mWh, money in milli-units, local time in minutes. -/
def scrollValue (item arg : Nat) (s : Block) : List Int :=
  let b := s.bil
  let en := fun (total : Nat) (l : List Nat) => [Int.ofNat (if arg == 0 then total else tget l (arg - 1))]
  let e := s.ses arg
  match item with
  | 1 => en (tget (accVis 0 s) 0) b.tregImp
  | 2 => en (tget (accVis 0 s) 1) b.tregExp
  | 3 => [Int.ofNat b.inForce, Int.ofNat ((tget b.table.t (b.inForce - 1)).info / 65536)]
  | 4 => [b.credit]
  | 5 => [b2n b.ecActive, b2n (s.ppen && s.cfg32 0x0005 16 > 0 && b.credit < i32At (s.secBody 0x0005) 8 && !b.ecActive)]
  | 6 => [Int.ofNat b.pp.code]
  | 7 => [Int.ofNat (tget s.nrg.dem.maxImp 0)]
  | 8 => [Int.ofNat (localMinutes s.wall s / 1440)]
  | 9 => [Int.ofNat (localMinutes s.wall s % 1440)]
  | 10 => [Int.ofNat b.iseq, Int.ofNat (u32At b.prevHash 0)]
  | 11 => [Int.ofNat (e.tarImp.foldl (· + ·) 0), Int.ofNat (e.tarExp.foldl (· + ·) 0)]
  | 12 => [e.cost]
  | _ => []

/-- The scroll item's value taken at its start (09 R288). -/
def scrollTake (s : Block) : Block :=
  let (item, arg, _) := scrollItem s.bil.scroll s
  { s with bil.scrollVal := scrollValue item arg s, bil.scrollSeg := bsdRender item arg s }

/-- What the scroll sequence shows on the LED matrix: the item, its ARG and its value, where FLAGS bit 0 is set and the renderer
builds the frames (R494). -/
def matrixItem (s : Block) : Option (Nat × Nat × List Int) :=
  let (item, arg, flags) := scrollItem s.bil.scroll s
  if bit flags 0 && !s.assisted 6 && s.bil.scrollVal != [] then some (item, arg, s.bil.scrollVal) else none

/-- The next cue shown (R495). -/
def disApplyCue (s : Block) : Block :=
  match s.dis.shown, s.dis.cues with
  | none, c :: r => if s.dis.hostSrc then s else { s with dis := { s.dis with shown := some c, shownAt := s.sys.mtime, cues := r } }
  | _, _ => s

/-- The frame that the renderer builds: the cue shown, else the scroll item (R494, R495). -/
def rendered (s : Block) : List Byte :=
  match s.dis.shown with
  | some (0, c) => Config.rendered 1 c []
  | some (t, _) => Config.rendered 2 t []
  | none => match matrixItem s with
    | some (item, arg, v) => Config.rendered 0 (256 * item + arg) v
    | none => Config.rendered 3 0 []

/-- The source, the cue shown and the frame in force at B-FRM (R494, R495): without a new host frame the frame in force
repeats. -/
def disApplyFrame (s : Block) : Block :=
  let s0 := hostReturn 6 s
  match s0.assisted 6, s0.dis.pending with
  | true, some f => { s0 with dis := { s0.dis with
      hostSrc := true, frame := f, pending := none, applied := (s0.dis.applied + 1) % 65536 } }
  | true, none => { s0 with dis.hostSrc := true }
  | false, _ =>
    let s1 := disApplyCue { s0 with dis.hostSrc := false }
    { s1 with dis.frame := rendered s1 }

/-! ### Column drive (R493) -/

/-- The grey value of a pixel in a frame: two pixels in 3 bytes (`CMD_DIS_FRAME`). -/
def framePixel (f : List Byte) (i : Nat) : Nat :=
  let o := 3 * (i / 2)
  if i % 2 == 0 then u8At f o + 256 * (u8At f (o + 1) % 16) else u8At f (o + 1) / 16 + 16 * u8At f (o + 2)

/-- The grey value shown at a pixel: of the frame in force, or of the test under way. -/
def greyAt (i : Nat) (s : Block) : Nat :=
  match s.dis.test with
  | some t =>
    if t.op == 1 then t.level
    else if t.op == 2 then (if Config.walkColumn s.dis.frameCnt % 96 == i % 96 then t.level else 0)
    else framePixel s.dis.frame i
  | none => framePixel s.dis.frame i

/-- The column count N of a grey value, by the frame's count (R493). -/
def columnCount (g frameCnt : Nat) : Nat := g / 2 + (if frameCnt % 2 == 1 && g % 2 == 1 then 1 else 0)

/-- The current of a column while it is on, in µA: 40 mA × G / 63 × C / 255, rounded down (R493). -/
def columnUA (gain c : Nat) : Nat := 40000 * gain * c / (63 * 255)

/-- What the sink of a pixel does in this frame; a latched column is held off, a latched row skipped (R502). C is 255 where no map
is in force (R493). -/
def sinkOf (s : Block) (i : Nat) : Nat × Nat :=
  let d := s.dis
  if bit d.colOpen (i % 96) || bit d.colShort (i % 96) || (tget d.rows (i / 96)).latch then (0, 0)
  else (columnCount (greyAt i s) d.frameCnt, columnUA d.glive (if d.map == 15 then 255 else u8At d.mapData i))

/-- The matrix driven for one frame. -/
def disDrive (s : Block) : Block := { s with dis.sinks := (List.range 2304).map (sinkOf s) }

def updBsd (f : Bsd → Bsd) (s : Block) : Block := { s with dis.bsd := f s.dis.bsd }

/-- The bistable display is driven (R511). -/
def bsdRuns (s : Block) : Bool :=
  s.ben && !s.pwr.pfw && !bylithDown s &&
    s.inMode [.standby, .service, .degraded, .maintain, .commission, .safestop, .activate]

/-- The next segment of step 3, 47 for REFRESHING cleared where none is left (R506–R509). -/
def segNext (b : Bsd) : Nat :=
  match (List.range 47).filter fun k => if b.full then !bit b.done k else bit b.image k != bit b.target k with
  | k :: _ => k
  | [] => 47

/-- The drive that comes next: REFRESHING set first, then the segments, then REFRESHING cleared. -/
def bsdAim (b : Bsd) : Bsd := { b with seg := if b.refr then segNext b else 47, again := false }

/-- `EV236`. -/
def bsdEvent (code : Nat) (s : Block) : Block := raise 236 (s.dis.bsd.useq % 65536 * 65536 + code * 256) s

/-- The journal record without its CRC-32 (Table 17-5). -/
def bsdBody (b : Bsd) : List Byte :=
  p32 b.useq ++ p32 b.wcnt ++ p64 b.target ++ p64 (b2n b.open_ * 2 ^ 63 + b2n b.refr * 2 ^ 62 + b.done % 2 ^ 47)

/-- The journal written to the copy not written last (R506): WCNT rises by 1. -/
def bsdWrite (b : Bsd) : Bsd :=
  let b1 := { b with wcnt := (b.wcnt + 1) % 4294967296, newest := 1 - b.newest }
  let r := bsdBody b1
  { b1 with copies := tput b1.copies b1.newest (r ++ p32 (crc32 r)) }

/-- A journal copy as a start reads it; none where its CRC-32 does not hold. Each hit is a byte that reads with some bits
wrong. -/
def bsdRead (hits : List (Nat × Nat)) (c : List Byte) : Option (List Byte) :=
  let b := hits.foldl (fun (l : List Byte) h => tupd l h.1 fun x => x ^^^ BitVec.ofNat 8 h.2) c
  if b.length == 28 && crc32 (b.take 24) == u32At b 24 then some b else none

/-- The journal taken from the valid copy with the higher WCNT (R506); an all-clear target where no copy is valid (R509). -/
def bsdLoad (hits : List (Nat × Nat × Nat)) (b : Bsd) : Bsd :=
  let read := fun k => bsdRead ((hits.filter fun h => h.1 == k).map fun h => h.2) (tget b.copies k)
  let take := fun k (c : List Byte) => { b with
    newest := k, useq := u32At c 0, wcnt := u32At c 4, target := u64At c 8 % 2 ^ 47
    open_ := bit (u64At c 16) 63, refr := bit (u64At c 16) 62, done := u64At c 16 % 2 ^ 47 }
  match read 0, read 1 with
  | some c, some d => if u32At c 4 < u32At d 4 then take 1 d else take 0 c
  | some c, none => take 0 c
  | none, some d => take 1 d
  | none, none => { b with useq := 0, wcnt := 0, target := 0, open_ := false, refr := false, done := 0 }

/-- An update begun (R506 step 1). -/
def bsdBegin (t : Nat) (s : Block) : Block :=
  bsdEvent 1 (updBsd (fun b => bsdAim (bsdWrite { b with
    st := 1, useq := (b.useq + 1) % 4294967296, target := t, open_ := true, done := 0, full := false, next := none })) s)

/-- The journal closed and the display idle (R506 step 4, R509 step 3). -/
def bsdEnd (s : Block) : Block :=
  let re := s.dis.bsd.redrive
  bsdEvent (if re then 3 else 2) (updBsd (fun b => bsdWrite { b with
    st := 0, seg := 63, refr := false, image := clrBit b.image 47, open_ := false, redrive := false, full := false
    updates := if re then b.updates else (b.updates + 1) % 65536 }) s)

/-- The rendered target compared with the image (R506); one that arrives during an update waits for the segment under
way (R507). -/
def bsdCheck (s : Block) : Block :=
  let (item, arg, flags) := scrollItem s.bil.scroll s
  let b := s.dis.bsd
  if !bit flags 1 || !bsdRuns s || s.dis.test.any (fun t => t.op == 4) then s
  else match s.bil.scrollSeg with
    | none => s
    | some t =>
      let s1 := updBsd (fun b => { b with item, arg }) s
      if b.st == 0 then (if b.image % 2 ^ 47 == t then s1 else bsdBegin t s1)
      else if b.st == 1 && t != b.next.getD b.target then updBsd (fun b => { b with next := some t }) s1
      else s1

/-- The bistable display after a change of mode, supply, configuration or Larkspur (R508, R511). -/
def bsdSync (s : Block) : Block :=
  let b := s.dis.bsd
  if !bsdRuns s then
    updBsd (fun b => { b with seg := 63, again := false
                              st := if s.pwr.pfw && (b.st == 1 || b.st == 2 || b.st == 3) then 3 else 4 }) s
  else if b.st == 3 || b.st == 4 then
    if b.redrive then updBsd (fun b => bsdAim { b with st := 2, full := true }) s
    else if b.open_ then updBsd (fun b => bsdAim { b with st := 1, full := true }) s
    else updBsd (fun b => { b with st := 0, seg := 63 }) s
  else if b.st == 0 && b.redrive then updBsd (fun b => bsdAim { b with st := 2, full := true }) s
  else s

/-- The whole display is to be re-driven before it shows anything new (R509). -/
def bsdRedrive (s : Block) : Block :=
  bsdSync (updBsd (fun b => { b with
    st := 4, redrive := true, full := true, done := 0, refr := false, next := none }) s)

/-- Segment `k` has been driven to `v` and journaled (R506, R510). -/
def bsdDriven (k : Nat) (v : Bool) (b : Bsd) : Bsd :=
  bsdWrite { b with image := putBit b.image k v, done := if k < 47 then setBit b.done k else b.done, again := false }

/-- A new target taken over once a segment completes (R507). -/
def bsdTake (b : Bsd) : Bsd :=
  match b.next with
  | some t => bsdWrite { b with target := t, done := 0, full := false, next := none }
  | none => b

/-- What follows a completed drive of an update or re-drive. -/
def bsdAfter (s : Block) : Block :=
  let b := s.dis.bsd
  if b.seg == 47 && b.refr then bsdEnd s
  else if b.seg == 47 then updBsd (fun b => bsdAim (bsdDriven 47 true { b with refr := true })) s
  else updBsd (fun b => bsdAim (bsdTake (bsdDriven b.seg (bit b.target b.seg) b))) s

/-- The bistable test: all set, then all clear (`CMD_DIS_TEST` OP 4). -/
def bsdTestStep (s : Block) : Block :=
  updBsd (fun b =>
    let b := { b with image := putBit b.image b.seg (b.testPh == 1), again := false }
    if b.seg < 47 then { b with seg := b.seg + 1 }
    else if b.testPh == 1 then { b with testPh := 2, seg := 0 }
    else { b with testPh := 3, seg := 63, st := 0 }) s

/-! ### Rows -/

/-- A B-FRM of the matrix with everything of this chapter that falls due, then the frame's supervision (R491, R494–R498,
R502). -/
def matrixFrame (o : FrameObs) (b : Block) : Block :=
  let b1 := { b with dis.frameCnt := (b.dis.frameCnt + 1) % 4294967296 }
  let b2 := if bylithDown b1 then disApplyGain b1 else disApplyFrame (disApplyMap (disApplyGain b1))
  let b3 := disSync b2
  let b4 := if b3.dis.mstate == 2 then disDrive (disRamp (disSupervise o b3)) else b3
  bsdCheck b4

/-- `MATRIX_START`: Table 17-2 from step 2 to the first content frame; a full start latches and clears faults by its
diagnostic frames. -/
def execMatrixStart (faultyOpen faultyShort faultyRows : List Nat) (s : State) : Out :=
  act (fun b =>
    if b.dis.mstate != 1 || disCause b != 0 then b
    else
      let b1 := if b.dis.short then b else disDiagnose (maskOf faultyOpen) (maskOf faultyShort) (maskOf faultyRows) b
      disLit b1) s

/-- `BSD_SEGMENT_DRIVE_DONE` (R505–R510); a drive passes with 40 to 250 mA at the peak of its pulse (22 R607). -/
def execBsdSegmentDriveDone (driveMA : Nat) (s : State) : Out :=
  act (fun b =>
    let x := b.dis.bsd
    let k := x.seg
    let inWindow := 40 ≤ driveMA && driveMA ≤ 250
    if !bsdRuns b || k > 47 then b
    else
      let b1 := updBsd (fun x => { x with
        drives := tupd x.drives k fun n => (n + 1) % 65536, ipeak := tput x.ipeak k (min driveMA 255)
        faults := if inWindow then x.faults else satInc 65535 x.faults }) b
      if !inWindow && !x.again then updBsd (fun x => { x with again := true }) b1
      else
        let b2 := if inWindow == !bit x.fault k then b1
          else raise 237 (b2n (!inWindow) * 256 + k) (updBsd (fun x => { x with fault := putBit x.fault k (!inWindow) }) b1)
        if x.testPh == 1 || x.testPh == 2 then bsdTestStep b2 else bsdAfter b2) s

/-! ### Registers (Tables 17-9 to 17-11) -/

def disMapstat (s : Block) : Word :=
  let d := s.dis
  reg [fld 31 28 d.band, fld 27 24 d.map, fld 23 20 d.mapNext, fld 15 0 (tc 16 d.temp)]

def disSource (s : Block) : Nat :=
  if s.dis.test.any fun t => t.op != 4 then 2 else b2n s.dis.hostSrc

def disGlobal (i : Nat) (s : Block) : Word :=
  let d := s.dis
  let cue := d.shown.getD (0, 0)
  match i with
  | 0 => reg [fld 31 29 d.mstate, fld 15 8 d.bcause, fld 5 0 d.glive]
  | 1 => reg [fld 31 31 (s.d8 0), fld 30 30 (s.d8 12), fld 29 24 (s.d8 2), fld 21 16 (s.d8 1), fld 15 12 (s.d8 3),
              fld 7 0 (s.d8 13)]
  | 2 => w32 d.gain
  | 3 => disMapstat s
  | 4 => w32 d.frameCnt
  | 5 => reg [fld 31 30 (disSource s), fld 29 29 (b2n d.shown.isSome), fld 15 8 cue.1, fld 7 0 cue.2]
  | 6 => reg [fld 31 16 d.replaced, fld 15 0 d.applied]
  | 7 => reg [fld 31 16 d.dropped, fld 3 0 d.cues.length]
  | 8 | 9 | 10 => w32 (d.colOpen / 2 ^ (32 * (i - 8)))
  | 11 | 12 | 13 => w32 (d.colShort / 2 ^ (32 * (i - 11)))
  | 14 => w32 (maskOf ((List.range 24).filter fun r => (tget d.rows r).latch))
  | 15 => w32 d.cntCol
  | 16 => w32 (satU32 d.cntOc)
  | 17 => w32 d.cntBlank
  | _ => reg [fld 31 16 d.iavg, fld 15 0 d.vled]

def bsdWord (i : Nat) (s : Block) : Word :=
  let b := s.dis.bsd
  match i with
  | 0 => reg [fld 31 29 b.st, fld 28 28 (b2n b.open_), fld 27 27 (b2n b.refr), fld 5 0 b.seg]
  | 1 => lo32 b.target
  | 2 => hi32 b.target
  | 3 => lo32 b.image
  | 4 => hi32 b.image
  | 5 => lo32 b.done
  | 6 => hi32 b.done
  | 7 => lo32 b.fault
  | 8 => hi32 b.fault
  | 9 => w32 b.useq
  | 10 => reg [fld 31 16 b.faults, fld 15 0 b.updates]
  | _ => reg [fld 15 8 b.item, fld 7 0 b.arg]

/-- DIS block reads, by offset from 0x3C_0000 (R515). -/
def rdDis (a : Nat) (s : Block) : Option Word :=
  let d := s.dis
  if a < 0x4C then some (disGlobal (a / 4) s)
  else if 0x80 ≤ a && a < 0xA0 then
    some (match d.cues.drop ((a - 0x80) / 4) with
      | c :: _ => reg [fld 31 31 1, fld 23 16 c.1, fld 7 0 c.2]
      | [] => 0)
  else if a == 0xFC then some (reg [fld 31 31 (b2n (shadowAny (fun x => x == disGainAddr) s))])
  else if 0x100 ≤ a && a < 0x140 && a % 16 < 8 then
    let m := (a - 0x100) / 16
    let x := tget d.maps m
    some (if a % 16 == 0 then
        reg [fld 31 31 (b2n x.loaded), fld 30 30 (b2n x.valid), fld 15 8 (s.d8 (5 + 2 * m)), fld 7 0 (s.d8 (4 + 2 * m))]
      else w32 x.crc)
  else if 0x200 ≤ a && a < 0x260 then
    let r := tget d.rows ((a - 0x200) / 4)
    some (reg [fld 31 31 (b2n r.latch), fld 30 30 (b2n r.oc), fld 15 0 r.peak])
  else if 0x400 ≤ a && a < 0x430 then some (bsdWord ((a - 0x400) / 4) s)
  else if 0x500 ≤ a && a < 0x5C0 then
    let k := (a - 0x500) / 4
    some (reg [fld 31 31 (b2n (bit d.bsd.fault k)), fld 23 16 (tget d.bsd.ipeak k), fld 15 0 (tget d.bsd.drives k)])
  else none

/-- DIS writes: `DIS_GAIN` in work modes (R515, R103) and `DIS_PEND`. -/
def wrDis (a v : Nat) (s : Block) : Wr :=
  if a == 8 then (if s.inMode mWork then .ok (shadowPut disGainAddr v s) else .notPerf)
  else if a == 0xFC then .ok (if bit v 31 then shadowDrop (fun x => x == disGainAddr) s else s)
  else match rdDis a s with
    | none => .berr
    | some _ => .ok s

/-! ### Commands (Table 17-8) -/

def specDisStatus : CmdSpec where
  op := 0x0D00
  role := .general
  modes := mServed
  len := lenIs 0
  body := fun _ _ s => ok (wordBytes ((List.range 19).map fun i => disGlobal i s)) s

/-- `CMD_DIS_STATUS`. -/
def execCmdDisStatus (h : Req) (p : List Byte) (s : State) : Out := act (runCmd specDisStatus h p) s

def specDisFrame : CmdSpec where
  op := 0x0D01
  role := .general
  modes := mWork
  len := lenIs 3460
  body := fun _ p s =>
    if !bit s.split 6 || !s.men then refuse stBadParam s
    else ok [] { s with dis := { s.dis with
      replaced := if s.dis.pending.isSome then satInc 65535 s.dis.replaced else s.dis.replaced
      pending := some (p.drop 4) } }

/-- `CMD_DIS_FRAME` (R494). -/
def execCmdDisFrame (h : Req) (p : List Byte) (s : State) : Out := act (runCmd specDisFrame h p) s

def specDisMapRead : CmdSpec where
  op := 0x0D02
  role := .general
  modes := mServed
  len := lenIs 8
  body := fun _ p s =>
    let m := u8At p 0
    let o := u16At p 2
    let n := u16At p 4
    if m > 3 || n < 1 || n > 2304 || o + n > 2304 || !(tget s.dis.maps m).loaded then refuse stBadParam s
    else ok (bytesAt (tget s.dis.maps m).data o n) s

/-- `CMD_DIS_MAP_READ`. -/
def execCmdDisMapRead (h : Req) (p : List Byte) (s : State) : Out := act (runCmd specDisMapRead h p) s

def specDisBsdRead : CmdSpec where
  op := 0x0D03
  role := .general
  modes := mServed ++ [.zeroised]
  len := lenIs 0
  body := fun _ _ s => ok (wordBytes ((List.range 12).map fun i => bsdWord i s)) s

/-- `CMD_DIS_BSD_READ`. -/
def execCmdDisBsdRead (h : Req) (p : List Byte) (s : State) : Out := act (runCmd specDisBsdRead h p) s

def specDisMapLoad : CmdSpec where
  op := 0x0D80
  role := .general
  modes := [.standby, .commission]
  len := lenIs 2312
  body := fun _ p s =>
    let m := u8At p 0
    let d := p.drop 8
    if m > 3 || crc32 d != u32At p 4 then refuse stBadParam s
    else ok [] { s with dis.maps := tput s.dis.maps m ⟨true, true, u32At p 4, d⟩ }

/-- `CMD_DIS_MAP_LOAD` (R497): the map in force is replaced at the next B-FRM. -/
def execCmdDisMapLoad (h : Req) (p : List Byte) (s : State) : Out := act (runCmd specDisMapLoad h p) s

def specDisTest : CmdSpec where
  op := 0x0D81
  role := .general
  modes := mCommission
  len := lenIs 8
  body := fun r p s =>
    let op := u8At p 0
    let lv := u16At p 2
    let du := u16At p 4
    if op < 1 || op > 4 || lv > 4095 || du < 100 || du > 60000 || (if op == 4 then !s.ben else !s.men) then
      refuse stBadParam s
    else if s.dis.test.isSome || (op == 4 && (s.dis.bsd.open_ || s.dis.bsd.st != 0)) then refuse stBusy s
    else
      let s1 := { s with dis.test := some { op, level := lv, ends := s.sys.mtime + du, cmd := r } }
      .accepted (disSync (if op == 4 then updBsd (fun b => { b with testPh := 1, seg := 0, st := 1 }) s1 else s1))

/-- `CMD_DIS_TEST`. -/
def execCmdDisTest (h : Req) (p : List Byte) (s : State) : Out := act (runCmd specDisTest h p) s

def specsDis : List CmdSpec := [specDisStatus, specDisFrame, specDisMapRead, specDisBsdRead, specDisMapLoad, specDisTest]

end Sys2Proof.Machine
end

