-- ==== Sys2Proof/Machine/Metrology.lean ====
section
/-!
DEFINITION. The Assay metrology front end (07): samples and their correction, cycle boundaries, temperature bands,
calibration, channel supervision, test injection, registers and commands.
-/

namespace Sys2Proof.Machine

/-! ### Small helpers -/

def chans8 : List Nat := List.range 8

/-- A metering point has a type (Table 7-2). -/
def ptOn (p : Nat) (s : Block) : Bool := s.ptType p != 0

/-- A record in the ASSAY event log whose kind and detail the chapter does not fix (R205, R213, R223); none when full. -/
def asyRecord (cause : Nat) (args : List Nat) (s : Block) : Option Block :=
  assayLog (Config.alogKind cause).toNat (Config.alogDetail cause args) s

/-- The ASSAY event log is full (R579). -/
def alogFull (s : Block) : Bool := s.dbg.alog.length ≥ 4096

/-- Phase index and role of a channel: 0 current, 1 voltage. -/
def fullScale (p c : Nat) (s : Block) : Nat := if c ≤ 3 then s.ifs p else if c ≤ 6 then s.vfs p else s.xfs p

/-! ### Samples and their correction (R194, R195, R203, R204, R219) -/

/-- A value held to the 24 bits of the decimators' output (R194, Table 7-3). -/
def held24 (v : Int) : Int := if v > 8388607 then 8388607 else if v < -8388608 then -8388608 else v

/-- The sample code of channel c from what the decimators give: a bitstream density d stands for (2d − 1) / 0.8 of full scale
(R195). -/
def codeOf (c : Nat) (v : Int) : Int := if c ≤ 3 then v else roundDivI (5 * (v - 8388608)) 4

/-- The decimated sample of a channel: clipped, and under a reference check the interpolated value (R194, R195, R217). -/
def decimated (p c : Nat) (r : RawSample) (s : Block) : Int :=
  match (s.pt p).inj with
  | some (k, v :: _) => if k == c then v else held24 (codeOf c r.x)
  | _ => held24 (codeOf c r.x)

/-- A 100 kHz value behind the sample is at or beyond a limit (R194). -/
def overRange (c : Nat) (r : RawSample) : Bool := (codeOf c r.mid).natAbs ≥ 8388607

/-- Offset and gain of R203. -/
def scaled (ch : Chan) (x : Int) : Int :=
  roundDivI ((256 * x - ch.ofs) * Int.ofNat ch.gain * (1000000 + ch.tgain)) (256 * 1073741824 * 1000000)

/-- The delay in force: PHASE + TPHASE, clamped (R204). -/
def delayOf (ch : Chan) : Int :=
  let d := ch.phase + ch.tphase
  if d > 32767 then 32767 else if d < -32767 then -32767 else d

/-- The corrected sample (R203): the newest value scaled where the delay is 0, else the fractional-delay filter's output. -/
def corrected (ch : Chan) : Int :=
  if delayOf ch == 0 then tget ch.taps 0 else Config.fracDelay (delayOf ch) ch.taps

/-- amp × sin(2π num / den), rounded to the nearest code. -/
def sineCode (amp num den : Nat) : Int := roundDivI (Int.ofNat amp * sinTurn num den) 1099511627776

/-- The synthetic sample of a channel under test injection (R219); `shift` the extra lag of the reactive filter. Angles are in
1/90,000,000 of a turn: one sample of 1 mHz is 9 of them, 0.01° is 2,500. -/
def synthetic (p c shift : Nat) (s : Block) : Int :=
  let a := s.asy
  let va := a.tinjAmp / 65536 * 128
  let ia := a.tinjAmp % 65536 * 128
  let phi := a.tinjPh % 65536
  let f := if a.tinjFreq % 65536 == 0 then s.nomFreq * 1000 else a.tinjFreq % 65536
  let at_ := fun amp lag => sineCode amp (a.tinjOrg + a.tinjN * f * 9 + 90000000 - lag * 2500 % 90000000) 90000000
  if s.ptType p == 3 then
    (if c == 4 then Int.ofNat va else if c == 7 then (if phi == 18000 then -(Int.ofNat ia) else Int.ofNat ia) else 0)
  else if 4 ≤ c && c ≤ 6 then at_ va (12000 * (c - 4) + shift)
  else if c ≤ 2 then at_ ia (12000 * c + phi)
  else at_ ia phi

/-- The value of a channel for every quantity: 0 where it is not in use or faulted (R191, R215). -/
def chValue (p c : Nat) (s : Block) : Int :=
  if !chInUse p c s || (s.ch p c).faulted then 0
  else if tinjOn p s && bit s.asy.tinjCtrl c then synthetic p c 0 s
  else corrected (s.ch p c)

/-- The 90° shifted voltage of phase k (R225). -/
def shValue (p c : Nat) (r : RawSample) (s : Block) : Int :=
  if !chInUse p c s || (s.ch p c).faulted then 0
  else if tinjOn p s && bit s.asy.tinjCtrl c then synthetic p c 9000 s
  else r.sh

/-! ### One sample instant (R194, R218, R228–R231) -/

/-- A channel at a sample instant: sample, peak, over-range with `EV066` once per second (R218). -/
def chSample (p c : Nat) (r : RawSample) (s0 : Block) : Block :=
  let s := if chInUse p c s0 then updCh p c (fun x => { x with
    taps := (scaled x (decimated p c r s0) :: x.taps).take 16 }) s0 else s0
  let y := chValue p c s
  let above := overRange c r && chInUse p c s
  let first := above && !(s.ch p c).ovrSec
  let s1 := updCh p c (fun x => { x with
    sample := y, win := if chInUse p c s && c != 3 && c != 7 then (y :: x.win).take 4096 else x.win
    runPeak := max x.runPeak y.natAbs, runOvr := x.runOvr || above, ovrS := x.ovrS || above
    ovrSec := x.ovrSec || above }) s
  if first then raise 66 (p * 256 + c) s1 else s1

/-- The products of phase k at this instant; on a DC point voltage, current and its magnitude. -/
def prodOf (p k : Nat) (rs : List RawSample) (s : Block) : Prod :=
  let v := (s.ch p (4 + k)).sample
  if s.ptType p == 3 then
    let x := (s.ch p 7).sample
    ⟨v * x, Int.ofNat x.natAbs, v, x⟩
  else
    let i := (s.ch p k).sample
    ⟨v * i, shValue p (4 + k) (tget rs (4 + k)) s * i, v * v, i * i⟩

def Prod.add (a b : Prod) : Prod := ⟨a.p + b.p, a.q + b.q, a.v2 + b.v2, a.i2 + b.i2⟩

/-- Phase k's history, sums and flags after one instant. -/
def phSample (p : Nat) (pr : Prod) (s : Block) (x : PhaseQ) : PhaseQ :=
  let h := (pr :: x.hist).take 512
  let t := avgNs p s
  { x with
    hist := h, run := x.run.add pr, runN := x.runN + 1
    i2run := x.i2run + (if s.ptType p == 3 then pr.i2 * pr.i2 else pr.i2)
    quad := if s.ptType p == 3 then 0 else quadOf (winSum t (fun q => q.p) h) (winSum t (fun q => q.q) h)
    start := belowStart p { x with hist := h } s }

/-- One point at a sample instant: its channels, then its phases; a reference check ends after its third sample (R217). -/
def ptSample (p : Nat) (rs : List RawSample) (s : Block) : Block :=
  let s0 := chans8.foldl (fun s c => chSample p c (tget rs c) s) s
  let s1 := updPt p (fun x => { x with inj := match x.inj with
    | some (c, _ :: v :: l) => some (c, v :: l)
    | _ => none }) s0
  let inn := (s1.ch p 3).sample
  (phasesOf p s1).foldl (fun s k => updPq p (fun x => { x with
      ph := tupd x.ph k (phSample p (prodOf p k rs s) s) }) s)
    (updPq p (fun x => { x with inRun := x.inRun + inn * inn }) s1)

/-- The increments of a point's eight accumulators at this instant; none under test injection or below the starting
limit (R219, R230). -/
def ptIncrements (p : Nat) (s : Block) : List Nat :=
  let z := List.replicate 8 0
  if tinjOn p s then z
  else (phasesOf p s).foldl (fun a k =>
    let x := tget (s.pq p).ph k
    if x.start then a else addLists a (increments p x s)) z

/-- The accumulators advanced, modulo 2^96 (R231). -/
def accumulate (incs : List (List Nat)) (s : Block) : Block :=
  { s with nrg.accs := (List.zip s.nrg.accs incs).map fun x =>
      (addLists x.1 x.2).map fun v => v % 79228162514264337593543950336 }

/-- Sums of the calibration measurements that run on a point (Table 7-12). -/
def measureSample (xs : List (List RawSample)) (s : Block) (m : Measure) : Measure :=
  if !m.on then m
  else
    let y := fun c => (s.ch m.point c).sample
    let raw := fun c =>
      if chInUse m.point c s && !(s.ch m.point c).faulted then decimated m.point c (tget (tget xs m.point) c) s else 0
    let pr := fun k => if (phasesOf m.point s).contains k then prodOf m.point k (tget xs m.point) s else ⟨0, 0, 0, 0⟩
    { m with
      n := m.n + 1
      sq := chans8.map fun c => tget m.sq c + y c * y c
      raw := chans8.map fun c => tget m.raw c + raw c
      p := (List.range 3).map fun k => tget m.p k + (pr k).p
      q := (List.range 3).map fun k => tget m.q k + (if s.ptType m.point == 3 then 0 else (pr k).q) }

/-! ### Entries, shadows and discards at a B-CYC (R202, R204, R205, R209, R213) -/

def chanAddr (p c r : Nat) : Nat := 0x101100 + p * 0x1000 + c * 0x20 + 4 * r

/-- The address lies in the RW-B registers of point p. -/
def ptShadow (p a : Nat) : Bool := 0x101100 + p * 0x1000 ≤ a && a < 0x101200 + p * 0x1000

/-- Something of point p waits for its B-CYC (`ASY_PEND`). -/
def ptPending (p : Nat) (s : Block) : Bool := shadowAny (ptShadow p) s || (s.pt p).entPend || (s.pt p).discard

/-- Register r of channel c (0 GAIN, 1 PHASE, 2 OFS) given a value. -/
def chReg (r w : Nat) (x : Chan) : Chan :=
  match r with
  | 0 => { x with gain := w }
  | 1 => { x with phase := sgn 16 w }
  | _ => { x with ofs := sgn 32 w }

def chRegNow (r : Nat) (x : Chan) : Nat :=
  match r with
  | 0 => x.gain
  | 1 => tc 16 x.phase
  | _ => tc 32 x.ofs

/-- One shadow applied and recorded with old and new value; a full log refuses the change (R205, R579). -/
def applyShadow (p c r : Nat) (s : Block) : Block :=
  let a := chanAddr p c r
  match lookupN a s.shadows with
  | none => s
  | some w =>
    let s1 := { s with shadows := eraseN a s.shadows }
    match asyRecord 1 [a, chRegNow r (s.ch p c), w.toNat] s1 with
    | none => s1
    | some s2 => updCh p c (chReg r w.toNat) s2

/-- The entries of the decided band (R209). -/
def applyEntries (p : Nat) (s : Block) : Block :=
  if !(s.pt p).entPend then s
  else
    let b := (s.pt p).bandPend
    let t := fun c => tget (s.pt p).table (8 * b + c)
    updPt p (fun x => { x with
      entPend := false, band := b
      chans := (List.zip chans8 x.chans).map fun y =>
        { y.2 with tgain := sgn 16 (t y.1 / 65536), tphase := sgn 16 (t y.1) } }) s

/-- The committed record's values and table taken back (R213). -/
def applyDiscard (p : Nat) (s : Block) : Block :=
  if !(s.pt p).discard then s
  else
    let v := tget s.asy.record.vals p
    let tab := tget s.asy.record.tables p
    let s1 := updPt p (fun x => { x with
      discard := false, table := tab, entPend := true
      chans := (List.zip chans8 x.chans).map fun y =>
        let r := tget v y.1
        { y.2 with gain := r.1, phase := r.2.1, ofs := r.2.2 } }) s
    applyEntries p s1

/-- The delay clamp of a channel, `EV073` where it begins (R204). -/
def clampCheck (p c : Nat) (s : Block) : Block :=
  let x := s.ch p c
  let now := (x.phase + x.tphase).natAbs > 32767
  let s1 := updCh p c (fun x => { x with clamp := now }) s
  if now && !x.clamp then raise 73 (p * 256 + c) s1 else s1

/-- A committed record of point p takes effect (01 R21): what its new type does not have reads 0 (R200, 08 R227), and its
temperature source may be one that is lost (R206). -/
def applyConf (p : Nat) (s : Block) : Block :=
  if !(s.pt p).confPend then s
  else
    let was := s.ptType p
    let s1 := updPt p (fun x => { x with confPend := false, conf := bytesAt (s.secBody 0x0003) (8 + 24 * p) 24 }) s
    let t := s1.ptType p
    let src := s1.p8 p 1
    let s2 := updPt p (fun x => { x with
      tsrcFb := src != 0 && (tget s1.asy.tsrc src).lost
      cycTimer := x.cycTimer && (t == 1 || t == 2), period := if t == was then x.period else 0, cyc := if t == 0 then 0 else x.cyc
      good := if t == was then x.good else 0, inj := none
      chans := (List.zip chans8 x.chans).map fun y =>
        if chInUse p y.1 s1 then y.2
        else { y.2 with causes := [], sample := 0, peak := 0, runPeak := 0, runOvr := false, taps := [], win := []
                        harm := List.replicate 41 0 } }) s1
    if t == was then (if chInUse p 3 s2 then s2 else updPq p (fun x => { x with inRms := 0, inRun := 0 }) s2)
    else updPq p (fun x => { x with
      ph := List.replicate 3 PhaseQ.zero, inRms := 0, inRun := 0, freq := 0, cycs := [], winCyc := 0 }) s2

/-- Everything that applies at a B-CYC of point p, together (R209). -/
def applyCyc (p : Nat) (b : Block) : Block :=
  let s := applyConf p b
  let s1 := chans8.foldl (fun s c => (List.range 3).foldl (fun s r => applyShadow p c r s) s) s
  chans8.foldl (fun s c => clampCheck p c s) (applyDiscard p (applyEntries p s1))

/-! ### Calibration record (R211–R213) -/

/-- Bytes 32 to 8,383 of a record (Table 7-8). -/
def calTail (r : CalRec) : List Byte :=
  (r.edges.flatMap pi16) ++ p16 0 ++ (List.range 13).flatMap fun p =>
    (tget r.vals p).flatMap (fun v => p32 v.1 ++ pi16 v.2.1 ++ p16 0 ++ pi32 v.2.2 ++ p32 0) ++
      (tget r.tables p).flatMap p32

def calBytes (r : CalRec) : List Byte :=
  let t := calTail r
  p16 0x0100 ++ p16 13 ++ p32 r.calseq ++ p32 r.calid ++ p32 (crc32 t) ++ p64 r.mtime ++ zeros 8 ++ t

def chVals (x : Point) : List (Nat × Int × Int) := x.chans.map fun c => (c.gain, c.phase, c.ofs)

/-- Points whose live values differ from the record; changed edges count for every point. -/
def calDirty (s : Block) : Nat :=
  let r := s.asy.record
  maskOf (points.filter fun p =>
    s.asy.edges != r.edges || chVals (s.pt p) != tget r.vals p || (s.pt p).table != tget r.tables p)

/-- A copy of the record as a start reads it (R211): `none` where its CRC-32 does not hold over bytes 32 to 8,383. Each hit is
a byte that reads with some bits wrong. -/
def calRead (hits : List (Nat × Nat)) (r : CalRec) : Option CalRec :=
  if hits.isEmpty then some r
  else
    let b := hits.foldl (fun (l : List Byte) h => tupd l h.1 fun x => x ^^^ BitVec.ofNat 8 h.2) (calBytes r)
    if crc32 (b.drop 32) == u32At b 12 then
      some { r with calseq := u32At b 4, calid := u32At b 8, mtime := u64At b 16 }
    else none

/-- The copy that a start loads: of the readable ones, that with the higher CALSEQ (R211). -/
def calLoad (hits : List (Nat × Nat × Nat)) (s : Block) : Option (Nat × CalRec) :=
  let read := fun k => (tget s.asy.copies k).bind fun r => calRead ((hits.filter fun h => h.1 == k).map fun h => h.2) r
  match read 0, read 1 with
  | some a, some b => if a.calseq ≥ b.calseq then some (0, a) else some (1, b)
  | some a, none => some (0, a)
  | none, some b => some (1, b)
  | none, none => none

/-- The values in force committed (R213), to the copy not written last (R211); none where the ASSAY log is full. -/
def calCommit (calid : Nat) (s : Block) : Option Block :=
  let r : CalRec := { calseq := (s.asy.record.calseq + 1) % 4294967296, calid, mtime := s.sys.mtime, edges := s.asy.edges
                      vals := s.asy.points.map chVals, tables := s.asy.points.map fun x => x.table }
  match asyRecord 2 [r.calseq, calid] s with
  | none => none
  | some s1 =>
    some (balCheck (raise 71 r.calseq { s1 with asy := { s1.asy with
      record := r, recOk := true, copies := tput s1.asy.copies (1 - s1.asy.newest) (some r), newest := 1 - s1.asy.newest
      points := s1.asy.points.map fun x => { x with calreq := false } } }))

/-- No shadow of the block is pending. -/
def asyClear (s : Block) : Bool := !points.any fun p => ptPending p s

/-- Commits that waited for pending shadows (R213). -/
def calWaiting (s : Block) : Block :=
  if s.asy.commitCmds.isEmpty || !asyClear s then s
  else s.asy.commitCmds.foldl (fun s x =>
    match calCommit x.2 s with
    | none => complete x.1 stStorageFault [] s
    | some s1 => complete x.1 stOk (p32 s1.asy.record.calseq) s1) { s with asy.commitCmds := [] }

/-- No command: the owner of a commit made when COMMISSION is left. -/
def noCmd : CmdRef := ⟨8, 0⟩

/-! ### Test injection (R219) -/

/-- EN cleared as the module leaves COMMISSION or enters OUTAGE. -/
def tinjEnd (s : Block) : Block :=
  if bit s.asy.tinjCtrl 31 then
    raise 75 (bits s.asy.tinjCtrl 11 8 * 256) { s with asy.tinjCtrl := clrBit s.asy.tinjCtrl 31 }
  else s

/-- COMMISSION is left: test injection ends, uncommitted values are committed (R213, R219). -/
def commissionLeft (s : Block) : Block :=
  let s1 := tinjEnd s
  if calDirty s1 != 0 then
    calWaiting { s1 with asy.commitCmds := s1.asy.commitCmds ++ [(noCmd, s1.asy.record.calid)] }
  else s1

/-! ### Measurements (Table 7-12) -/

/-- RMS in µA or µV and MEAN in 1/256 code of a channel. -/
def measChan (m : Measure) (s : Block) (c : Nat) : List Byte :=
  p32 (satU32 (rmsOf (tget m.sq c) m.n (fullScale m.point c s))) ++
    pi32 (satI32 (roundDivI (256 * tget m.raw c) (max m.n 1)))

def measPhase (m : Measure) (s : Block) (k : Nat) : List Byte :=
  let sc := if s.ptType m.point == 3 then s.xfs m.point else s.ifs m.point
  pi64 (powerOf (tget m.p k) m.n (s.vfs m.point) sc) ++ pi64 (powerOf (tget m.q k) m.n (s.vfs m.point) sc)

def measResult (m : Measure) (s : Block) : List Byte :=
  let f := if s.ptType m.point == 3 || m.ns == 0 then 0 else m.done * 1000000000000 / m.ns
  p16 m.done ++ p16 0 ++ p32 f ++ chans8.flatMap (measChan m s) ++ (List.range 3).flatMap (measPhase m s)

/-- The measurements of point p at its B-CYC: a waiting one begins, a full one answers. -/
def measCyc (p ns : Nat) (s : Block) : Block :=
  let ms := s.asy.measures.map fun m =>
    if m.point != p then m
    else if m.on then { m with done := m.done + 1, ns := m.ns + ns } else { m with on := true }
  let s1 := { s with asy.measures := ms.filter fun m => m.done < m.want }
  (ms.filter fun m => m.done ≥ m.want).foldl (fun s m => complete m.cmd stOk (measResult m s) s) s1

/-- B-CYC of point p (R200–R202, R209): `ns` the cycle's duration, 0 from the timer. -/
def cycBoundary (p ns : Nat) (s : Block) : Block :=
  let ran := ((tget s.nrg.pq p).ph.any fun x => x.runN != 0) && p != 0
  let s1 := (fun b => if ran then voltCheck p b else b) (cycleQuantities p ns s)
  let s2 := updPt p (fun x => { x with period := ns }) s1
  calWaiting (measCyc p ns (applyCyc p s2))

/-- The sample count is a multiple of 200: the 20 ms block of DC points ends (R201). -/
def blockEnd (s : Block) : Bool := s.asy.sampleCnt % 200 == 0

/-- A sample instant (R194): correction and quantities of every point, accumulation, pulse outputs, the B-CYC of DC points
(R201), and the residual-current samples (12 R368). -/
def sampleStep (xs : List (List RawSample)) (rcs : List Int) (b : Block) : Block :=
  if b.pwr.heldBy != .no then b
  else if b.pwr.assayDown then rcmSamples rcs b
  else
    let b1 := { b with asy := { b.asy with sampleCnt := (b.asy.sampleCnt + 1) % 4294967296, tinjN := b.asy.tinjN + 1 } }
    let b2 := if !metering b1 then b1
      else
        let b2 := points.foldl (fun s p => if ptOn p s then ptSample p (tget xs p) s else s) b1
        let incs := points.map fun p => ptIncrements p b2
        let b3 := pulses incs (accumulate incs b2)
        let b4 := { b3 with asy.measures := b3.asy.measures.map (measureSample xs b3) }
        if blockEnd b4 then
          points.foldl (fun s p => if s.ptType p == 3 then cycBoundary p 20000000 s else s) b4
        else b4
    rcmSamples rcs b2

/-! ### Temperature bands (R206–R208) -/

/-- The band that contains a temperature (R207). -/
def bandOf (t : Int) (s : Block) : Nat := (s.asy.edges.filter fun e => t ≥ e).length

/-- The band decision of R208; the first one after a whole-module reset has no hysteresis. -/
def bandDecide (first : Bool) (b : Nat) (t : Int) (s : Block) : Nat :=
  let bt := bandOf t s
  if first || bt > b then bt
  else if bt < b then (let h := bandOf (t + 5) s; if h < b then h else b)
  else b

/-- The source in use: source 0 while the named one is lost (R206). -/
def sourceOf (src : Nat) (s : Block) : Nat := if (tget s.asy.tsrc src).lost then 0 else src

/-- Field TSRC of a point. -/
def Block.tsrcOf (s : Block) (p : Nat) : Nat := s.p8 p 1

/-- The band of one point at a B-SEC, from the newest valid reading of its source (R208). -/
def ptBand (p : Nat) (s : Block) : Block :=
  let x := s.pt p
  let r := tget s.asy.tsrc (if x.tsrcFb then 0 else s.tsrcOf p)
  if !r.seen then s
  else
    let n := bandDecide (!x.bandSet) x.band r.t s
    let s1 := updPt p (fun x => { x with temp := r.t, bandSet := true, bandPend := n
                                         entPend := x.entPend || n != x.bandPend || !x.bandSet }) s
    if n != x.band && n != x.bandPend then raise 68 (p * 256 + x.band * 16 + n) s1 else s1

/-- The band decisions of a B-SEC, the display's among them (R208, 17 R498); over-range events may come again (R218). -/
def bandSecond (s : Block) : Block :=
  let s1 := points.foldl (fun s p => ptBand p s) s
  let r := tget s1.asy.tsrc (sourceOf (s1.d8 3) s1)
  let s2 := if r.seen then disBand (bandDecide (!s1.dis.bandSet) s1.dis.band r.t s1) r.t s1 else s1
  { s2 with asy.points := s2.asy.points.map fun x => { x with chans := x.chans.map fun c => { c with ovrSec := false } } }

/-- A temperature source exists: source 0, or a fitted I²C sensor. -/
def sourceFitted (k : Nat) (s : Block) : Bool :=
  k == 0 || (k ≤ 11 && s.cfg16 0x0003 (320 + 2 * (k - 1)) != 0)

def updSrc (k : Nat) (f : TempSrc → TempSrc) (s : Block) : Block := { s with asy.tsrc := tupd s.asy.tsrc k f }

/-- A temperature word, an i16 in 1/256 °C, in 0.1 °C, rounded toward 0 (20 R572). -/
def tempOf (raw : Nat) : Int := Int.tdiv (sgn 16 (raw % 65536) * 10) 256

/-- `TEMP_SOURCE_READ` (R206; 20 R572): the word that a source gives, or none where the transaction fails. The module's own
sensor is handed in the same form. -/
def execTempSourceRead (source : Nat) (raw : Option Nat) (s : State) : Out :=
  act (fun b =>
    if b.pwr.heldBy != .no || !sourceFitted source b then b
    else match raw with
      | some w => updSrc source (fun x => { x with
          t := tempOf w, seen := true, valid := true, lastAt := b.sys.mtime, runAt := if x.valid then x.runAt else b.sys.mtime }) b
      | none => updSrc source (fun x => { x with valid := false }) b) s

/-! ### Channel supervision (R214–R217) -/

/-- The effect of a channel fault on the point's outlet (R215). -/
def pointFault (p : Nat) (s : Block) : Block :=
  if p == 0 then balCheck s
  else if s.svcOf p == 0 || s.svcOf p == 3 || (s.pt p).latched then s
  else
    let s1 := updPt p (fun x => { x with latched := true }) s
    let s2 := stopSession p 6 s1
    becomeFaulted p (raise 74 (p * 256 + 1) s2)

/-- A channel fault (R214): one for each cause that begins. -/
def chFault (p c cause : Nat) (s : Block) : Block :=
  if !chInUse p c s || (s.ch p c).causes.contains cause then s
  else
    let s1 := updCh p c (fun x => { x with causes := cause :: x.causes, cause, faultS := true }) s
    pointFault p (flagPoint p 2 (raise 64 (cause * 65536 + p * 256 + c) s1))

/-- A fault of a channel clears (R214). -/
def chClear (p c cause : Nat) (s : Block) : Block :=
  if !(s.ch p c).causes.contains cause then s
  else
    let s1 := raise 65 (cause * 65536 + p * 256 + c) (updCh p c (fun x => { x with causes := x.causes.erase cause }) s)
    if p == 0 then balCheck s1 else s1

/-- `CH_SIGNAL_FAULT` (Table 7-9): causes 1 and 2 on a bitstream channel, 4 on an analogue one. -/
def execChSignalFault (point ch cause : Nat) (s : State) : Out :=
  act (fun b =>
    if pointOk point && metering b && (if ch ≤ 3 then cause == 4 else ch ≤ 7 && (cause == 1 || cause == 2)) then
      chFault point ch cause b
    else b) s

/-- `CH_FAULT_CLEAR` (Table 7-9): 1 s without the condition of a cause other than REFCHK. -/
def execChFaultClear (point ch cause : Nat) (s : State) : Out :=
  act (fun b =>
    if pointOk point && ch ≤ 7 && cause != 3 then chClear point ch cause b else b) s

/-- The in-use current channels of a point, in the order of R217. -/
def currentChans (p : Nat) (s : Block) : List Nat := (List.range 4).filter fun c => chInUse p c s

/-- The channel of the next scheduled check: the in-use one after the channel of the last check. DESIGN CHOICE: that is the
last check of either kind, so that a commanded one moves the order, which starts again at IA where CHECKS is 0. -/
def nextCheck (p : Nat) (s : Block) : Option Nat :=
  let l := currentChans p s
  match l.filter fun c => (s.pt p).lastCh < c with
  | c :: _ => if (s.pt p).checks == 0 then l.head? else some c
  | [] => l.head?

/-- No check runs on the channel now (R217). -/
def checkSuppressed (p c : Nat) (s : Block) : Bool :=
  s.sys.mode == .outage || bit s.asy.tinjCtrl 31 || (s.ch p c).runOvr || bit (s.pt p).ovr c || !s.asy.refOk

/-- `EV067` data (Table 7-11). -/
def refWord (dev : Int) (p c : Nat) : Nat :=
  let d := if dev > 32767 then 32767 else if dev < -32768 then -32768 else dev
  tc 16 d * 65536 + p * 256 + c

/-- The result of a reference check on a channel (R217); a passed commanded check clears REFCHK. -/
def refResult (p c : Nat) (dev : Int) (cmd : Option CmdRef) (s : Block) : Block :=
  let pass := dev.natAbs ≤ 500
  let s1 := updPt p (fun x => { x with lastCh := c, checks := (x.checks + 1) % 65536, dev })
    (updCh p c (fun x => { x with refFail := if pass then 0 else satInc 3 x.refFail, refPass := pass }) s)
  let s2 := countSelfTest 0 (!pass) s1
  let s3 := if pass then s2 else raise 67 (refWord dev p c) s2
  let s4 := if (s3.ch p c).refFail == 3 then chFault p c 3 s3 else s3
  match cmd with
  | none => s4
  | some r =>
    let s5 := if pass then chClear p c 3 s4 else s4
    complete r stOk (pi32 (satI32 dev) ++ p8 (b2n pass) ++ zeros 3) s5

/-- The comparison of the internal reference with the second one (R217). -/
def refDrift (dev : Int) (s : Block) : Block :=
  let good := dev.natAbs ≤ 200
  let s1 := countSelfTest 1 (!good) { s with asy := { s.asy with drift := dev, refOk := good } }
  if good then s1 else raise 67 (refWord dev 255 0) s1

/-- A deviation of `a` from `ref` in ppm. -/
def ppmOf (a ref : Int) : Int := roundDivI ((a - ref) * 1000000 * ref.sign) ref.natAbs

/-- The interpolation of the three samples between the first and the last of five (R217). -/
def interpolated (xs : List Int) : List Int :=
  let a := tget xs 0
  (upto 1 3).map fun j => a + roundDivI ((tget xs 4 - a) * Int.ofNat j) 4

/-- The deviation of a check (R217): the excess of the three samples over the interpolation, compared with the channel's
trimmed reference value. -/
def refDev (p c : Nat) (xs : List Int) : Int :=
  let e := (upto 1 3).foldl (fun a j => a + tget xs j - tget (interpolated xs) (j - 1)) 0
  ppmOf e (Int.ofNat (3 * Config.refTrim p c))

/-- One reference check on a channel (R217): its three samples are interpolated for every quantity, and its result is
judged. -/
def refCheck (p c : Nat) (xs : List Int) (cmd : Option CmdRef) (s : Block) : Block :=
  refResult p c (refDev p c xs) cmd (updPt p (fun x => { x with inj := some (c, interpolated xs) }) s)

/-- The scheduled check of a point is due (R217): INJPER seconds after the one before. -/
def injDue (p : Nat) (s : Block) : Bool := s.sys.mtime ≥ (s.pt p).injAt + 1000 * s.cfg16 0x0003 2

/-- `REFCHK_RUN` (R217): the check of a point, a commanded one first, with the channel's five samples around the injection
(before it, the three under it, after it); point 255 is the comparison of the internal reference with the second one. -/
def execRefchkRun (point : Nat) (xs : List Int) (s : State) : Out :=
  act (fun b =>
    if !metering b then b
    else if point == 255 then refDrift (ppmOf (tget xs 0) (tget xs 1)) b
    else if !pointOk point then b
    else match b.asy.injCmds.filter fun x => x.2.1 == point with
      | x :: _ =>
        if checkSuppressed point x.2.2 b then b
        else refCheck point x.2.2 xs (some x.1) { b with asy.injCmds := b.asy.injCmds.erase x }
      | [] => match nextCheck point b with
        | none => b
        | some c =>
          if checkSuppressed point c b || !injDue point b then b
          else refCheck point c xs none (updPt point (fun x => { x with injAt := b.sys.mtime }) b)) s

/-! ### Registers (Tables 7-13 to 7-17) -/

def modclk (k : Nat) (s : Block) : Bool :=
  let ps := if k == 1 then [0, 1, 2, 3] else if k == 2 then [4, 5, 6] else if k == 3 then [7, 8, 9] else [10, 11, 12]
  ps.any fun p => (upto 4 7).any fun c => chInUse p c s

/-- Faulted analogue (`o` 0) or bitstream (`o` 4) channels, bit 4p + c − o. -/
def faultMap (o : Nat) (s : Block) : Nat :=
  maskOf ((List.range 52).filter fun i => (s.ch (i / 4) (o + i % 4)).faulted)

def asyGlobal (a : Nat) (s : Block) : Option Word :=
  let y := s.asy
  match a with
  | 0x00 => some (reg [fld 16 16 (b2n (s.nomFreq == 60)), fld 11 0 (s.cfg16 0x0003 2)])
  | 0x04 => some (reg [fld 31 31 (b2n (!s.pwr.assayDown)), fld 30 30 (b2n (bit y.tinjCtrl 31)), fld 29 29 (b2n y.refOk),
      fld 12 0 (maskOf (points.filter fun p => ptFaultShown p s))])
  | 0x08 => some (w32 y.record.calid)
  | 0x0C => some (w32 y.record.calseq)
  | 0x10 => some (w32 y.sampleCnt)
  | 0x14 => some (w32 (calDirty s))
  | 0x18 => some (reg [fld 31 31 (b2n y.refOk), fld 15 0 (tc 16 y.drift)])
  | 0x1C => some (w32 (maskOf ((List.range 4).filter fun k => modclk (k + 1) s)))
  | 0x20 => some (lo32 (faultMap 0 s))
  | 0x24 => some (hi32 (faultMap 0 s))
  | 0x28 => some (lo32 (faultMap 4 s))
  | 0x2C => some (hi32 (faultMap 4 s))
  | 0x30 => some (w32 ((s.dbg.alog.head?.map fun e => e.aseq).getD 0))
  | 0x34 => some (w32 y.tinjCtrl)
  | 0x38 => some (w32 y.tinjAmp)
  | 0x3C => some (w32 y.tinjPh)
  | 0x40 => some (w32 y.tinjFreq)
  | 0x44 => some (w32 (maskOf ((List.range 12).filter fun k => (tget y.tsrc k).valid)))
  | _ => none

def pstat (p : Nat) (s : Block) : Word :=
  let x := s.pt p
  let f := maskOf (chans8.filter fun c => chInUse p c s && (s.ch p c).faulted)
  reg [fld 31 31 (b2n (ptFaultShown p s)), fld 30 30 (b2n x.cycTimer), fld 29 29 (b2n x.calreq), fld 28 28 (b2n x.tsrcFb),
       fld 27 27 (b2n (x.chans.any fun c => c.clamp)), fld 15 8 f, fld 7 0 x.ovr]

def injstat (p : Nat) (s : Block) : Word :=
  let x := s.pt p
  reg [fld 31 31 (b2n x.inj.isSome), fld 30 28 x.lastCh, fld 27 26 (s.ch p x.lastCh).refFail, fld 15 0 x.checks]

def asyPoint (p i : Nat) (s : Block) : Word :=
  let x := s.pt p
  match i with
  | 0 => reg [fld 31 30 (s.ptType p), fld 29 28 (s.p8 p 3), fld 27 24 (if x.tsrcFb then 0 else s.tsrcOf p),
              fld 23 16 (s.p8 p 2), fld 11 0 (u16At (s.ptConf p) 4)]
  | 1 => pstat p s
  | 2 => reg [fld 15 0 (tc 16 x.temp)]
  | 3 => reg [fld 11 8 x.bandPend, fld 3 0 x.band]
  | 4 => w32 x.period
  | 5 => w32 x.cyc
  | 6 => injstat p s
  | _ => w32 (tc 32 (satI32 x.dev))

def chstat (p c : Nat) (s : Block) : Word :=
  let x := s.ch p c
  reg [fld 31 31 (b2n x.faulted), fld 23 16 x.cause, fld 2 2 (b2n x.clamp), fld 1 1 (b2n x.ovrS), fld 0 0 (b2n x.faultS)]

def asyChan (p c i : Nat) (s : Block) : Option Word :=
  let x := s.ch p c
  match i with
  | 0 => some (w32 x.gain)
  | 1 => some (reg [fld 15 0 (tc 16 x.phase)])
  | 2 => some (w32 (tc 32 x.ofs))
  | 3 => some (reg [fld 31 16 (tc 16 x.tgain), fld 15 0 (tc 16 x.tphase)])
  | 4 => some (chstat p c s)
  | 5 => some (w32 (tc 32 x.sample))
  | 6 => some (w32 x.peak)
  | _ => none

/-- ASY block reads, by offset from 0x10_0000 (R224). -/
def rdAsy (a : Nat) (s : Block) : Option Word :=
  if a < 0x48 then asyGlobal a s
  else if 0x50 ≤ a && a < 0x8C then some (reg [fld 15 0 (tc 16 (tget s.asy.edges ((a - 0x50) / 4)))])
  else if 0x90 ≤ a && a < 0xC0 then
    let x := tget s.asy.tsrc ((a - 0x90) / 4)
    some (reg [fld 31 31 (b2n x.valid), fld 15 0 (tc 16 x.t)])
  else if a == 0xFC then some (w32 (maskOf (points.filter fun p => ptPending p s)))
  else if 0x1000 ≤ a && a < 0xE000 then
    let p := (a - 0x1000) / 0x1000
    let o := a % 0x1000
    if o < 0x20 then some (asyPoint p (o / 4) s)
    else if 0x100 ≤ o && o < 0x200 then asyChan p ((o - 0x100) / 0x20) (o % 0x20 / 4) s
    else none
  else none

/-- A write of `ASY_TINJ_CTRL` is permitted (R219). -/
def tinjMay (v : Nat) (s : Block) : Bool :=
  let p := bits v 11 8
  s.sys.mode == .commission && grantValid s &&
    (!bit v 31 || (1 ≤ p && p ≤ 12 && s.svcOf p != 1))

/-- `ASY_TINJ_CTRL` written (R219): `EV075` at the start and at the end. The angle at the start is free. -/
def tinjWrite (v : Nat) (s : Block) : Block :=
  let was := bit s.asy.tinjCtrl 31
  let s1 := { s with asy.tinjCtrl := Nat.land v 0x80000FFF }
  if bit v 31 && !was then
    let (k, s2) := s1.draw
    raise 75 (bits v 11 8 * 256 + v % 256) { s2 with asy := { s2.asy with tinjOrg := (Config.freeWord k).toNat, tinjN := 0 } }
  else if !bit v 31 && was then raise 75 (bits s.asy.tinjCtrl 11 8 * 256) s1
  else s1

/-- The other test-injection registers are writable under R219's mode and grant. -/
def tinjSet (f : Asy → Asy) (s : Block) : Wr :=
  if s.sys.mode == .commission && grantValid s then .ok { s with asy := f s.asy } else .notPerf

/-- Pending shadows, entries and discards of point p dropped (R108). -/
def ptDrop (p : Nat) (s : Block) : Block :=
  updPt p (fun x => { x with entPend := false, discard := false, bandPend := x.band }) (shadowDrop (ptShadow p) s)

/-- ASY writes (R205, R219, R224). -/
def wrAsy (a v : Nat) (s : Block) : Wr :=
  if a == 0x34 then (if tinjMay v s then .ok (tinjWrite v s) else .notPerf)
  else if a == 0x38 then tinjSet (fun y => { y with tinjAmp := v }) s
  else if a == 0x3C then tinjSet (fun y => { y with tinjPh := v % 65536 }) s
  else if a == 0x40 then tinjSet (fun y => { y with tinjFreq := v % 65536 }) s
  else if a == 0xFC then .ok (points.foldl (fun s p => if bit v p then ptDrop p s else s) s)
  else match rdAsy a s with
    | none => .berr
    | some _ =>
      let p := (a - 0x1000) / 0x1000
      let o := a % 0x1000
      if a < 0x1000 || o < 0x100 then .ok s
      else if o % 0x20 / 4 ≤ 2 then
        (if s.sys.mode == .commission && grantValid s && !alogFull s then .ok (shadowPut (0x100000 + a) v s) else .notPerf)
      else if o % 0x20 == 0x10 then
        .ok (updCh p ((o - 0x100) / 0x20) (fun x => { x with ovrS := x.ovrS && !bit v 1, faultS := x.faultS && !bit v 0 }) s)
      else .ok s

/-! ### Configuration (R199) -/

/-- The point has no B-CYC to wait for: TYPE 0 (R200), or the Assay core does not meter. -/
def noCyc (p : Nat) (s : Block) : Bool := s.ptType p == 0 || !metering s

/-- An applied change of section 0x0003 (R199): CALREQ for points whose type, sensors or scales changed, `EV072`, a record. A
point's new record takes effect at its B-CYC, or at once where it has none (01 R21). -/
def asyConfigured (old : List Byte) (s : Block) : Block :=
  let new := s.secBody 0x0003
  if old == new then s
  else
    let f := fun (b : List Byte) p => bytesAt b (8 + 24 * p) 1 ++ bytesAt b (8 + 24 * p + 2) 4 ++ bytesAt b (8 + 24 * p + 8) 12
    let hit := points.filter fun p => f old p != f new p
    let s1 := hit.foldl (fun s p => updPt p (fun x => { x with calreq := true }) s) s
    let s2 := (asyRecord 3 [maskOf hit] s1).getD s1
    let s3 := raise 72 (maskOf (points.filter fun p => (s2.pt p).calreq)) s2
    points.foldl (fun s p =>
      if bytesAt new (8 + 24 * p) 24 == s.ptConf p then updPt p (fun x => { x with confPend := false }) s
      else
        let s1 := updPt p (fun x => { x with confPend := true }) s
        if noCyc p s1 then applyConf p s1 else s1) s3

/-! ### Commands (Table 7-12) -/

def specAsyStatus : CmdSpec where
  op := 0x0300
  role := .general
  modes := mServed
  len := lenIs 4
  body := fun _ p s =>
    let n := u8At p 0
    if !pointOk n then refuse stBadParam s
    else ok (wordBytes ([asyPoint n 1 s, asyPoint n 3 s, asyPoint n 2 s, asyPoint n 4 s, asyPoint n 6 s, asyPoint n 7 s] ++
      chans8.map fun c => chstat n c s)) s

/-- `CMD_ASY_STATUS`. -/
def execCmdAsyStatus (h : Req) (p : List Byte) (s : State) : Out := act (runCmd specAsyStatus h p) s

def specAsyInjRun : CmdSpec where
  op := 0x0301
  role := .general
  modes := mWork
  len := lenIs 4
  body := fun r p s =>
    let n := u8At p 0
    let c := u8At p 1
    if !(pointOk n && c ≤ 3 && chInUse n c s) || checkSuppressed n c s then refuse stBadParam s
    else .accepted { s with asy.injCmds := s.asy.injCmds ++ [(r, n, c)] }

/-- `CMD_ASY_INJ_RUN`: answered by the point's next `REFCHK_RUN`. -/
def execCmdAsyInjRun (h : Req) (p : List Byte) (s : State) : Out := act (runCmd specAsyInjRun h p) s

/-- R216 holds for outlet n. -/
def asyResetOk (n : Nat) (s : Block) : Bool := outletOk n && (s.pt n).latched && !pointFaulted n s

def specAsyFaultReset : CmdSpec where
  op := 0x0302
  role := .general
  modes := [.standby, .service, .degraded, .maintain]
  len := lenIs 4
  pre := fun _ p s => badUnless (asyResetOk (u8At p 0) s)
  lock := lockOf
  body := fun _ p s =>
    let n := u8At p 0
    if !asyResetOk n s then refuse stBadParam s
    else ok [] (faultCleared n (raise 74 (n * 256) (updPt n (fun x => { x with latched := false }) s)))

/-- `CMD_ASY_FAULT_RESET` (R216). -/
def execCmdAsyFaultReset (h : Req) (p : List Byte) (s : State) : Out := act (runCmd specAsyFaultReset h p) s

def specAsyCalRead : CmdSpec where
  op := 0x0303
  role := .general
  modes := mServed
  len := lenIs 8
  body := fun _ p s =>
    let o := u32At p 0
    let n := u16At p 4
    if n < 1 || n > 4080 || o + n > 8384 then refuse stBadParam s
    else ok (bytesAt (calBytes s.asy.record) o n) s

/-- `CMD_ASY_CAL_READ`. -/
def execCmdAsyCalRead (h : Req) (p : List Byte) (s : State) : Out := act (runCmd specAsyCalRead h p) s

/-- An expert command recorded in the ASSAY event log before its effect; a full log refuses it (R223, R579). -/
def recorded (op : Nat) (p : List Byte) (s : Block) (f : Block → CmdRes) : CmdRes :=
  match asyRecord op (p.map fun b => b.toNat) s with
  | none => refuse stStorageFault s
  | some s1 => f s1

def specAsyCalMeasure : CmdSpec where
  op := 0x0380
  role := .general
  modes := mCommission
  len := lenIs 4
  body := fun r p s =>
    let n := u8At p 0
    let k := u16At p 2
    if !(pointOk n && ptOn n s && 10 ≤ k && k ≤ 500) then refuse stBadParam s
    else recorded 0x0380 p s fun s =>
      let z8 := List.replicate 8 (0 : Int)
      let z3 := List.replicate 3 (0 : Int)
      .accepted { s with asy.measures := s.asy.measures ++ [{ cmd := r, point := n, want := k, done := 0, on := false
                                                              n := 0, ns := 0, sq := z8, raw := z8, p := z3, q := z3 }] }

/-- `CMD_ASY_CAL_MEASURE`: answered after its cycles. -/
def execCmdAsyCalMeasure (h : Req) (p : List Byte) (s : State) : Out := act (runCmd specAsyCalMeasure h p) s

def specAsyTctabLoad : CmdSpec where
  op := 0x0381
  role := .general
  modes := mCommission
  len := lenIs 516
  body := fun _ p s =>
    let n := u8At p 0
    if !pointOk n then refuse stBadParam s
    else recorded 0x0381 p s fun s =>
      ok [] (updPt n (fun x => { x with
        table := (List.range 128).map fun i => u32At p (4 + 4 * i), entPend := true }) s)

/-- `CMD_ASY_TCTAB_LOAD` (R209): the entries of the band in force apply at the point's next B-CYC. -/
def execCmdAsyTctabLoad (h : Req) (p : List Byte) (s : State) : Out := act (runCmd specAsyTctabLoad h p) s

/-- Edges rise by at least 1.0 K (R207). -/
def edgesOk : List Int → Bool
  | a :: b :: r => a + 10 ≤ b && edgesOk (b :: r)
  | _ => true

def specAsyBandSet : CmdSpec where
  op := 0x0382
  role := .general
  modes := mCommission
  len := lenIs 32
  body := fun _ p s =>
    let e := (List.range 15).map fun k => i16At p (2 * k)
    if !edgesOk e then refuse stBadParam s
    else recorded 0x0382 p s fun s => ok [] { s with asy.edges := e }

/-- `CMD_ASY_BAND_SET`: used from the next band decision. -/
def execCmdAsyBandSet (h : Req) (p : List Byte) (s : State) : Out := act (runCmd specAsyBandSet h p) s

def specAsyCalCommit : CmdSpec where
  op := 0x0383
  role := .general
  modes := mCommission
  len := lenIs 4
  body := fun r p s =>
    if !asyClear s then .accepted { s with asy.commitCmds := s.asy.commitCmds ++ [(r, u32At p 0)] }
    else match calCommit (u32At p 0) s with
      | none => refuse stStorageFault s
      | some s1 => ok (p32 s1.asy.record.calseq) s1

/-- `CMD_ASY_CAL_COMMIT` (R213): it waits for pending shadows. -/
def execCmdAsyCalCommit (h : Req) (p : List Byte) (s : State) : Out := act (runCmd specAsyCalCommit h p) s

def specAsyCalDiscard : CmdSpec where
  op := 0x0384
  role := .general
  modes := mCommission
  len := lenIs 0
  body := fun _ p s =>
    recorded 0x0384 p s fun s =>
      ok [] { s with asy := { s.asy with edges := s.asy.record.edges
                                         points := s.asy.points.map fun x => { x with discard := true } } }

/-- `CMD_ASY_CAL_DISCARD` (R213): the committed values return at each point's next B-CYC. -/
def execCmdAsyCalDiscard (h : Req) (p : List Byte) (s : State) : Out := act (runCmd specAsyCalDiscard h p) s

def specsAsy : List CmdSpec :=
  [specAsyStatus, specAsyInjRun, specAsyFaultReset, specAsyCalRead, specAsyCalMeasure, specAsyTctabLoad, specAsyBandSet,
   specAsyCalCommit, specAsyCalDiscard]

end Sys2Proof.Machine
end

