-- ==== Sys2Proof/Machine/Billing.lean ====
section
/-!
DEFINITION. Tariffs, billing periods, Ingots, site credit and prepayment (09): what a billing action does, the units that
carry them, the Ingot commit, the calendar, the tokens, and the commands of Table 9-15.
-/

namespace Sys2Proof.Machine

/-! ### Configuration in force (Table 9-13) -/

def Block.b16 (s : Block) (o : Nat) : Nat := s.cfg16 0x0005 o
def Block.b32i (s : Block) (o : Nat) : Int := i32At (s.secBody 0x0005) o
def Block.lowth (s : Block) : Int := s.b32i 8
def Block.zeroth (s : Block) : Int := s.b32i 12
def Block.ecamt (s : Block) : Nat := s.cfg32 0x0005 16
def Block.debtcap (s : Block) : Nat := s.cfg32 0x0005 20
def updBil (f : Bil → Bil) (s : Block) : Block := { s with bil := f s.bil }

/-- The disconnection limit (R279). -/
def limitD (s : Block) : Int := s.zeroth - (if s.bil.ecActive then Int.ofNat s.ecamt else 0)

/-- The outlet limit of friendly hours (R279). -/
def limitF (s : Block) : Int := limitD s - Int.ofNat s.debtcap

/-- A sum in a signed 64-bit register: a free value where it falls outside (R278). -/
def fit64 (i : Int) (s : Block) : Int × Block :=
  if -9223372036854775808 ≤ i && i ≤ 9223372036854775807 then (i, s)
  else
    let (k, s1) := s.draw
    let (j, s2) := s1.draw
    (sgn 64 ((Config.freeWord k).toNat * 4294967296 + (Config.freeWord j).toNat), s2)

/-- A signed number saturated at the bounds of an i32 register. -/
def sat32 (i : Int) : Nat := tc 32 (if i > 2147483647 then 2147483647 else if i < -2147483648 then -2147483648 else i)

/-! ### Tariffs (R256–R261) -/

def tariffOf (k : Nat) (t : TarTable) : Tariff := tget t.t (k - 1)

/-- VALID of a tariff of the applied table. -/
def tariffValid (k : Nat) (s : Block) : Bool := 1 ≤ k && k ≤ 8 && bit (tariffOf k s.bil.table).info 0

/-- The special day that a local day is (R261). -/
def specialOf (day : Nat) (s : Block) : Option Nat :=
  ((List.range 32).filter fun j => s.b16 (424 + 4 * j) != 0 && s.b16 (424 + 4 * j) == day).head?

/-- The day profile of a local day (R261). -/
def profileOn (day : Nat) (s : Block) : Nat :=
  match specialOf day s with
  | some j => s.b8 (424 + 4 * j + 2) % 4
  | none => s.b8 (160 + weekday day) % 4

/-- The used switch points of a profile in their order: minute and tariff. -/
def switchPoints (p : Nat) (s : Block) : List (Nat × Nat) :=
  ((List.range 16).map fun i => (s.b16 (168 + 64 * p + 4 * i), s.b8 (168 + 64 * p + 4 * i + 2))).filter fun x =>
    x.1 != 0xFFFF

/-- The calendar's tariff now (R261). -/
def calTariff (s : Block) : Nat :=
  let m := localMinutes s.wall s
  let l := switchPoints (profileOn (m / 1440) s) s
  match (l.filter fun x => x.1 ≤ m % 1440).getLast? with
  | some x => x.2
  | none => (l.getLast?.map fun x => x.2).getD s.bil.inForce

/-- The tariff that Table 9-2 selects on the chip, and its source: 1 inputs, 2 calendar. -/
def chipTariff (s : Block) : Nat × Nat :=
  let src := s.b8 1 % 4
  if src == 1 || (src == 3 && s.bil.tselCode != 0) then (s.bil.tselCode + 1, 1)
  else if src == 2 || src == 3 then (calTariff s, 2)
  else if bit s.split 3 then (s.bil.inForce, 2)
  else (1, 2)

/-! ### Attribution (R266, R267, R278) -/

/-- The session's cost (R276). -/
def sesCost (e : Session) : Int :=
  (upto 1 8).foldl (fun a k =>
    a + Int.ofNat (tget e.tarImp (k - 1)) * (tariffOf k e.table).pdimp / 1000000
      - Int.ofNat (tget e.tarExp (k - 1)) * (tariffOf k e.table).pdexp / 1000000) 0

/-- The increase of an open session's point since its marks (R266). -/
def attributeSes (n : Nat) (s : Block) : Block :=
  let e := s.ses n
  if !e.metered then s
  else
    let i := tget (accVis n s) 0
    let x := tget (accVis n s) 1
    let k := s.bil.inForce - 1
    updSes n (fun e => { e with
      tarImp := tupd e.tarImp k (· + (i - e.markImp)), tarExp := tupd e.tarExp k (· + (x - e.markExp))
      markImp := max i e.markImp, markExp := max x e.markExp }) s

/-- The debit of site credit for an import of MP00 (R278). -/
def debit (d : Nat) (s : Block) : Block :=
  if !s.ppen then s
  else
    let r := Int.ofNat s.bil.residue + Int.ofNat d * (tariffOf s.bil.inForce s.bil.table).psite
    let q := r / 1000000
    let (c, s1) := fit64 (s.bil.credit - q) s
    updBil (fun b => { b with credit := c, residue := (r % 1000000).toNat, perDebit := b.perDebit + q }) s1

/-- The increases since the marks attributed to the tariff in force (R266). -/
def attributeAll (s : Block) : Block :=
  let i := tget (accVis 0 s) 0
  let x := tget (accVis 0 s) 1
  let b := s.bil
  let k := b.inForce - 1
  let s1 := outlets.foldl (fun s n => attributeSes n s) (debit (i - b.markImp) s)
  updBil (fun c => { c with
    tregImp := tupd c.tregImp k (· + (i - b.markImp)), tregExp := tupd c.tregExp k (· + (x - b.markExp))
    markImp := max i b.markImp, markExp := max x b.markExp }) s1

/-! ### Calendar of billing periods (R269) -/

/-- PERIODCAL and PDAY select local day `day`. -/
def periodDay (day : Nat) (s : Block) : Bool :=
  match s.b8 2 with
  | 1 => true
  | 2 => weekday day == s.b8 3
  | 3 => (civil day).2 == s.b8 3
  | _ => false

/-- Start in ms of the DST period that a wall time lies in. -/
def dstStart (w : Int) (s : Block) : Option Int :=
  ((List.range 16).filter fun i => inDst w i s).head?.map fun i => Int.ofNat (s.cfg32 0x0005 (32 + 8 * i) * 1000)

/-- The wall instant at which local time reaches PMIN on local day `day`: within DST where that instant comes first;
where the start of DST skips it, that start. -/
def boundaryOn (day : Nat) (s : Block) : Int :=
  let w0 := (Int.ofNat (day * 1440 + s.b16 4) - i16At (s.secBody 0x0005) 6) * 60000
  let w1 := w0 - Int.ofNat (s.b8 25) * 60000
  if (dstStart w1 s).isSome then w1
  else match dstStart w0 s with
    | none => w0
    | some a => a

/-- The calendar boundaries of the 33 days before and after a wall time, ascending. -/
def boundariesNear (w : Int) (s : Block) : List Int :=
  let d := localMinutes w s / 1440
  ((upto (d - 33) (d + 33)).filter fun x => periodDay x s).map fun x => boundaryOn x s

/-- The latest calendar boundary at or before a wall time. -/
def latestBoundary (w : Int) (s : Block) : Option Int := ((boundariesNear w s).filter fun b => b ≤ w).getLast?

/-- The next boundary after W_last (R269). -/
def nextBoundary (s : Block) : Option Int :=
  let l := s.bil.perLast
  ((boundariesNear (max l 0) s).filter fun b => b > l).head?

/-- The MTIME at which the next boundary falls due, 0 without a calendar. -/
def periodNext (s : Block) : Nat :=
  match nextBoundary s with
  | none => 0
  | some b => (b - s.sys.wallOfs).toNat

/-- W_last moved to the latest boundary that wall time has reached (R269). -/
def markBoundary (s : Block) : Block :=
  match latestBoundary s.wall s with
  | none => s
  | some b => updBil (fun x => { x with perLast := max x.perLast b }) s

/-! ### Ingots (R272, R273) -/

/-- Bytes 0 to 383 of an Ingot (Table 9-5); ISEQ, FLAGS and PREV are filled in at the seal. -/
def ingotBody (type point mtOpen t0 ref reason gseq : Nat) (accEnd : List Nat) (start : Nat × Nat) (body : List Byte)
    (m1 m2 : Int) (aux1 aux2 : Nat) (subject : List Byte) (s : Block) : List Byte :=
  p16 0x0101 ++ p8 type ++ p8 point ++ p32 0 ++ p64 serialNum ++ p64 mtOpen ++ p64 t0 ++ pi64 s.sys.wallOfs ++ p32 ref ++
    p16 0 ++ p8 reason ++ p8 s.bil.inForce ++ p32 gseq ++ p32 s.asy.record.calseq ++
    (List.range 8).flatMap (fun q => p64 (tget accEnd q)) ++ p64 start.1 ++ p64 start.2 ++ fixLen 128 body ++ pi64 m1 ++
    pi64 m2 ++ p32 aux1 ++ p32 aux2 ++ fixLen 32 subject ++ zeros 64

/-- Two energies per tariff (BODY of SESSION and PERIOD). -/
def tarBody (i x : List Nat) : List Byte := (List.range 8).flatMap fun k => p64 (tget i k) ++ p64 (tget x k)

/-- A draft joins the unit of a sequence number. -/
def addDraft (gseq : Nat) (d : Draft) (s : Block) : Block :=
  updBil (fun b => { b with units := b.units.map fun u =>
    if u.gseq == gseq then { u with drafts := u.drafts ++ [d] } else u }) s

/-- Conditions of Table 9-6 that hold now on a point: a faulted channel, FORBID, OUTAGE. -/
def flagsNow (p : Nat) (s : Block) : Nat :=
  maskOf ((if pointFaulted p s then [2] else []) ++ (if (s.pq p).forbid then [6] else []) ++
    (if s.nrg.bal.st == .mismatch then [7] else []) ++ (if s.sys.mode == .outage then [8] else []))

/-- A mark of Table 9-6 kept while its condition holds. -/
def flagsGather (p : Nat) (s : Block) : Block :=
  ((List.range 9).filter fun k => bit (flagsNow p s) k).foldl (fun s k => flagPoint p k s) s

/-- One Ingot sealed (R273): ISEQ, FLAGS, PREV, HASH, SIG, the store of the newest 8,192, the tag's
INGOT blocks, `EV098`, `EV112`. -/
def sealDraft (replayed : Bool) (d : Draft) (s : Block) : Block :=
  let q := (s.bil.iseq + 1) % 4294967296
  let fl := Nat.lor d.flags (maskOf ((if replayed then [3] else []) ++ (if s.cru.evalCause == 0 then [] else [5])))
  let body := putBytes (putBytes (putBytes d.body 4 (p32 q)) 44 (p16 fl)) 320 (fixLen 64 s.bil.prevHash)
  let hash := sha512 body
  let ing := body ++ hash ++ slotSign 1 hash
  let w := q % 16777216 * 256 + d.type
  let s1 := updBil (fun b => { b with
    iseq := q, prevHash := hash, cntIngot := inc32 b.cntIngot
    ingots := (ing :: b.ingots).take 8192 }) (engOp 2 (engOp 1 (tagPut 48 ing s)))
  let s2 := raise 98 w s1
  let s3 := if replayed && d.type == 1 then raise 99 w s2 else s2
  if q - s3.bil.ackIseq > 7168 then raise 112 (q - s3.bil.ackIseq) s3 else s3

/-- The session of an outlet is over once its Ingot is sealed (R304, Table 10-6): PARKED with a vehicle, else IDLE; the
commands that wait for it complete. -/
def sessionEnd (n : Nat) (s : Block) : Block :=
  let e := s.ses n
  let c := (s.ol n).cp
  let s1 := replan (raise 130 (e.reason * 256 + n) (updSes n (fun e => { e with
    st := if 1 ≤ c && c ≤ 3 then .parked else .idle, stAt := s.sys.mtime, stopCmds := [] }) s))
  coreFree n (e.stopCmds.foldl (fun s r => complete r stOk [] s) s1)

/-- The session's Ingot is sealed: a SEALING session is over. -/
def sessionSealed (n : Nat) (s : Block) : Block := if (s.ses n).st == .sealing then sessionEnd n s else s

/-! ### Prepayment state (R282, Table 9-8) -/

/-- A lock that a command took for a sequence that outlives it passes to Bylith. -/
def handOver (r : CmdRef) (n : Nat) (s : Block) : Block :=
  if s.pln.taken.contains (r, n) then
    updLock n (fun l => { l with owner := 1 }) { s with pln.taken := s.pln.taken.filter fun t => t != (r, n) }
  else s

/-- CONNECTED to ARMED: locks, the controlled stop of every outlet, sessions end with reason 5. In OUTAGE every driver is off
already, and only the sessions stop. -/
def ppArm (s : Block) : Block :=
  let s1 := setPp .armed (coreTake 13 (coreTake 0 s))
  if s1.sys.mode == .outage then stopSessions 5 (fun _ => true) s1 else cstopBegin 5 s1

/-- The locks of a disconnection released; a mode transition keeps `LOCK00`. -/
def ppUnlock (s : Block) : Block :=
  let s1 := coreFree 13 s
  if s1.sys.trans.isSome then s1 else coreFree 0 s1

/-- Bylith can take a lock: it is free, or a sequence of its own holds it. -/
def coreMay (n : Nat) (s : Block) : Bool := (tget s.pln.locks n).owner ≤ 1

/-- Site credit after an application or an activation (Table 9-8): `credited` for a credit application. -/
def ppCredited (credited : Bool) (s : Block) : Block :=
  if s.bil.credit > limitD s then
    match s.bil.pp with
    | .armed => if credited then ppUnlock (setPp .connected s) else s
    | .disconnected => setPp .reconnectAllowed s
    | _ => s
  else s

/-- DISCONNECTED to RECONNECT_ALLOWED (type 3 token, `CMD_BIL_RELAY_REQ` ALLOW). -/
def ppAllow (s : Block) : Block := if s.bil.pp == .disconnected then setPp .reconnectAllowed s else s

/-- A local act that RECON permits takes effect under `LOCK00` (R282); while another owner holds the lock it waits (DESIGN
CHOICE: to the next B-SEC at which it is free). -/
def localTry (act_ : Nat) (s : Block) : Block :=
  if s.bil.pp == .reconnectAllowed && bit (s.b8 24) (act_ - 1) && !s.inMode [.outage, .safestop] then
    if coreMay 0 s then updBil (fun b => { b with actDue := 0 }) (underLock 0 (fun s => closeRequest 13 (setPp .connected s)) s)
    else updBil (fun b => { b with actDue := act_ }) s
  else updBil (fun b => { b with actDue := 0 }) s

/-- A local act: 1 card, 2 service button (R282). -/
def localAct (act_ : Nat) (s : Block) : Block := localTry act_ (updBil (fun b => { b with relayAct := act_ }) s)

/-- A commit with PPEN 0 (Table 9-8). -/
def ppOff (s : Block) : Block :=
  match s.bil.pp with
  | .armed | .disconnected | .reconnectAllowed => ppUnlock (setPp .reconnectAllowed s)
  | _ => s

/-! ### Tokens (R284–R287) -/

/-- A sequence number is inside its window and unused (R286). -/
def tokFresh (w : TokWin) (q : Nat) : Bool :=
  q != 0 && (q > w.high || (q < w.high && w.high - q < 64 && !bit w.map (w.high - q)))

/-- The window with a sequence number used (R286). -/
def tokUse (w : TokWin) (q : Nat) : TokWin :=
  if q > w.high then ⟨q, setBit (if q - w.high < 64 then w.map * 2 ^ (q - w.high) % 2 ^ 64 else 0) 0⟩
  else ⟨w.high, setBit w.map (w.high - q)⟩

/-- The open sessions that a session credit token may serve: SUBJECT, state, outlet mask; the lowest SESID (R277). -/
def matchSession (subject : List Byte) (mask : Nat) (s : Block) : Option Nat :=
  (outlets.filter fun n =>
    let e := s.ses n
    bit mask (n - 1) && e.subject == subject && (e.st == .authorised || e.st == .active || e.st == .paused)).foldl
    (fun best n => match best with
      | none => some n
      | some m => if (s.ses n).sesid < (s.ses m).sesid then some n else some m) none

/-- A length and VERSION fit a TYPE, and an AMOUNT its range (check 1). -/
def tokFormat (t : List Byte) : Option Nat :=
  let ty := u8At t 1
  if u8At t 0 != 1 || ty == 0 || ty > 4 then some stBadParam
  else if t.length != (if ty == 4 then 208 else 128) then some stBadLength
  else if ty ≤ 2 && !(1 ≤ i64At t 16 && i64At t 16 ≤ 1099511627776) then some stBadParam
  else none

/-- The first check of Table 9-11 that fails: reason code and status. `sess` answers whether a type 2 token has its
session. -/
def tokCheck (t : List Byte) (sess : Bool) (s : Block) : Option (Nat × Nat) :=
  let ty := u8At t 1
  let k := u8At t 2
  match tokFormat t with
  | some st => some (1, st)
  | none =>
    if u64At t 8 != serialNum then some (2, stBadParam)
    else if k > 3 || (tget s.cru.slots (8 + k)).attr == 0 then some (3, stBadParam)
    else if ty != 4 && i64At t 24 != 0 && i64At t 24 ≤ s.wall then some (4, stBadParam)
    else if !tokFresh (tget s.bil.tokWin k) (u32At t 4) then some (5, stBadParam)
    else if (ty == 1 || ty == 3) && !s.ppen then some (8, stBadParam)
    else if ty == 2 && !sess then some (7, stBadParam)
    else if !edVerify (tget s.cru.slots (8 + k)).key (t.take (t.length - 64)) (t.drop (t.length - 64)) then
      some (6, stAuthFailed)
    else none

/-- A token refused: `EV110` and the counter. Sources: 1 host, 2 Marigold, 3 card. -/
def tokReject (source reason : Nat) (t : List Byte) (s : Block) : Block :=
  raise 110 (source * 65536 + reason * 256 + u8At t 1)
    (updBil (fun b => { b with tokRej := inc32 b.tokRej }) (if reason == 6 then engOp 2 s else s))

/-- A token takes effect: its sequence number used, `EV109`, the counter. -/
def tokTaken (t : List Byte) (s : Block) : Block :=
  raise 109 (u32At t 4 % 16777216 * 256 + u8At t 1 * 16 + u8At t 2)
    (updBil (fun b => { b with tokWin := tupd b.tokWin (u8At t 2) (tokUse · (u32At t 4)), tokCnt := inc32 b.tokCnt }) (engOp 2 s))

/-- The tariff table that a type 4 token carries (Table 9-1, R284). -/
def tokTable (t : List Byte) : TarTable :=
  { tseq := u32At t 4
    t := (List.range 8).map fun k => ⟨Int.ofNat (u32At t (16 + 16 * k)), Int.ofNat (u32At t (20 + 16 * k)),
      Int.ofNat (u32At t (24 + 16 * k)), u32At t (28 + 16 * k)⟩ }

/-- A tariff table applies (R257): `EV111`. -/
def applyTable (t : TarTable) (s : Block) : Block :=
  raise 111 (t.tseq % 2147483648) (updBil (fun b => { b with table := t, staged := none }) s)

/-- An accepted tariff table is staged, or applies at once where none has applied yet (R257). -/
def takeTable (t : List Byte) (s : Block) : Block :=
  let tab := tokTable t
  let s1 := tokTaken t s
  if s1.bil.table.tseq == 0 then applyTable tab s1
  else raise 111 (2147483648 + tab.tseq % 2147483648) (updBil (fun b => { b with staged := some tab }) s1)

/-- A session's LIMIT raised by an amount (R277). -/
def addLimit (n : Nat) (amount : Int) (s : Block) : Block := updSes n (fun e => { e with limit := e.limit + amount }) s

/-- REMAIN of a session as an i64 (R276). -/
def remain (n : Nat) (s : Block) : Int :=
  let e := s.ses n
  if e.limit == 0 then 0x7FFFFFFFFFFFFFFF else e.limit - sesCost e

/-! ### Billing actions (R262, Table 9-4) -/

/-- A tariff switch applies, or is ignored (R258): `EV096`. The host's, by an action (source 3) or a plan (4), counts only while
Table 9-2 gives the selection to the host; DESIGN CHOICE: else it is ignored as one that is not VALID. -/
def tariffSelect (k source : Nat) (s0 : Block) : Block :=
  let s := attributeAll s0
  let b := s.bil
  let new := if tariffValid k s && (source < 3 || s.assisted 3) then k else b.inForce
  raise 96 (source * 256 + b.inForce * 16 + new)
    (updBil (fun b => { b with
      inForce := new, lastSource := if new == k then source else b.lastSource
      pend := match b.pend with
        | some p => if p.tariff == k then none else some p
        | none => none }) s)

/-- A billing period closes at t0 (R268, R269): the PERIOD draft, the maxima, the next period, `EV097`. -/
def periodClose (t0 gseq reason : Nat) (s0 : Block) : Block :=
  let s := flagsGather 0 (attributeAll s0)
  let b := s.bil
  let q := (b.pseq + 1) % 4294967296
  let acc := accVis 0 s
  let d : Draft :=
    { type := 2, point := 0, flags := b.perFlags
      body := ingotBody 2 0 b.perStart t0 q reason gseq acc (tget b.perAcc 0, tget b.perAcc 1)
        (tarBody b.tregImp b.tregExp) b.credit b.perDebit (tget s.nrg.dem.maxImp 0) (tget s.nrg.dem.maxExp 0) [] s }
  let s1 := demandClear (addDraft gseq d (coreTake 16 (coreTake 15 s)))
  markBoundary (raise 97 q (updBil (fun b => { b with
    pseq := q, perStart := t0, perWall := Int.ofNat t0 + s.sys.wallOfs, perAcc := acc, perDebit := 0, perFlags := 0
    stepClose := false }) s1))

/-- A PREPAY draft (Table 9-5). -/
def prepayDraft (t0 gseq kind : Nat) (tok : List Byte) (before : Int) (s : Block) : Block :=
  let k1 := kind == 1
  addDraft gseq
    { type := 3, point := 0, flags := flagsNow 0 s
      body := ingotBody 3 0 t0 t0 (if k1 then u32At tok 4 else 0) kind gseq (accVis 0 s) (0, 0)
        (if k1 then bytesAt tok 0 64 else []) before s.bil.credit 0 0 (if k1 then bytesAt tok 32 32 else []) s } s

/-- Emergency credit ends when a credit application leaves CREDIT at or above ZEROTH (R280). -/
def ecRepaid (s : Block) : Block :=
  if s.bil.ecActive && s.bil.credit ≥ s.zeroth then raise 103 0 (updBil (fun b => { b with ecActive := false }) s) else s

/-- R280 permits activation. -/
def ecAvail (s : Block) : Bool := s.ppen && s.ecamt > 0 && s.bil.credit < s.lowth && !s.bil.ecActive

/-- An amount added to CREDIT, with what follows from it (R280, Table 9-8). -/
def creditAdd (t0 gseq kind : Nat) (tok : List Byte) (amount : Int) (s0 : Block) : Block :=
  let s := attributeAll s0
  let before := s.bil.credit
  let (c, s1) := fit64 (before + amount) s
  let s2 := ecRepaid (updBil (fun b => { b with credit := c }) s1)
  ppCredited true (prepayDraft t0 gseq kind tok before s2)

/-- A site credit token applied, where its sequence number is still unused (R286, R287). -/
def creditToken (t0 gseq : Nat) (tok : List Byte) (s : Block) : Block :=
  if tokFresh (tget s.bil.tokWin (u8At tok 2)) (u32At tok 4) then
    creditAdd t0 gseq 1 tok (i64At tok 16) (tokTaken tok s)
  else s

/-- `CREDIT_APPLY` (Table 9-4). The units that Bylith makes of a token or an adjustment carry its bytes after the 12 ARG
bytes, with SLOT 0xFF; a slot without a token applies nothing. -/
def creditApply (t0 gseq : Nat) (arg : List Byte) (s : Block) : Block :=
  let slot := u8At arg 1
  match u8At arg 0 with
  | 1 =>
    if slot == 0xFF then creditToken t0 gseq (arg.drop 12) s
    else match tget s.bil.slots slot with
      | some (tok, _) => creditToken t0 gseq tok (updBil (fun b => { b with slots := tput b.slots slot none }) s)
      | none => s
  | 2 =>
    if ecAvail s then
      let s1 := attributeAll s
      let s2 := raise 103 1 (updBil (fun b => { b with ecActive := true }) s1)
      ppCredited false (prepayDraft t0 gseq 2 [] s1.bil.credit s2)
    else s
  | 3 => if slot == 0xFF then creditAdd t0 gseq 3 [] (i64At arg 12) s else s
  | _ => s

/-- `INGOT_CLOSE` of outlet n (R262, R304): the SESSION draft; a session that still runs is stopped. -/
def ingotClose (t0 gseq n reason : Nat) (s0 : Block) : Block :=
  if !(s0.ses n).metered then s0
  else
    let s := flagsGather n (attributeAll s0)
    let e := s.ses n
    let d : Draft :=
      { type := 1, point := n, flags := e.flags
        body := ingotBody 1 n e.mtOpen t0 e.sesid reason gseq (accVis n s) (tget e.accOpen 0, tget e.accOpen 1)
          (tarBody e.tarImp e.tarExp) (sesCost e) e.limit e.table.tseq 0 e.subject s }
    let s1 := stopSession n reason s
    addDraft gseq d (updSes n (fun e => { e with drafted := true, reason, cost := sesCost e }) s1)

/-- One billing action of a unit at t0. ARG byte 1 of a `TARIFF_SELECT` that Bylith makes is its source; a host action
has 0 there. -/
def billAct (t0 gseq : Nat) (s : Block) (a : GAction) : Block :=
  match a.code with
  | 0x0301 => underLock 14 (tariffSelect (u8At a.arg 0) (if u8At a.arg 1 == 0 then 3 else u8At a.arg 1)) s
  | 0x0302 => periodClose t0 gseq (u8At a.arg 0) s
  | 0x0303 =>
    if u8At a.arg 0 == 1 && s.nrg.dem.nextEnd ≤ t0 then scheduleEnd (demandEnd t0 false s) else demandEnd t0 false s
  | 0x0304 => creditApply t0 gseq a.arg s
  | 0x0305 => ingotClose t0 gseq a.target (u8At a.arg 0) s
  | _ => s

/-- The DUE record of this instant with a unit's t0 (R173, Table 9-4). -/
def dueNow (t0 : Nat) (s : Block) : DueRec :=
  let d := s.nrg.dem
  { t0, accs := points.map fun p => accVis p s, vals := bilVals s, maxImp := tget d.maxImp 0, maxExp := tget d.maxExp 0
    demImp := d.demImp, demExp := d.demExp }

/-- Actions among which is a period close. -/
def closesPeriod (l : List GAction) : Bool := l.any fun a => a.code == 0x0302

/-- Both locks of a period close are free, or held by the owner whose unit closes; Bylith's closes are made one at a time
(R268). -/
def mayClose (owner : Nat) (acts : List GAction) (s : Block) : Bool :=
  !closesPeriod acts || [15, 16].all fun n =>
    let o := (tget s.pln.locks n).owner
    o == 0 || (o == owner && owner != 1)

/-- The billing actions of one unit applied at t0, its DUE record first, a staged tariff table last where the unit closes a period (R257,
R265). -/
def applyUnit (owner gseq t0 : Nat) (cmds : List CmdRef) (acts : List GAction) (s : Block) : Block :=
  let s0 := updBil (fun b => { b with units := b.units ++ [⟨gseq, t0, [], cmds, owner, dueNow t0 s, none⟩] }) s
  let s1 := acts.foldl (billAct t0 gseq) s0
  saveBil (if closesPeriod acts then
    match s1.bil.staged with
    | some t => applyTable t s1
    | none => s1
  else s1)

/-! ### Units complete (R174, R262, R273) -/

/-- The `OK` payload of a command by its opcode (R174, Table 9-15). -/
def unitPayload (u : BilUnit) (r : CmdRef) (s : Block) : List Byte :=
  let op := ((findEntry r.id (s.box r.mb).entries).map fun e => e.opcode).getD 0
  if op == 0x0210 then p32 u.gseq ++ p32 0 ++ p64 u.t0
  else if op == 0x0501 then
    match (s.bil.ingots.filter fun i => u8At i 2 == 2).head? with
    | some i => bytesAt i 40 4 ++ bytesAt i 4 4
    | none => zeros 8
  else if op == 0x0504 then p8 0xFF ++ zeros 7 ++ pi64 s.bil.credit
  else pi64 s.bil.credit

/-- The slot of a DUE group. -/
def dueSlot (gseq : Nat) (s : Block) : Option (Nat × Group) :=
  (List.range 16).foldl (fun r i => match r, tget s.pln.groups i with
    | none, some g => if g.gseq == gseq && g.due.isSome then some (i, g) else none
    | r, _ => r) none

/-- A unit may be sealed: `LOCK16` is free, in Bylith's hands, its owner's, or taken by a command whose own unit is to come
(R273). -/
def maySeal (u : BilUnit) (s : Block) : Bool :=
  let o := (tget s.pln.locks 16).owner
  o ≤ 1 || o == u.owner || s.pln.taken.any fun t => t.2 == 16

/-- A unit is complete: its group's slot is free, its commands complete with `OK`, the close's locks are released. -/
def finishUnit (u : BilUnit) (s : Block) : Block :=
  let s1 := updBil (fun b => { b with units := b.units.filter fun v => v.gseq != u.gseq }) s
  let (cmd, s2) := match dueSlot u.gseq s1 with
    | some (i, g) => (g.cmd, { s1 with pln.groups := tput s1.pln.groups i none })
    | none => (none, s1)
  let s3 := (cmd.toList ++ u.cmds).foldl (fun s r => complete r stOk (unitPayload u r s) s) s2
  if s3.bil.units.any fun v => v.drafts.any fun d => d.type == 2 then s3 else coreFree 15 (coreFree 16 s3)

/-- A unit's Ingots sealed and written in its Ingot commit; a replayed unit without an Ingot in a periodic save (R63, R186,
R273). -/
def sealUnit (replayed : Bool) (u : BilUnit) (s : Block) : Block :=
  let s1 := u.drafts.foldl (fun s d => sealDraft replayed d s) s
  let s2 := finishUnit u (commit (if u.drafts == [] then comPeriodic else comIngot) s1)
  (u.drafts.filter fun d => d.type == 1).foldl (fun s d => sessionSealed d.point s) s2

/-- A unit sealed in the final commit (02 Table 2-8 step 6): the commands that it completes answer at recovery (02 R65). -/
def sealAtPf (s : Block) (u : BilUnit) : Block :=
  if !maySeal u s then s else
  let s1 := u.drafts.foldl (fun s d => sealDraft false d s) s
  let s2 := updBil (fun b => { b with units := b.units.filter fun v => v.gseq != u.gseq }) s1
  let (cmd, s3) := match dueSlot u.gseq s2 with
    | some (i, g) => (g.cmd, { s2 with pln.groups := tput s2.pln.groups i none })
    | none => (none, s2)
  let s4 := (cmd.toList ++ u.cmds).foldl (fun s r =>
    updBil (fun b => { b with atPf := b.atPf ++ [(r, unitPayload u r s)] }) s) s3
  (u.drafts.filter fun d => d.type == 1).foldl (fun s d =>
    let stops := (s.ses d.point).stopCmds
    sessionSealed d.point (updBil (fun b => { b with atPf := b.atPf ++ stops.map fun r => (r, []) })
      (updSes d.point (fun e => { e with stopCmds := [] }) s))) s4

/-- The unit with drafts that comes first in ISEQ order. -/
def nextSeal (s : Block) : Option BilUnit :=
  (s.bil.units.filter fun u => u.drafts != []).head?

/-- Crucible can sign. -/
def signing (s : Block) : Bool :=
  !s.pwr.crucDown && !s.inMode [.factory, .provision, .selftest, .outage, .zeroised]

/-- `INGOT_COMMIT` (R273): nothing while Crucible is in reset or no unit waits. -/
def execIngotCommit (s : State) : Out :=
  act (fun b => match nextSeal b with
    | some u => if signing b && maySeal u b then sealUnit false u b else b
    | none => b) s

/-- Every unit with drafts sealed at once, in order (R273). -/
def sealPending (s : Block) : Block :=
  if signing s then
    (s.bil.units.filter fun u => u.drafts != []).foldl (fun s u => if maySeal u s then sealUnit false u s else s) s
  else s

/-- Units without an Ingot complete at a periodic save (R174). -/
def unitsSaved (s : Block) : Block :=
  (s.bil.units.filter fun u => u.drafts == []).foldl (fun s u => finishUnit u s) s

/-! ### Making units (R263–R265, R291) -/

def actCount (l : List Group) : Nat := l.foldl (fun a g => a + g.acts.length) 0
def heldGroups (s : Block) : List Group := s.pln.groups.filterMap id
def mbGroup (g : Group) : Bool := 16 ≤ g.owner && g.owner ≤ 23

/-- R170 leaves room for one more group of `n` actions, of a mailbox or of Bylith. -/
def groupRoom (mailbox : Bool) (n : Nat) (s : Block) : Bool :=
  let l := heldGroups s
  let h := l.filter mbGroup
  l.length < 16 && actCount l + n ≤ 128 && (!mailbox || (h.length < 12 && actCount h + n ≤ 96))

/-- A group in the first free slot. -/
def putGroup (g : Group) (s : Block) : Block :=
  match (List.range 16).filter fun i => (tget s.pln.groups i).isNone with
  | i :: _ => { s with pln.groups := tput s.pln.groups i (some g) }
  | [] => s

/-- The next group sequence number (R172). -/
def nextGseq (s : Block) : Nat := (s.pln.gseq + 1) % 4294967296

/-- A transactional unit of class IMM: its group falls due at t0 and its actions apply (R173). -/
def dueUnit (owner tag : Nat) (cmd : Option CmdRef) (acts : List GAction) (s : Block) : Block :=
  let q := nextGseq s
  let t0 := s.sys.mtime
  let g : Group := { gseq := q, owner, acts, bclass := 0, inst := 0, notBefore := 0, deadline := 0, tag, cmd
                     due := some (dueNow t0 s), missed := none }
  let s1 := putGroup g { s with pln.gseq := q }
  applyUnit owner q t0 [] acts s1

/-- A unit of Bylith that finds no room is held whole, journaled under its GSEQ: `EV114` (R264). -/
def holdUnit (acts : List GAction) (s : Block) : Block :=
  let q := nextGseq s
  let s1 := updBil (fun b => { b with heldUnits := b.heldUnits ++ [⟨acts, 1, none, q⟩] }) { s with pln.gseq := q }
  raise 114 (min s1.bil.heldUnits.length 255 * 256 + acts.length) (replan s1)

/-- A scheduled unit of Bylith joins the queue, or is held (R263, R264). -/
def queueUnit (acts : List GAction) (s : Block) : Block :=
  let b := s.bil
  if b.heldUnits == [] && queueLen b.queue + acts.length ≤ 64 then
    let q := nextGseq s
    updBil (fun b => { b with queue := b.queue ++ [⟨acts, 1, none, q⟩] }) { s with pln.gseq := q }
  else holdUnit acts s

/-- One unit of all the billing actions that Bylith decides for this instant (R265). In OUTAGE a transactional unit
waits, its boundary missed (R185). One that the groups of R170 leave no room for is held as in R264 (DESIGN CHOICE). -/
def bylithUnit (acts : List GAction) (s : Block) : Block :=
  if acts == [] then s
  else if !s.transactional 2 then queueUnit acts s
  else if s.bil.heldUnits != [] || !groupRoom false acts.length s then holdUnit acts s
  else if s.sys.mode == .outage then
    let q := nextGseq s
    putGroup { gseq := q, owner := 1, acts, bclass := 0, inst := 0, notBefore := 0, deadline := 0, tag := 0, cmd := none
               due := none, missed := some s.sys.mtime } { s with pln.gseq := q }
  else dueUnit 1 0 none acts s

/-- A unit of Bylith that is applied and sealed at once, whatever the style of BILLING (R273). -/
def sealNow (acts : List GAction) (s : Block) : Block :=
  if acts == [] then s
  else
    let q := nextGseq s
    sealPending (applyUnit 1 q s.sys.mtime [] acts { s with pln.gseq := q })

/-- The unit of a command (R291): a group of its mailbox, or entries of the billing queue. -/
def cmdUnit (r : CmdRef) (acts : List GAction) (s : Block) : CmdRes :=
  let tag := ((findEntry r.id (s.box r.mb).entries).map fun e => e.tag).getD 0
  if s.transactional 2 then
    if groupRoom true acts.length s then .accepted (dueUnit (mbOwner r.mb) tag (some r) acts s) else refuse stBusy s
  else
    let b := s.bil
    let mine := queueLen (b.queue.filter fun u => u.owner != 1)
    if b.heldUnits == [] && mine + acts.length ≤ 48 && queueLen b.queue + acts.length ≤ 64 then
      let q := nextGseq s
      .accepted (updBil (fun b => { b with queue := b.queue ++ [⟨acts, mbOwner r.mb, some r, q⟩] }) { s with pln.gseq := q })
    else refuse stBusy s

/-- Held units that now fit join the queue in their order (R264). -/
def unhold : List BilQ → Block → Block
  | [], s => updBil (fun b => { b with heldUnits := [] }) s
  | u :: l, s =>
    if queueLen s.bil.queue + u.acts.length ≤ 64 then unhold l (updBil (fun b => { b with queue := b.queue ++ [u] }) s)
    else updBil (fun b => { b with heldUnits := u :: l }) s

/-- Units applied in their order, up to one that has to wait for the locks of its period close (R263, R268). -/
def applyUnits (t0 : Nat) : List BilQ → Block → Block
  | [], s => updBil (fun b => { b with queue := [] }) s
  | u :: l, s =>
    if mayClose u.owner u.acts s then applyUnits t0 l (applyUnit u.owner u.gseq t0 u.cmd.toList u.acts s)
    else updBil (fun b => { b with queue := u :: l }) s

/-- A row with BACT 4 (R263): every waiting unit applies at its tick, then held units join the queue. -/
def applyQueue (t0 : Nat) (s : Block) : Block :=
  let s1 := applyUnits t0 s.bil.queue s
  unhold s1.bil.heldUnits s1

/-- Held units of a transactional domain, and units that a change of style has left in the queue, become groups in their order
once there is room (R264). -/
def submitUnits : List BilQ → Block → Block
  | [], s => updBil (fun b => { b with heldUnits := [] }) s
  | u :: l, s =>
    if groupRoom false u.acts.length s && mayClose u.owner u.acts s then submitUnits l (dueUnit u.owner 0 u.cmd u.acts s)
    else updBil (fun b => { b with heldUnits := u :: l }) s

/-- The units that wait for room in a transactional domain. -/
def submitHeld (s : Block) : Block :=
  let l := s.bil.queue ++ s.bil.heldUnits
  if l == [] || !s.transactional 2 || s.sys.mode == .outage then s
  else submitUnits l (updBil (fun b => { b with queue := [] }) s)

/-- A billing action of a plan row, in a unit of its own (Table 6-4). DESIGN CHOICE: a period close whose locks are held joins the
queue. -/
def rowUnit (t0 : Nat) (a : GAction) (s : Block) : Block :=
  if mayClose 1 [a] s then
    let g := nextGseq s
    applyUnit 1 g t0 [] [a] { s with pln.gseq := g }
  else queueUnit [a] s

/-! ### Decisions at a B-SEC (R258, R261, R268–R270, R276–R282) -/

def gact (code target : Nat) (arg : List Byte) : GAction := ⟨code, target, arg⟩

/-- Actions of Bylith that wait: in the queue, held, or in a group that is not DUE. -/
def waitingActs (s : Block) : List GAction :=
  (s.bil.queue ++ s.bil.heldUnits).flatMap (fun u => if u.owner == 1 then u.acts else []) ++
    (heldGroups s).flatMap fun g => if g.owner == 1 && g.due.isNone then g.acts else []

/-- The tariff that will be in force once every waiting switch has applied. -/
def comingTariff (s : Block) : Nat :=
  match ((waitingActs s).filter fun a => a.code == 0x0301).getLast? with
  | some a => u8At a.arg 0
  | none => s.bil.inForce

/-- The on-chip tariff decision of a B-SEC (R258): the action that it makes. A tariff that is not VALID is tried once. -/
def tariffDecide (s : Block) : List GAction × Block :=
  if s.assisted 3 then ([], updBil (fun b => { b with sel := 0 }) s)
  else
    let (k, src) := chipTariff s
    let s1 := updBil (fun b => { b with
      sel := k, pend := if k == b.inForce && k == comingTariff s then none else b.pend }) s
    if k != comingTariff s && (tariffValid k s || k != s.bil.sel) then
      ([gact 0x0301 0 (p8 k ++ p8 src ++ zeros 10)], updBil (fun b => { b with pend := some ⟨k, s.wall, src⟩ }) s1)
    else ([], s1)

/-- The close that falls due now: REASON 3 where a step forward has passed the boundary, else 2 (R269, R270). It waits while
another close, or an owner, holds one of its locks (R268). -/
def periodDecide (s : Block) : List GAction :=
  if closesPeriod (waitingActs s) || !mayClose 1 [gact 0x0302 0 []] s then []
  else if s.bil.stepClose then [gact 0x0302 0 (p8 3 ++ zeros 11)]
  else match nextBoundary s with
    | some b => if b ≤ s.wall then [gact 0x0302 0 (p8 2 ++ zeros 11)] else []
    | none => []

/-- Every billing action of this instant in the order of R265, in one unit: a scheduled demand end joins only where
Bylith has another action. -/
def bilActions (s : Block) : Block :=
  let per := periodDecide s
  let s0 := if s.bil.stepClose && per != [] then updBil (fun b => { b with stepClose := false }) (raise 113 1 s) else s
  let (tar, s1) := tariffDecide s0
  let acts := per ++ tar
  let dem := if acts != [] && s1.nrg.dem.nextEnd == s1.sys.mtime then [gact 0x0303 0 (p8 1 ++ zeros 11)] else []
  bylithUnit (dem ++ acts) s1

/-- A friendly window or a friendly special day covers local time now (R281). -/
def friendlyNow (s : Block) : Bool :=
  let m := localMinutes s.wall s
  let day := m / 1440
  let mi := m % 1440
  let win := (List.range 4).any fun w =>
    let a := s.b16 (552 + 8 * w)
    let e := s.b16 (554 + 8 * w)
    let mask := s.b8 (556 + 8 * w)
    if e > a then bit mask (weekday day) && a ≤ mi && mi < e
    else (bit mask (weekday day) && a ≤ mi) || (day != 0 && bit mask (weekday (day - 1)) && mi < e)
  let special := match specialOf day s with
    | some j => bit (s.b8 (424 + 4 * j + 3)) 0
    | none => false
  win || special

/-- Friendly hours begin or end: `EV104`. -/
def friendlyStep (s : Block) : Block :=
  let f := s.ppen && friendlyNow s
  if f == s.bil.friendly then s else raise 104 (b2n f) (updBil (fun b => { b with friendly := f }) s)

/-- The thresholds of R279, each event at the crossing. -/
def creditStep (s : Block) : Block :=
  let c := s.bil.credit
  let low := s.ppen && c < s.lowth
  let lim := s.ppen && c ≤ limitD s
  let cap := s.ppen && s.bil.friendly && c ≤ limitF s
  let s1 := updBil (fun b => { b with low, limit := lim, capStop := cap }) s
  let s2 := if low && !s.bil.low then raise 101 (sat32 c) s1 else s1
  let s3 := if lim && !s.bil.limit then raise 102 (sat32 c) s2 else s2
  let s4 := if cap && !s.bil.capStop then raise 105 (sat32 c) s3 else s3
  if cap then stopSessions 5 (fun _ => true) s4 else s4

/-- The B-SEC rows of Table 9-8; a disconnection waits for its locks. -/
def ppStep (s : Block) : Block :=
  if !s.ppen then s
  else match s.bil.pp with
    | .connected =>
      if !s.assisted 4 && s.bil.credit ≤ limitD s && !s.bil.friendly && coreMay 0 s && coreMay 13 s then ppArm s else s
    | .reconnectAllowed =>
      if !bit s.split 4 && s.bil.credit ≤ limitD s then setPp .disconnected s else s
    | _ => s

/-- The cost of an open session, and the stop at its LIMIT (R276). -/
def costStep (n : Nat) (s : Block) : Block :=
  let e := s.ses n
  if !e.metered then s
  else
    let c := sesCost e
    let s1 := updSes n (fun e => { e with cost := c }) s
    if e.limit != 0 && c ≥ e.limit && e.st.stoppable then stopSession n 4 (raise 100 n s1) else s1

/-- Billing runs in the mode (Table 3-1). -/
def billing (s : Block) : Bool := !s.inMode [.factory, .provision, .selftest, .zeroised]

/-- Current of MP00 at or above I_max / 1,000 on some phase, as the bypass row of Table 9-9 asks (07 R221). -/
def bypassFlows (s : Block) : Bool :=
  (s.pq 0).ph.any fun x => x.irms * x.irms * 200000000 ≥ 81 * (s.ifs 0 * 1000) * (s.ifs 0 * 1000)

/-- The bypass row no longer holds: the relay is normal again (Table 9-9), and its tamper source may count anew (14 R430). -/
def bypassOver (s : Block) : Block :=
  if s.bil.bypassAt.isSome && !(s.bil.pp == .disconnected && bypassFlows s) then
    updBil (fun b => { b with bypassAt := none }) (if s.bil.pp == .failed then s else { s with cru.tamOut := clrBit s.cru.tamOut 14 })
  else s

/-- The billing work of a B-SEC. -/
def bilSecond (s : Block) : Block :=
  if !billing s then s
  else
    let s1 := bypassOver (attributeAll (hostReturn 4 (hostReturn 3 (submitHeld s))))
    let s2 := (upto 0 12).foldl (fun s p => flagsGather p s) s1
    let s3 := outlets.foldl (fun s n => costStep n s) s2
    let s4 := ppStep (creditStep (friendlyStep s3))
    bilActions (if s4.bil.actDue == 0 then s4 else localTry s4.bil.actDue s4)

/-- A change of the wall-time offset (R270): `before` is the wall time that it replaces. -/
def clockStepped (before : Int) (s0 : Block) : Block :=
  let s := flagAll 4 s0
  match nextBoundary s with
  | none => s
  | some b =>
    if before < b && b ≤ s.wall then updBil (fun x => { x with stepClose := true }) s
    else if s.wall < before then raise 113 0 (updBil (fun x => { x with stepClose := false }) s)
    else s

/-! ### Rows of the billing inputs -/

/-- `TSEL_CHANGE` (R259): the change is sampled. -/
def execTselChange (code : Nat) (s : State) : Out :=
  act (fun b => if code % 8 == b.bil.tselRaw then b
    else updBil (fun x => { x with tselRaw := code % 8, tselAt := b.sys.mtime }) b) s

/-- `TSEL_DEBOUNCED` (Table 9-3 step 2): the code has held, PENDING shows the tariff it selects, none where that one is in
force. -/
def tselDebounce (s : Block) : Block :=
  let s1 := updBil (fun b => { b with tselCode := b.tselRaw }) s
  let (k, src) := chipTariff s1
  if s1.assisted 3 || src != 1 then s1
  else if k == s1.bil.inForce && comingTariff s1 == k then updBil (fun b => { b with pend := none }) s1
  else updBil (fun b => { b with pend := some ⟨k, s1.wall, 1⟩ }) s1

def execTselDebounced (s : State) : Out := act (fun b => if billing b then tselDebounce b else b) s

/-- An item that the scroll sequence shows (R288). -/
def scrollValid (i : Nat) (s : Block) : Bool :=
  let item := s.b8 (584 + 4 * i)
  let arg := s.b8 (585 + 4 * i)
  s.b8 (586 + 4 * i) != 0 &&
    (if item == 1 || item == 2 then arg == 0 || tariffValid arg s
     else if item == 0x0B || item == 0x0C then s.fitted arg
     else 3 ≤ item && item ≤ 0x0A)

/-- `SCROLL_ADVANCE` (R288): the next item that is shown, its value taken now. -/
def scrollNext (s : Block) : Block :=
  match ((upto 1 32).map fun k => (s.bil.scroll + k) % 32).filter fun i => scrollValid i s with
  | i :: _ => bsdCheck (scrollTake (updBil (fun b => { b with scroll := i, scrollAt := s.sys.mtime }) s))
  | [] => s

/-- `PP_DISCONNECT_COMPLETE` (Table 9-8): every outlet coil driver is confirmed open. -/
def execPpDisconnectComplete (s : State) : Out :=
  act (fun b => if b.bil.pp == .armed && outletsOpen b then ppUnlock (setPp .disconnected (release 13 false b)) else b) s

/-- `RELAY_BYPASS_DETECT` (Table 9-9): 10 s of current with the relay DISCONNECTED. -/
def execRelayBypassDetect (irmsDA : Nat) (s : State) : Out :=
  act (fun b => if b.bil.pp == .disconnected && !(b.drv 13).on && !(b.drv 13).fb then
      tamper 14 2 5 (raise 108 irmsDA
        { updBil (fun x => { x with bypassAt := some b.sys.mtime }) b with cru.tamOut := setBit b.cru.tamOut 14 })
    else b) s

/-- `SERVICE_BUTTON_PRESS` (R282; 20 R574). -/
def execServiceButtonPress (s : State) : Out :=
  act (fun b => if b.pwr.heldBy != .no || b.bil.button.isSome then b
    else updBil (fun x => { x with button := some b.sys.mtime }) b) s

/-- `SERVICE_BUTTON_RELEASE` (20 R574): a pressed period of 50 ms to 10 s was a press, and so a local act (R282). -/
def execServiceButtonRelease (s : State) : Out :=
  act (fun b => match b.bil.button with
    | none => b
    | some t =>
      let b1 := updBil (fun x => { x with button := none }) b
      if 50 ≤ b.sys.mtime - t && b.sys.mtime - t ≤ 10000 && billing b then localAct 2 b1 else b1) s

/-! ### Registers (R292) -/

/-- Minutes of the local offset in force (R260). -/
def localOfs (s : Block) : Int := Int.tdiv (localMs s.wall s - s.wall) 60000

def bilTariff (s : Block) : Word :=
  let b := s.bil
  reg [fld 31 31 (b2n b.staged.isSome), fld 11 8 ((b.pend.map fun p => p.tariff).getD b.inForce), fld 3 0 b.inForce]

/-- FCAUSE of `BIL_RELAY`: the fault of CD13, or 5 for a bypass seen. -/
def relayCause (s : Block) : Nat :=
  if (s.drv 13).fcause != 0 then (s.drv 13).fcause else if s.bil.bypassAt.isSome then 5 else 0

def bilRelay (s : Block) : Word :=
  reg [fld 31 31 (b2n (s.drv 13).on), fld 30 30 (b2n (s.drv 13).fb), fld 15 8 (relayCause s), fld 7 0 s.bil.relayAct]

def bilPpStat (s : Block) : Word :=
  reg [fld 31 31 (b2n (ecAvail s)), fld 30 30 (b2n (s.bil.credit < s.lowth)), fld 19 0 s.bil.residue]

def bilCalStat (s : Block) : Word :=
  let day := localMinutes s.wall s / 1440
  reg [fld 31 16 (tc 16 (localOfs s)), fld 13 12 (profileOn day s), fld 11 11 (b2n (specialOf day s).isSome),
       fld 10 10 (b2n (dstStart s.wall s).isSome)]

/-- `BIL_SESn_STAT.STATE` (Table 9-18). -/
def bilSesState (e : Session) : Nat :=
  match e.st with
  | .idle | .parked => 0
  | .open | .authorised | .active | .paused => 1
  | .stopping => 2
  | .sealing => 3

/-- Registers of an outlet's session; 0 from its seal until the next one opens. -/
def bilSesWord (n i : Nat) (s : Block) : Word :=
  let e := s.ses n
  if bilSesState e == 0 then 0
  else match i with
    | 0 => reg [fld 31 28 (bilSesState e), fld 27 24 e.auth, fld 15 0 e.flags]
    | 1 => w32 e.sesid
    | 2 => w32 (satU32 (e.tarImp.foldl (· + ·) 0 / 1000))
    | 3 => w32 (satU32 (e.tarExp.foldl (· + ·) 0 / 1000))
    | 4 => w32 (sat32 e.cost)
    | 5 => w32 (if e.limit == 0 then 0x7FFFFFFF else sat32 (e.limit - e.cost))
    | _ => 0

/-- BIL block reads; the offset counts from 0x1C_0000. -/
def rdBil (a : Nat) (s : Block) : Option Word :=
  let b := s.bil
  let c := tc 64 b.credit
  let l := tc 64 (limitD s)
  match a with
  | 0x00 => some (bilStat s)
  | 0x04 => some (bilTariff s)
  | 0x08 => some (reg [fld 18 16 b.tselRaw, fld 10 8 b.tselCode, fld 6 0 (min (s.sys.mtime - b.tselAt) 100)])
  | 0x0C => some (bilCalStat s)
  | 0x10 => some (w32 b.pseq)
  | 0x14 => some (w32 b.iseq)
  | 0x18 => some (lo32 b.perStart)
  | 0x1C => some (hi32 b.perStart)
  | 0x20 => some (lo32 (periodNext s))
  | 0x24 => some (hi32 (periodNext s))
  | 0x28 => some (reg [fld 15 8 (if scrollValid b.scroll s then s.b8 (584 + 4 * b.scroll) else 0), fld 4 0 b.scroll])
  | 0x2C => some (w32 b.cntIngot)
  | 0x40 => some (bilPpStat s)
  | 0x44 => some (lo32 c)
  | 0x48 => some (hi32 c)
  | 0x4C => some (lo32 l)
  | 0x50 => some (hi32 l)
  | 0x54 => some (w32 (tc 32 s.lowth))
  | 0x58 => some (w32 (tc 32 s.zeroth))
  | 0x5C => some (w32 s.ecamt)
  | 0x60 => some (w32 s.debtcap)
  | 0x64 => some (bilRelay s)
  | 0x68 => some (w32 b.tokCnt)
  | 0x6C => some (w32 b.tokRej)
  | _ =>
    if a % 4 != 0 then none
    else if 0x70 ≤ a && a < 0x80 then some (w32 (tget b.tokWin ((a - 0x70) / 4)).high)
    else if 0x80 ≤ a && a < 0xC0 then some (w32 (u32At b.prevHash (a - 0x80)))
    else if 0x100 ≤ a && a < 0x180 then
      let t := tariffOf ((a - 0x100) / 16 + 1) b.table
      some (match (a / 4) % 4 with
        | 0 => w32 (tc 32 t.psite)
        | 1 => w32 (tc 32 t.pdimp)
        | 2 => w32 (tc 32 t.pdexp)
        | _ => w32 t.info)
    else if 0x200 ≤ a && a < 0x280 then
      let k := (a - 0x200) / 16
      some (match (a / 4) % 4 with
        | 0 => lo32 (tget b.tregImp k)
        | 1 => hi32 (tget b.tregImp k)
        | 2 => lo32 (tget b.tregExp k)
        | _ => hi32 (tget b.tregExp k))
    else if 0x400 ≤ a && a < 0x580 && a % 0x20 < 0x18 then some (bilSesWord ((a - 0x400) / 0x20 + 1) (a % 0x20 / 4) s)
    else none

/-- BIL writes: every register is RO (R292). -/
def wrBil (a : Nat) (s : Block) : Wr :=
  match rdBil a s with
  | none => .berr
  | some _ => .ok s

/-! ### Commands (Table 9-15) -/

def specBilStatus : CmdSpec where
  op := 0x0500
  role := .general
  modes := mServed
  len := lenIs 0
  body := fun _ _ s =>
    ok (wordBytes [bilStat s, bilTariff s] ++ pi64 s.bil.credit ++ pi64 (limitD s) ++
      wordBytes [bilPpStat s, bilRelay s, w32 s.bil.pseq, w32 s.bil.iseq]) s

/-- `CMD_BIL_STATUS`. -/
def execCmdBilStatus (h : Req) (p : List Byte) (s : State) : Out := act (runCmd specBilStatus h p) s

def specBilPeriodClose : CmdSpec where
  op := 0x0501
  role := .general
  modes := mRun
  len := lenIs 4
  lock := fun _ _ => [15, 16]
  body := fun r _ s => cmdUnit r [gact 0x0302 0 (p8 1 ++ zeros 11)] s

/-- `CMD_BIL_PERIOD_CLOSE` (R268). -/
def execCmdBilPeriodClose (h : Req) (p : List Byte) (s : State) : Out := act (runCmd specBilPeriodClose h p) s

/-- The Ingot of a sequence number, where it is held. -/
def ingotOf (q : Nat) (s : Block) : Option (List Byte) :=
  if q ≤ s.bil.iseq then s.bil.ingots[s.bil.iseq - q]? else none

def specBilIngotRead : CmdSpec where
  op := 0x0502
  role := .general
  modes := mServed ++ [.zeroised]
  len := lenIs 8
  body := fun _ p s =>
    let q := u32At p 0
    let n := u16At p 4
    let l := (List.range n).filterMap fun i => ingotOf (q + i) s
    if 1 ≤ n && n ≤ 7 && q != 0 && l.length == n then ok l.flatten s else refuse stBadParam s

/-- `CMD_BIL_INGOT_READ`. -/
def execCmdBilIngotRead (h : Req) (p : List Byte) (s : State) : Out := act (runCmd specBilIngotRead h p) s

def specBilIngotAck : CmdSpec where
  op := 0x0503
  role := .general
  modes := mServed
  len := lenIs 4
  body := fun _ p s =>
    if u32At p 0 > s.bil.iseq then refuse stBadParam s
    else ok [] (updBil (fun b => { b with ackIseq := max b.ackIseq (u32At p 0) }) s)

/-- `CMD_BIL_INGOT_ACK` (R274). -/
def execCmdBilIngotAck (h : Req) (p : List Byte) (s : State) : Out := act (runCmd specBilIngotAck h p) s

/-- The session that a token of a payload serves, any outlet. -/
def tokSession (t : List Byte) (s : Block) : Option Nat :=
  if u8At t 1 == 2 then matchSession (bytesAt t 32 32) 0xFFF s else none

/-- The locks of a token that passes its checks, by TYPE. -/
def tokLocks (p : List Byte) (s : Block) : List Nat :=
  let t := p.drop 4
  let ses := tokSession t s
  if (tokCheck t ses.isSome s).isSome then []
  else match u8At t 1 with
    | 1 => [13, 16]
    | 2 => ses.toList
    | 3 => [13]
    | _ => [14]

/-- A verified site credit token held in a slot (R287). -/
def tokStage (r : CmdRef) (t : List Byte) (s : Block) : CmdRes :=
  match (List.range 8).filter fun i => (tget s.bil.slots i).isNone with
  | i :: _ => ok (p8 i ++ zeros 7 ++ pi64 s.bil.credit) (updBil (fun b => { b with slots := tput b.slots i (some (t, r)) }) s)
  | [] => refuse stBusy s

/-- The response of a token that applies at once (Table 9-15). -/
def tokDone (v : Int) (s : Block) : CmdRes := ok (p8 0xFF ++ zeros 7 ++ pi64 v) s

def specBilTokenApply : CmdSpec where
  op := 0x0504
  role := .general
  modes := mRun
  len := fun p => p.length ≥ 4
  lock := tokLocks
  body := fun r p s =>
    let t := p.drop 4
    let ses := tokSession t s
    match tokCheck t ses.isSome s with
    | some (why, st) => .done (tokReject 1 why t s) st []
    | none =>
      if bit (u8At p 0) 0 then (if u8At t 1 == 1 then tokStage r t s else refuse stBadParam s)
      else match u8At t 1, ses with
        | 1, _ => cmdUnit r [gact 0x0304 0 (p8 1 ++ p8 0xFF ++ zeros 10 ++ t)] s
        | 2, some n =>
          let s1 := addLimit n (i64At t 16) (tokTaken t s)
          tokDone (remain n s1) s1
        | 3, _ => let s1 := ppAllow (tokTaken t s)
                  tokDone s1.bil.credit s1
        | _, _ => let s1 := takeTable t s
                  tokDone s1.bil.credit s1

/-- `CMD_BIL_TOKEN_APPLY` (R285–R287). -/
def execCmdBilTokenApply (h : Req) (p : List Byte) (s : State) : Out := act (runCmd specBilTokenApply h p) s

/-- A token from Marigold (2) or a card (3), whose session is looked for on the outlets of a mask (R277, R285): whether
it was accepted. -/
def tokenArrived (source mask : Nat) (t : List Byte) (s : Block) : Bool × Block :=
  let ses := if u8At t 1 == 2 then matchSession (bytesAt t 32 32) mask s else none
  match tokCheck t ses.isSome s with
  | some (why, _) => (false, tokReject source why t s)
  | none => (true, match u8At t 1, ses with
    | 1, _ => bylithUnit [gact 0x0304 0 (p8 1 ++ p8 0xFF ++ zeros 10 ++ t)] s
    | 2, some n => addLimit n (i64At t 16) (tokTaken t s)
    | 3, _ => ppAllow (tokTaken t s)
    | _, _ => takeTable t s)

def specBilEcActivate : CmdSpec where
  op := 0x0505
  role := .general
  modes := mRun
  len := lenIs 0
  pre := fun _ _ s => badUnless (ecAvail s)
  lock := fun _ _ => [13, 16]
  body := fun r _ s => cmdUnit r [gact 0x0304 0 (p8 2 ++ zeros 11)] s

/-- `CMD_BIL_EC_ACTIVATE` (R280). -/
def execCmdBilEcActivate (h : Req) (p : List Byte) (s : State) : Out := act (runCmd specBilEcActivate h p) s

def specBilRelayReq : CmdSpec where
  op := 0x0506
  role := .general
  modes := mRun
  len := lenIs 4
  pre := fun _ p s => badUnless (bit s.split 4 &&
    ((u8At p 0 == 1 && s.bil.pp == .connected && s.ppen) || (u8At p 0 == 2 && s.bil.pp == .disconnected)))
  lock := fun _ _ => [0, 13]
  body := fun r p s =>
    if u8At p 0 == 1 then ok [] (ppArm (handOver r 13 (handOver r 0 s))) else ok [] (ppAllow s)

/-- `CMD_BIL_RELAY_REQ` (Table 9-8). -/
def execCmdBilRelayReq (h : Req) (p : List Byte) (s : State) : Out := act (runCmd specBilRelayReq h p) s

def specBilRelayReset : CmdSpec where
  op := 0x0507
  role := .general
  modes := [.maintain]
  len := lenIs 0
  pre := fun _ _ s => badUnless (s.bil.pp == .failed && !(s.drv 13).fb)
  lock := fun _ _ => [0]
  body := fun _ _ s =>
    ok [] (setPp .disconnected (updDrv 13 (fun d => { d with fcause := 0 })
      { s with cru.tamOut := clrBit s.cru.tamOut 14 }))

/-- `CMD_BIL_RELAY_RESET` (Table 9-8). -/
def execCmdBilRelayReset (h : Req) (p : List Byte) (s : State) : Out := act (runCmd specBilRelayReset h p) s

/-- A session that a credit can still serve. -/
def sesOpen (n : Nat) (s : Block) : Bool := outletOk n && (s.ses n).st.stoppable

def specBilSessionCredit : CmdSpec where
  op := 0x0508
  role := .general
  modes := mRun
  len := lenIs 12
  pre := fun _ p s => badUnless (sesOpen (u8At p 0) s && (u8At p 1 == 1 || u8At p 1 == 2) &&
    0 ≤ i64At p 4 && i64At p 4 ≤ 1099511627776)
  lock := lockOf
  body := fun _ p s =>
    let n := u8At p 0
    let s1 := if u8At p 1 == 1 then updSes n (fun e => { e with limit := i64At p 4 }) s else addLimit n (i64At p 4) s
    ok (pi64 (remain n s1)) s1

/-- `CMD_BIL_SESSION_CREDIT` (R276). -/
def execCmdBilSessionCredit (h : Req) (p : List Byte) (s : State) : Out := act (runCmd specBilSessionCredit h p) s

def specBilCreditAdjust : CmdSpec where
  op := 0x0580
  role := .general
  modes := mRun
  len := lenIs 8
  pre := fun _ _ s => badUnless s.ppen
  lock := fun _ _ => [13, 16]
  body := fun r p s => cmdUnit r [gact 0x0304 0 (p8 3 ++ p8 0xFF ++ zeros 10 ++ bytesAt p 0 8)] s

/-- `CMD_BIL_CREDIT_ADJUST`. -/
def execCmdBilCreditAdjust (h : Req) (p : List Byte) (s : State) : Out := act (runCmd specBilCreditAdjust h p) s

def specsBil : List CmdSpec :=
  [specBilStatus, specBilPeriodClose, specBilIngotRead, specBilIngotAck, specBilTokenApply, specBilEcActivate,
   specBilRelayReq, specBilRelayReset, specBilSessionCredit, specBilCreditAdjust]

end Sys2Proof.Machine
end

