-- ==== Sys2Proof/Machine/Plans.lean ====
section
/-!
DEFINITION. Mandrel plans (06 R155–R164): row fields, the safety envelope, Anvil's checks on a plan row, the validation of a
staged plan, and the plan commands of Table 6-17. Swaps and the playing of rows stand in Tick.lean.
-/

namespace Sys2Proof.Machine

/-! ### Row fields (Tables 6-3 to 6-5) -/

def rowWord (r : Row) (i : Nat) : Nat := (tget r i).toNat
def rowSlot (r : Row) (n : Nat) : Nat := rowWord r (n + 1)
def rowSet (r : Row) (n : Nat) : Int := sgn 16 (rowSlot r n / 65536)
def rowPd (r : Row) (n : Nat) : Bool := bit (rowSlot r n) 15
def rowPmf (r : Row) (n : Nat) : Bool := bit (rowSlot r n) 14
def rowCr (r : Row) (n : Nat) : Nat := bits (rowSlot r n) 13 12
def rowDcue (r : Row) (n : Nat) : Bool := bit (rowSlot r n) 11
def rowPh (r : Row) (n : Nat) : Nat := bits (rowSlot r n) 10 8
/-- The request for CD13 + k. -/
def rowCd (r : Row) (k : Nat) : Nat := bits (rowWord r 0) (2 * k + 1) (2 * k)
def rowScue (r : Row) : Nat := bits (rowWord r 0) 31 24
def rowLs (r : Row) (k : Nat) : Nat := bits (rowWord r 1) (2 * k - 1) (2 * k - 2)
def rowBact (r : Row) : Nat := bits (rowWord r 1) 31 28
def rowBarg (r : Row) : Nat := bits (rowWord r 1) 27 24

/-- The fields of a domain in H0, in H1 and in a slot. -/
def domMask (d : Nat) : Nat × Nat × Nat :=
  match d with
  | 0 => (0, 0, 0xFFFFC700)
  | 1 => (0xFF0000FF, 0x00FFFFFF, 0x3800)
  | _ => (0, 0xFF000000, 0)

/-! ### Envelope (11 R330–R333; R162) -/

/-- The envelope values in force now. -/
def envNow (s : Block) : Envelope :=
  { phImp := s.alc.capPI, phExp := s.alc.capPE, siteImp := s.alc.capSI, siteExp := s.alc.capSE, lag := s.lag
    cap := outlets.map fun n => s.a16 n 0
    vImp := outlets.map fun n => (vehicleLimits n s).1
    vExp := outlets.map fun n => (vehicleLimits n s).2
    kdc := outlets.map fun n => s.a16 n 2
    phases := outlets.map fun n => s.phases n
    dc := outlets.map fun n => s.isDc n
    bidir := outlets.map fun n => s.bidir n
    svc := outlets.map fun n => s.svcOf n }

def Envelope.of {α : Type} [Inhabited α] (l : List α) (n : Nat) : α := tget l (n - 1)

/-! ### Contributions (R163) -/

/-- AC setpoints of the 12 outlets at the ticks up to a row, newest first. -/
abbrev Hist := List (List Int)

def maxOf (l : List Int) : Nat := (l.foldl (fun m x => max m x) 0).toNat

/-- Per-phase import and export of outlet n in a row, before its phase mask (R163). -/
def contribution (e : Envelope) (h : Hist) (r : Row) (n : Nat) : Nat × Nat :=
  if Envelope.of e.dc n then
    let c := ((rowSet r n).natAbs * Envelope.of e.kdc n + 999) / 1000
    if rowSet r n > 0 then (c, 0) else (0, c)
  else
    let w := (Envelope.of h n).take (e.lag + 1)
    (maxOf w, maxOf (w.map fun x => -x))

/-- Import and export of a phase (0 to 2) over all outlets. -/
def phaseSum (e : Envelope) (h : Hist) (r : Row) (k : Nat) : Nat × Nat :=
  outlets.foldl (fun a n => if bit (rowPh r n) k then
    let c := contribution e h r n
    (a.1 + c.1, a.2 + c.2) else a) (0, 0)

/-- A row's AC setpoints join the history. -/
def histPush (lag : Nat) (r : Row) (h : Hist) : Hist :=
  outlets.map fun n => (rowSet r n :: Envelope.of h n).take (lag + 1)

/-! ### Checks on one row (Table 6-6) -/

/-- A failed check: row, code, item, and the numbers that it compared, if it compares any. -/
structure Reject where
  row   : Nat
  check : Nat
  item  : Nat
  nums  : Option (Int × Int)

/-- A field of the row's words that FIELD refuses: the outlet, or 0. -/
def fieldBad (d : Nat) (e : Envelope) (r : Row) : Option Nat :=
  let (m0, m1, ms) := domMask d
  let in_ := fun (w m : Nat) => Nat.land w m == w
  if !in_ (rowWord r 0) m0 || !in_ (rowWord r 1) m1 || (List.range 4).any (fun k => rowCd r k == 3) ||
      (upto 1 12).any (fun k => rowLs r k == 3) || rowBact r > 4 ||
      (if rowBact r == 1 then !(1 ≤ rowBarg r && rowBarg r ≤ 8) else rowBarg r != 0) then some 0
  else (outlets.filter fun n =>
    let dc := Envelope.of e.dc n
    let sp := (rowSet r n).natAbs
    !in_ (rowSlot r n) ms || rowCr r n == 3 || (dc && rowPd r n) || (!dc && rowPmf r n) ||
      !in_ (rowPh r n) (Envelope.of e.phases n) || (!dc && sp != 0 && !(60 ≤ sp && sp ≤ 800))).head?

/-- An outlet that breaks the refresh rule of R161. -/
def changeBad (e : Envelope) (prev : Option Row) (r : Row) : Option Nat :=
  (outlets.filter fun n =>
    !(rowPd r n || rowPmf r n) && (match prev with
      | none => Envelope.of e.svc n == 1
      | some q => rowSet q n != rowSet r n || rowPh q n != rowPh r n)).head?

/-- An outlet whose service state does not admit its slot. -/
def stateBad (e : Envelope) (r : Row) (n : Nat) : Bool :=
  Envelope.of e.svc n != 1 && (rowSet r n != 0 || rowCr r n == 1 || (Envelope.of e.svc n == 0 && rowSlot r n != 0))

/-- Checks 0x05 to 0x08 on the outlets of a list. -/
def outletChecks (d row : Nat) (e : Envelope) (ns : List Nat) (r : Row) : Option Reject :=
  let cap := fun n => Int.ofNat (Envelope.of e.cap n)
  let vi := fun n => Int.ofNat (Envelope.of e.vImp n)
  let ve := fun n => Int.ofNat (Envelope.of e.vExp n)
  let sp := rowSet r
  match (ns.filter fun n => stateBad e r n).head? with
  | some n => some ⟨row, 5, n, none⟩
  | none => match (ns.filter fun n => !Envelope.of e.bidir n && sp n < 0).head? with
    | some n => some ⟨row, 6, n, some (sp n, 0)⟩
    | none =>
      if d != 0 then none
      else match (ns.filter fun n => Int.ofNat (sp n).natAbs > cap n).head? with
        | some n => some ⟨row, 7, n, some (Int.ofNat (sp n).natAbs, cap n)⟩
        | none => match (ns.filter fun n => sp n > vi n || -(sp n) > ve n).head? with
          | some n => some ⟨row, 8, n, some (if sp n > vi n then (sp n, vi n) else (-(sp n), ve n))⟩
          | none => none

/-- Checks 0x09 to 0x0C. -/
def sumChecks (row : Nat) (e : Envelope) (h : Hist) (r : Row) : Option Reject :=
  let s := [0, 1, 2].map fun k => phaseSum e h r k
  let imp := s.map fun x => x.1
  let exp := s.map fun x => x.2
  let above := fun (l c : List Nat) => ([0, 1, 2].filter fun k => tget l k > tget c k).head?
  let si := imp.foldl (· + ·) 0
  let se := exp.foldl (· + ·) 0
  match above imp e.phImp, above exp e.phExp with
  | some k, _ => some ⟨row, 9, k + 1, some (Int.ofNat (tget imp k), Int.ofNat (tget e.phImp k))⟩
  | none, some k => some ⟨row, 10, k + 1, some (Int.ofNat (tget exp k), Int.ofNat (tget e.phExp k))⟩
  | none, none =>
    if si > e.siteImp then some ⟨row, 11, 0, some (Int.ofNat si, Int.ofNat e.siteImp)⟩
    else if se > e.siteExp then some ⟨row, 12, 0, some (Int.ofNat se, Int.ofNat e.siteExp)⟩
    else none

/-- The checks 0x03 to 0x0D of one row; `run` counts the rows without BACT 4 up to this one. -/
def rowChecks (d row run : Nat) (e : Envelope) (h : Hist) (prev : Option Row) (r : Row) : Option Reject :=
  match fieldBad d e r with
  | some n => some ⟨row, 3, n, none⟩
  | none => match (if d == 0 then changeBad e prev r else none) with
    | some n => some ⟨row, 4, n, none⟩
    | none => match outletChecks d row e outlets r with
      | some x => some x
      | none => match (if d == 0 then sumChecks row e h r else none) with
        | some x => some x
        | none => if d == 2 && run > 100 then some ⟨row, 13, 0, some (Int.ofNat run, 100)⟩ else none

/-- All rows in ascending order; check 0x0E stands after the others of row 0. -/
def rowsCheck (d : Nat) (e : Envelope) (late : Option Reject) :
    List Row → Nat → Nat → Hist → Option Row → Option Reject
  | [], _, _, _, _ => none
  | r :: l, row, run, h, prev =>
    let h1 := histPush e.lag r h
    let run1 := if rowBact r == 4 then 0 else run + 1
    match rowChecks d row run1 e h1 prev r with
    | some x => some x
    | none =>
      if row == 0 && late.isSome then late else rowsCheck d e late l (row + 1) run1 h1 (some r)

/-- Setpoints of AC outlets at the last `m` of the `k` ticks that the active plan still plays before the swap, newest first
(R163). -/
def upcoming (n k m : Nat) (s : Block) : List Int :=
  let x := s.dom 0
  match x.play with
  | .playing | .held | .holdover =>
    (List.range m).map fun i => rowSet (x.rows.getD (min (x.row + k - i) (x.rows.length - 1)) (List.replicate 14 0)) n
  | _ => List.replicate m 0

/-- The history before row 0 of a plan that swaps in at `swap` (R163). -/
def histBefore (lag swap : Nat) (s : Block) : Hist :=
  let k := swap - (s.pln.tick + 1)
  outlets.map fun n => (upcoming n k (min k (lag + 1)) s ++ (s.ao n).past).take (lag + 1)

/-- The rows of a staging buffer, none at the first that is missing. -/
def stagedRows (g : Staging) : Nat → Nat → List Row × Option Nat
  | 0, _ => ([], none)
  | k + 1, i =>
    match lookupN i g.rows with
    | none => ([], some i)
    | some r => let (l, m) := stagedRows g k (i + 1)
                (r :: l, m)

/-- Anvil's verdict on a staged plan (R162). DESIGN CHOICE: SWAP_TICK is compared with `PLN_TICK` as a number, without regard to
its wrap modulo 2³². -/
def planCheck (d : Nat) (s : Block) : Option Reject :=
  let g := (s.dom d).staging
  let swap := if g.hdr.swap == 1 then g.hdr.swapTick else s.pln.tick + 1
  let (rows, miss) := stagedRows g g.hdr.rows 0
  match miss with
  | some i => some ⟨i, 1, 0, none⟩
  | none =>
    if bit g.hdr.flags 0 && sha512 (rows.flatMap wordBytes) != g.hdr.rowHash then
      some ⟨0, 2, 0, none⟩
    else
      let late := if g.hdr.swap == 1 && g.hdr.swapTick < s.pln.tick + 1 then
        some ⟨0, 14, 0, some (Int.ofNat g.hdr.swapTick, Int.ofNat (s.pln.tick + 1))⟩ else none
      rowsCheck d g.env late rows 0 0 (histBefore g.env.lag swap s) none

/-! ### Validation (R162, R164) -/

def updStage (d : Nat) (f : Staging → Staging) (s : Block) : Block := updDom d (fun x => { x with staging := f x.staging }) s

/-- An order stamp. -/
def stampNext (s : Block) : Nat × Block := (s.pln.stamp, { s with pln.stamp := s.pln.stamp + 1 })

/-- A validation begins with the envelope of this instant. -/
def beginValidation (d : Nat) (s : Block) : Block :=
  let (k, s1) := stampNext s
  updStage d (fun g => { g with queued := false, env := envNow s, stamp := k }) s1

/-- Anvil is free: the plan armed first among those that wait is validated (R164). -/
def nextValidation (s : Block) : Block :=
  let v := fun d => (s.dom d).staging
  if [0, 1, 2].any fun d => (v d).stage == .validating && !(v d).queued then s
  else match ([0, 1, 2].filter fun d => (v d).stage == .validating).foldl (fun b d => match b with
      | none => some d
      | some c => if (v d).stamp < (v c).stamp then some d else some c) none with
    | none => s
    | some d => beginValidation d s

/-- A staged plan handed to Anvil. -/
def askValidation (d : Nat) (cmd : Option CmdRef) (s : Block) : Block :=
  let (k, s1) := stampNext s
  nextValidation (updStage d (fun g => { g with stage := .validating, cmd, queued := true, stamp := k }) s1)

/-- A rejection (R162): `EV041`, back to LOADING, `PLAN_REJECTED`. -/
def planReject (d : Nat) (x : Reject) (s : Block) : Block :=
  let g := (s.dom d).staging
  let s1 := raise 41 (d * 1073741824 + x.check * 65536 + x.row % 4096)
    (updStage d (fun g => { g with stage := .loading, cmd := none, queued := false })
      { s with pln.cntRej := inc32 s.pln.cntRej })
  match g.cmd, x.nums with
  | none, _ => s1
  | some r, some (v, l) => complete r stPlanRejected (rejectPayload x.row x.check x.item v l) s1
  | some r, none =>
    let (p, s2) := rejectFree x.row x.check x.item s1
    complete r stPlanRejected p s2

/-- A plan that passes is ARMED (R164, Table 6-19). -/
def planArm (d : Nat) (s : Block) : Block :=
  let g := (s.dom d).staging
  let t := if g.hdr.swap == 1 then g.hdr.swapTick else (s.pln.tick + 1) % 4294967296
  let s1 := updDom d (fun x => { x with swapTick := t, staging := { x.staging with stage := .armed } }) s
  match g.cmd with
  | none => s1
  | some r => respondAccepted r s1

/-- `PLAN_VALIDATION_DONE` (R162–R164). -/
def execPlanValidationDone (dom : Nat) (s : State) : Out :=
  act (fun b =>
    let g := (b.dom dom).staging
    if dom > 2 || g.stage != .validating || g.queued then b
    else nextValidation (match planCheck dom b with
      | some x => planReject dom x b
      | none => planArm dom b)) s

/-! ### Registers of the domains (Table 6-19) -/

def Play.code : Play → Nat
  | .idle => 0 | .playing => 1 | .held => 2 | .holdover => 3 | .stopped => 4 | .paused => 5

def Stage.code : Stage → Nat
  | .empty => 0 | .loading => 1 | .validating => 2 | .armed => 3

/-- STATE of a domain: hold-over shows while Anvil plays the plan (02 R57). -/
def playCode (d : Nat) (s : Block) : Nat :=
  let x := s.dom d
  if s.pwr.holdover.isSome && x.play == .playing then 3 else x.play.code

def planStat (d : Nat) (s : Block) : Word :=
  let x := s.dom d
  reg [fld 31 31 (b2n (s.transactional d)), fld 30 30 x.actBuf, fld 29 27 (playCode d s), fld 26 24 x.staging.stage.code,
       fld 11 0 x.row]

/-- `PLN_DSTATn`, `PLN_DACTIDn`, `PLN_DSTGIDn`, `PLN_DSWAPn`. -/
def planWord (d i : Nat) (s : Block) : Word :=
  let x := s.dom d
  match i with
  | 0 => planStat d s
  | 1 => w32 (if x.rows == [] then 0 else x.hdr.planId)
  | 2 => w32 (if x.staging.stage == .empty then 0 else x.staging.hdr.planId)
  | _ => w32 (if x.staging.stage == .armed then x.swapTick else x.lastSwap)

/-! ### Commands (Table 6-17) -/

/-- R158: a plan of the domain is accepted in the present mode. -/
def planMode (d : Nat) (s : Block) : Bool := 2 ≤ d || s.inMode [.service, .degraded]

/-- The mode that a plan command's domain, payload byte 0, asks for (R158). -/
def planModeOf (p : List Byte) (s : Block) : Bool := planMode (u8At p 0) s

/-- A plan header (Table 6-2). -/
def parseHdr (p : List Byte) : PlanHdr :=
  { domain := u8At p 0, flags := u8At p 1, rows := u16At p 2, planId := u32At p 4, swap := u8At p 8
    swapTick := u32At p 12, compiler := u32At p 16, rowHash := bytesAt p 32 64 }

/-- The plan-verification key (14 Table 14-3). -/
def planKey (s : Block) : KeySlot := tget s.cru.slots 12

/-- The staging buffer is free for a mailbox: EMPTY, or LOADING and its own or the planner's (R157). -/
def stageFree (mb d : Nat) (s : Block) : Bool :=
  let g := (s.dom d).staging
  g.stage == .empty || (g.stage == .loading && (g.owner == mbOwner mb || g.owner == 1))

def specPlanBegin : CmdSpec where
  op := 0x0200
  role := .general
  modes := mRun
  modeOf := planModeOf
  len := lenIs 160
  body := fun r p s =>
    let h := parseHdr p
    let d := h.domain
    if d > 2 then refuse stBadParam s
    else if !bit s.split 0 || h.flags != 1 || h.rows == 0 || h.rows > 4096 || h.swap > 1 then refuse stBadParam s
    else if s.transactional d then refuse stPlanRejected s
    else if (planKey s).attr == 0 then refuse stInternal (keyMisuse 12 2 r.mb s)
    else
      let s1 := engOp 2 s
      if !edVerify (planKey s).key (bytesAt p 0 96) (bytesAt p 96 64) then refuse stAuthFailed s1
      else if !stageFree r.mb d s then refuse stBusy s1
      else ok [] (updStage d (fun _ => { Staging.empty with stage := .loading, owner := mbOwner r.mb, hdr := h }) s1)

/-- `CMD_PLAN_BEGIN` (R156–R159). -/
def execCmdPlanBegin (h : Req) (p : List Byte) (s : State) : Out := act (runCmd specPlanBegin h p) s

/-- What every other plan command asks of its domain: range, LOADING, owner. -/
def planAsk (mb d : Nat) (cond : Staging → Bool) (s : Block) : Option Nat :=
  let g := (s.dom d).staging
  if d > 2 then some stBadParam
  else if !cond g then some stBadParam
  else if g.owner != mbOwner mb then some stBusy
  else none

/-- COUNT rows of 14 words from byte 8, with their indexes. -/
def rowsFrom (p : List Byte) (first : Nat) : Nat → List (Nat × Row)
  | 0 => []
  | k + 1 => (first + k, bytesWords 14 (p.drop (8 + 56 * k))) :: rowsFrom p first k

def specPlanLoad : CmdSpec where
  op := 0x0201
  role := .general
  modes := mRun
  modeOf := planModeOf
  len := fun p => p.length ≥ 8 && p.length == 8 + 56 * u16At p 4
  body := fun r p s =>
    let d := u8At p 0
    let first := u16At p 2
    let n := u16At p 4
    match planAsk r.mb d (fun g => g.stage == .loading && 1 ≤ n && n ≤ 72 && first + n ≤ g.hdr.rows) s with
    | some st => refuse st s
    | none => ok [] (updStage d (fun g => { g with
        rows := rowsFrom p first n ++ g.rows.filter fun x => x.1 < first || first + n ≤ x.1 }) s)

/-- `CMD_PLAN_LOAD`. -/
def execCmdPlanLoad (h : Req) (p : List Byte) (s : State) : Out := act (runCmd specPlanLoad h p) s

def specPlanArm : CmdSpec where
  op := 0x0202
  role := .general
  modes := mRun
  modeOf := planModeOf
  len := lenIs 4
  body := fun r p s =>
    match planAsk r.mb (u8At p 0) (fun g => g.stage == .loading) s with
    | some st => refuse st s
    | none => .waits (askValidation (u8At p 0) (some r) s)

/-- `CMD_PLAN_ARM` (R162, R164): its interim `ACCEPTED` follows the verdict, so none is sent at the start. -/
def execCmdPlanArm (h : Req) (p : List Byte) (s : State) : Out := act (runCmd specPlanArm h p) s

def specPlanCancel : CmdSpec where
  op := 0x0203
  role := .general
  modes := mRun
  modeOf := planModeOf
  len := lenIs 4
  body := fun r p s =>
    let d := u8At p 0
    match planAsk r.mb d (fun g => g.stage != .empty) s with
    | some st => refuse st s
    | none =>
      if (s.dom d).staging.stage == .validating then ok [] (nextValidation (planReject d ⟨0, 15, 0, none⟩ s))
      else ok [] (dropStaging d s)

/-- `CMD_PLAN_CANCEL`: during validation it ends the `CMD_PLAN_ARM` with check 0x0F. DESIGN CHOICE: an ARMED plan, which counts
as committed (R165), is discarded too; its `CMD_PLAN_ARM` then ends as `dropStaging` says. -/
def execCmdPlanCancel (h : Req) (p : List Byte) (s : State) : Out := act (runCmd specPlanCancel h p) s

def specPlanStatus : CmdSpec where
  op := 0x0204
  role := .general
  modes := mServed
  len := lenIs 4
  body := fun _ p s =>
    let d := u8At p 0
    if d > 2 then refuse stBadParam s
    else ok (wordBytes ((List.range 4).map (fun i => planWord d i s) ++ [w32 s.pln.tick])) s

/-- `CMD_PLAN_STATUS`. -/
def execCmdPlanStatus (h : Req) (p : List Byte) (s : State) : Out := act (runCmd specPlanStatus h p) s

def specsPlan : List CmdSpec := [specPlanBegin, specPlanLoad, specPlanArm, specPlanCancel, specPlanStatus]

end Sys2Proof.Machine
end

