-- ==== Sys2Proof/Machine/Groups.lean ====
section
/-!
DEFINITION. Setpoints and switching requests as they are applied (06 R168, 01 R41, 11 R343, 10 R297), commit groups
(06 R170–R175), hardware locks (R176–R181), arbiters (R182–R184), the registers of the PLN block and their commands.
-/

namespace Sys2Proof.Machine

/-! ### Setpoints (R168, R41) -/

/-- A setpoint clamped to a magnitude per direction; an AC value below 6.0 A becomes 0 (Table 6-7). -/
def clampDir (dc : Bool) (i e : Nat) (v : Int) : Int :=
  let w : Int := if v > (i : Int) then (i : Int) else if v < -(e : Int) then -(e : Int) else v
  if !dc && w.natAbs < 60 then 0 else w

/-- Causes that force SETPT 0 and ignore a CR close: 1, 2, 3, 6, 7. -/
def ovrZero (o : Ovr) : Bool := [1, 2, 3, 6, 7].any fun c => bit o.causes c

/-- The setpoint of outlet n after its overrides (R168): the lowest clamp applies. -/
def clampOf (n : Nat) (v : Int) (s : Block) : Int :=
  let o := s.ovr n
  if ovrZero o then 0
  else
    let v1 := if bit o.causes 4 then clampDir (s.isDc n) o.vi o.ve v else v
    if bit o.causes 5 then clampDir (s.isDc n) o.ci o.ce v1 else v1

/-- The contactor of the outlet counts as open for R41: a DC outlet whose CDn is released; an AC outlet without a session,
or whose CDn has been granted in the session and released (R343). -/
def countsOpen (n : Nat) (s : Block) : Bool :=
  if s.isDc n then !(s.drv n).on
  else match (s.ses n).st with
    | .idle | .parked => true
    | _ => (s.ao n).closedSes && !(s.drv n).on

/-- Pilot duty for a setpoint (Table 10-2). -/
def dutyOf (v : Int) : Nat :=
  if v < 60 then 1000
  else if v < 528 then min (v.toNat * 5 / 3) 850
  else v.toNat * 2 / 5 + 640

/-- The current that a duty signals, 0.1 A (Table 10-2). -/
def sigOf (d : Nat) : Nat := if d ≥ 1000 then 0 else if d ≤ 850 then d * 6 / 10 else (d - 640) * 5 / 2

/-- The signalled current of an AC outlet (R342). -/
def setSig (n sig : Nat) (s : Block) : Block :=
  updAo n (fun a => { a with sig, sigLow := if sig < a.sig then s.sys.mtime else a.sigLow }) s

/-- The session uses basic PWM and its pilot may carry it. -/
def pwmLive (n : Nat) (s : Block) : Bool :=
  let o := s.ol n
  (s.ses n).proto == 1 && (o.gen == 0 || o.gen == 1) && (s.ses n).metered && (s.ses n).st != .stopping && !o.pilotTest

/-- A setpoint reaches its outlet: pilot duty (R297), message value (R317) or power-module frames (R359). -/
def writeSet (n : Nat) (v : Int) (s : Block) : Block :=
  if s.isDc n then
    let a := s.ao n
    if 1 ≤ a.dcStep && a.dcStep ≤ 5 then s
    else sendSetpoints n (if a.delivering then 2 else 0) (s.ses n).utgt v s
  else if pwmLive n s then
    let d := dutyOf v
    setSig n (sigOf d) (setPilot n (if d == 1000 then 0 else 1) d s)
  else if (s.ses n).proto ≥ 2 then setSig n v.toNat s
  else s

/-- A requested setpoint applied to outlet n: overrides, then R41; `acts` where its action field acts at this boundary.
SRC as in Table 11-17. -/
def applySet (n : Nat) (v : Int) (ph src : Nat) (acts : Bool) (s : Block) : Block :=
  let w := if countsOpen n s then 0 else clampOf n v s
  let old := (s.ao n).setpt
  let s1 := updAo n (fun a => { a with setpt := w, ph, src }) s
  if acts || w != old then refreshLimits n (writeSet n w s1) else s1

/-- The row whose setpoints are requested now: the row last played, or the committed values of a transactional domain. -/
def reqRow (s : Block) : Row :=
  let x := s.dom 0
  match x.play with
  | .playing | .held | .holdover => x.last
  | _ => if s.transactional 0 then x.last else List.replicate 14 0

/-- A committed setpoint of a transactional domain as a slot word. -/
def slotWord (v : Int) (ph : Nat) : Word := reg [fld 31 16 (tc 16 v), fld 10 8 ph]

def rowWith (n : Nat) (v : Int) (ph : Nat) (r : Row) : Row := tput r (n + 1) (slotWord v ph)

/-- Overrides of outlet n whose causes ended before an order stamp, cleared (R169). -/
def ovrClearBefore (n stamp : Nat) (s : Block) : Block :=
  ((s.ovr n).ended.filter fun e => e.2 < stamp).foldl (fun s e => ovrClear n e.1 s) s

/-! ### Groups at their boundary (R173) -/

def actArg (a : GAction) (o : Nat) : Nat := u8At a.arg o
def actSet (a : GAction) : Int := i16At a.arg 0

/-- The setpoints of a group over a row. -/
def overlay (g : Group) (r : Row) : Row :=
  g.acts.foldl (fun r a => if a.code == 0x0101 then rowWith a.target (actSet a) (actArg a 2) r else r) r

/-- The index of a group's first action that meets a condition. -/
def actIndex (p : GAction → Bool) (l : List GAction) : Nat := (l.takeWhile fun a => !p a).length

/-- Anvil's check of the setpoints of a group as a plan row, with the window of R163: the index of the refused action. -/
def setRefused (g : Group) (r : Row) (s : Block) : Option Nat :=
  let ns := (g.acts.filter fun a => a.code == 0x0101).map fun a => a.target
  if ns == [] then none
  else
    let e := envNow s
    let q := overlay g r
    let h := histPush e.lag q (outlets.map fun n => (s.ao n).past)
    let onlyNs := outlets.foldl (fun q n => if ns.contains n then q else tput q (n + 1) 0) q
    match fieldBad 0 e onlyNs with
    | some n => some (actIndex (fun a => a.code == 0x0101 && a.target == n) g.acts)
    | none => match outletChecks 0 0 e ns q with
      | some x => some (actIndex (fun a => a.code == 0x0101 && a.target == x.item) g.acts)
      | none => (sumChecks 0 e h q).map fun _ => actIndex (fun a => a.code == 0x0101) g.acts

/-- A coil close that Anvil refuses: its index and its driver with the code of Table 11-3. -/
def coilRefused (g : Group) (s : Block) : Option (Nat × Nat × Nat) :=
  (List.zip (List.range g.acts.length) g.acts).foldl (fun r x => match r with
    | some y => some y
    | none =>
      if x.2.code == 0x0201 && actArg x.2 0 == 1 && !(s.drv x.2.target).on then
        (refuseClose x.2.target s).map fun c => (x.1, x.2.target, c)
      else none) none

/-- A refused close counted (R347). -/
def noteRefusal (k c : Nat) (s : Block) : Block :=
  raise 146 (c * 256 + k) (updDrv k (fun d => { d with refuse := c }) { s with alc.cntRefuse := inc32 s.alc.cntRefuse })

def Group.billing (g : Group) : Bool := g.acts.any fun a => actDom a == 2

/-- The due groups of a class and an instance: slots in GSEQ order. DESIGN CHOICE: a group with a period close waits for the next
boundary of its class while an owner other than its own holds a lock of the close (09 R268). -/
def dueSlots (bclass inst : Nat) (s : Block) : List (Nat × Group) :=
  let l := (List.range 16).filterMap fun i => (tget s.pln.groups i).bind fun g =>
    if g.due.isNone && g.missed.isNone && g.bclass == bclass && g.inst == inst && g.notBefore ≤ s.sys.mtime &&
      mayClose g.owner g.acts s
    then some (i, g) else none
  l.mergeSort fun a b => a.2.gseq ≤ b.2.gseq

/-- The coil actions of a group on a state that only Anvil's check sees. -/
def coilTry (g : Group) (s : Block) : Block :=
  g.acts.foldl (fun s a =>
    if a.code == 0x0201 then (if actArg a 0 == 1 then closeRequest a.target s else openRequest a.target s) else s) s

/-- Anvil's checks in GSEQ order (R173 step 1): refused groups aborted, the others with their slots. `r` and `sw` are the row
and the switching that the earlier due groups leave. -/
def checkDue : List (Nat × Group) → Row → Block → Block → List (Nat × Group) × Block
  | [], _, _, s => ([], s)
  | (i, g) :: l, r, sw, s =>
    match setRefused g r s, coilRefused g sw with
    | some k, _ => checkDue l r sw (abortGroup i 1 k s)
    | none, some (k, d, c) => checkDue l r sw (abortGroup i 1 k (noteRefusal d c s))
    | none, none =>
      let (m, s1) := checkDue l (overlay g r) (coilTry g sw) s
      ((i, g) :: m, s1)

/-- The DUE records written (R173 step 2). -/
def writeDue (t0 : Nat) (l : List (Nat × Group)) (s : Block) : Block :=
  l.foldl (fun s x => if x.2.billing then
    { s with pln.groups := tput s.pln.groups x.1 (some { x.2 with due := some (dueNow t0 s) }) } else s) s

/-- SWITCHING actions of the due groups (R173 step 3). -/
def groupSwitch (l : List (Nat × Group)) (s : Block) : Block :=
  (l.flatMap fun x => x.2.acts).foldl (fun s a => match a.code with
    | 0x0201 => if actArg a 0 == 1 then closeRequest a.target s else openRequest a.target s
    | 0x0202 => lsRequest a.target (actArg a 0 == 1) s
    | 0x0203 => cueAdd a.target (actArg a 0) s
    | _ => s) s

/-- ALLOCATION actions of the due groups: the committed values, the setpoints, and the overrides they clear (R169). -/
def groupAlloc (l : List (Nat × Group)) (s : Block) : Block :=
  (l.flatMap fun x => x.2.acts).foldl (fun s a =>
    if a.code == 0x0101 then
      let s1 := updDom 0 (fun d => { d with last := rowWith a.target (actSet a) (actArg a 2) d.last }) s
      applySet a.target (actSet a) (actArg a 2) 2 true (ovrClearBefore a.target s1.pln.stamp s1)
    else s) s

/-- BILLING actions, and the completion of groups without any (R173, R174). -/
def groupBill (t0 : Nat) (l : List (Nat × Group)) (s : Block) : Block :=
  l.foldl (fun s x =>
    let g := x.2
    if g.billing then applyUnit g.owner g.gseq t0 [] (g.acts.filter fun a => actDom a == 2) s
    else completeOpt g.cmd stOk (p32 g.gseq ++ p32 0 ++ p64 t0)
      { s with pln.groups := tput s.pln.groups x.1 none }) s

/-- A boundary that passes in OUTAGE (Table 6-15): groups with outputs abort, BILLING groups wait with its instant. -/
def outageBoundary (l : List (Nat × Group)) (s : Block) : Block :=
  l.foldl (fun s x =>
    if x.2.outputs then abortGroup x.1 5 0xFF s
    else { s with pln.groups := tput s.pln.groups x.1 (some { x.2 with missed := some s.sys.mtime }) }) s

/-- A boundary other than B-TICK at which groups fall due (R154, R173). -/
def boundary (bclass inst : Nat) (s : Block) : Block :=
  let l := dueSlots bclass inst s
  if l.isEmpty then s
  else if s.sys.mode == .outage then outageBoundary l s
  else
    let t0 := s.sys.mtime
    let (m, s1) := checkDue l (reqRow s) s s
    groupBill t0 m (groupAlloc m (groupSwitch m (writeDue t0 m s1)))

/-- MTIME goes on to `t`; each group of class IMM whose NOT_BEFORE lies on the way falls due there (R173). -/
def timeTo (t : Nat) (s : Block) : Block :=
  let stops := ((heldGroups s).filter fun g => g.bclass == 0 && s.sys.mtime < g.notBefore && g.notBefore ≤ t).map fun g => g.notBefore
  let s1 := (stops.mergeSort (· ≤ ·)).foldl (fun s n => boundary 0 0 { s with sys.mtime := n }) s
  { s1 with sys.mtime := t }

/-- BILLING groups whose boundary passed in OUTAGE fall due at step 1 of the recovery, with that boundary as t0. A period
that a close has begun there contains OUTAGE (09 Table 9-6). -/
def missedDue (s : Block) : Block :=
  let l := ((List.range 16).filterMap fun i => (tget s.pln.groups i).bind fun g =>
    g.missed.map fun t => (i, t, g)).mergeSort fun a b => a.2.2.gseq ≤ b.2.2.gseq
  l.foldl (fun s x =>
    let g := { x.2.2 with missed := none }
    let s1 := groupBill x.2.1 [(x.1, g)] (writeDue x.2.1 [(x.1, g)] s)
    if closesPeriod g.acts then flagPoint 0 8 s1 else s1) s

/-- B-SES boundaries that have occurred: their groups fall due. -/
def drainSes (s : Block) : Block :=
  s.pln.sesB.foldl (fun s n => boundary 5 n s) { s with pln.sesB := [] }

/-- `PILOT_STATE_CHANGE` (10 R299, R301): levels on which the agreeing measurements have settled, with the B-SES of a session that
the state opens. -/
def execPilotStateChange (outlet : Nat) (highMV lowMV : Int) (s : State) : Out :=
  act (fun b => if outletOk outlet then drainSes (pilotState outlet highMV lowMV b) else b) s

/-- `CMD_OUTLET_AUTHORISE` (10 R305), with the B-SES of a session that it opens. -/
def execCmdOutletAuthorise (h : Req) (p : List Byte) (s : State) : Out :=
  act (fun b => drainSes (runCmd specOutletAuthorise h p b)) s

/-- `MATRIX_FRAME`: a B-FRM (17 R491), at which groups of class B-FRM fall due. -/
def execMatrixFrame (o : FrameObs) (s : State) : Out :=
  act (fun b => if b.pwr.heldBy != .no then b else boundary 6 0 (matrixFrame o b)) s

/-- `GROUP_DEADLINE` (Table 6-11). -/
def execGroupDeadline (slot : Nat) (s : State) : Out :=
  act (fun b => match tget b.pln.groups slot with
    | some g => if b.pwr.heldBy == .no && g.due.isNone && g.missed.isNone && g.deadline != 0 && slot < 16 then
        abortGroup slot 3 0xFF b else b
    | none => b) s

/-! ### Submission (R170–R172) -/

/-- The actions of a submission, from byte 24. -/
def parseActs (p : List Byte) : Nat → Nat → List GAction
  | 0, _ => []
  | k + 1, o => ⟨u16At p o, u8At p (o + 2), bytesAt p (o + 4) 12⟩ :: parseActs p k (o + 16)

/-- TARGET and ARG of an action lie in the range of its CODE (Tables 6-10 and 9-4), unused ARG bytes at 0. DESIGN CHOICE: a PH
with a bit above phase C is out of range; Table 6-10 gives no range. -/
def actOk (a : GAction) : Bool :=
  let b := actArg a
  let rest := fun n => allZero (a.arg.drop n)
  let t := a.target
  match a.code with
  | 0x0101 => outletOk t && rest 3 && b 2 < 8
  | 0x0201 => 1 ≤ t && t ≤ 16 && (b 0 == 1 || b 0 == 2) && rest 1
  | 0x0202 => outletOk t && (b 0 == 1 || b 0 == 2) && rest 1
  | 0x0203 => t ≤ 12 && rest 1
  | 0x0301 => t == 0 && 1 ≤ b 0 && b 0 ≤ 8 && rest 1
  | 0x0302 => t == 0 && 1 ≤ b 0 && b 0 ≤ 3 && rest 1
  | 0x0303 => t == 0 && b 0 == 0 && rest 1
  | 0x0304 => t == 0 && 1 ≤ b 0 && b 0 ≤ 3 && b 1 < 8 && rest 2
  | 0x0305 => outletOk t && 1 ≤ b 0 && b 0 ≤ 10 && rest 1
  | _ => false

/-- BCLASS and INST are valid (Table 6-9). -/
def instOk (bclass inst : Nat) : Bool :=
  if bclass == 2 then inst ≤ 12 else if bclass == 5 then outletOk inst else bclass ≤ 6 && inst == 0

/-- No two actions share CODE and TARGET. -/
def distinctActs : List GAction → Bool
  | [] => true
  | a :: l => !(l.any fun b => b.code == a.code && b.target == a.target) && distinctActs l

/-- The group of a submission (Table 6-9). -/
def parseGroup (p : List Byte) : Group :=
  { gseq := 0, owner := 0, acts := parseActs p (u8At p 2) 24, bclass := u8At p 0, inst := u8At p 1
    notBefore := u64At p 8, deadline := u64At p 16, tag := 0, cmd := none, due := none, missed := none }

def groupOk (g : Group) (s : Block) : Bool :=
  1 ≤ g.acts.length && g.acts.length ≤ 32 && instOk g.bclass g.inst &&
  (g.notBefore == 0 || g.deadline == 0 || g.notBefore ≤ g.deadline) &&
  g.acts.all (fun a => actOk a && s.transactional (actDom a)) && distinctActs g.acts

def specGroupSubmit : CmdSpec where
  op := 0x0210
  role := .general
  modes := mRun
  len := fun p => p.length ≥ 24 && p.length == 24 + 16 * u8At p 2
  pre := fun _ p s => badUnless (groupOk (parseGroup p) s)
  body := fun r p s =>
    let g := parseGroup p
    if !groupRoom true g.acts.length s then refuse stBusy s
    else if s.pln.jrnBad then .done { s with pln.jrnBad := false } stStorageFault []
    else
      let q := nextGseq s
      let tag := ((findEntry r.id (s.box r.mb).entries).map fun e => e.tag).getD 0
      let s1 := putGroup { g with gseq := q, owner := mbOwner r.mb, tag, cmd := some r } { s with pln.gseq := q }
      .accepted s1

/-- `CMD_GROUP_SUBMIT` (R171–R173): a group of class IMM falls due on acceptance. -/
def execCmdGroupSubmit (h : Req) (p : List Byte) (s : State) : Out :=
  act (fun b => boundary 0 0 (runCmd specGroupSubmit h p b)) s

/-- A SUBMITTED or DUE group by its sequence number. -/
def groupBySeq (q : Nat) (s : Block) : Option (Nat × Group) :=
  ((List.range 16).filterMap fun i => (tget s.pln.groups i).bind fun g => if g.gseq == q then some (i, g) else none).head?

def specGroupAbort : CmdSpec where
  op := 0x0211
  role := .general
  modes := mRun
  len := lenIs 4
  body := fun r p s =>
    match groupBySeq (u32At p 0) s with
    | none => refuse stBadParam s
    | some (i, g) =>
      if g.owner != mbOwner r.mb then refuse stBadParam s
      else if g.due.isSome then refuse stBusy s
      else ok [] (abortGroup i 2 0xFF s)

/-- `CMD_GROUP_ABORT` (Table 6-11 cause 2). -/
def execCmdGroupAbort (h : Req) (p : List Byte) (s : State) : Out := act (runCmd specGroupAbort h p) s

/-! ### Group registers (Tables 6-20, 6-22) -/

def groupSum (s : Block) : Word :=
  let l := heldGroups s
  reg [fld 23 16 (actCount (l.filter mbGroup)), fld 15 8 (actCount l), fld 4 0 l.length]

def groupDoms (g : Group) : Nat := maskOf ([0, 1, 2].filter fun d => g.acts.any fun a => actDom a == d)

def groupWord (slot i : Nat) (s : Block) : Word :=
  match tget s.pln.groups slot with
  | none => 0
  | some g =>
    match i with
    | 0 => reg [fld 31 29 (if g.due.isSome then 2 else 1), fld 23 16 g.owner, fld 15 8 g.acts.length,
                fld 2 0 (groupDoms g)]
    | 1 => w32 g.gseq
    | 2 => reg [fld 15 8 g.bclass, fld 7 0 g.inst]
    | _ => reg [fld 31 16 g.tag]

def specGroupStatus : CmdSpec where
  op := 0x0212
  role := .general
  modes := mServed
  len := lenIs 0
  body := fun _ _ s =>
    ok (wordBytes (groupSum s :: (List.range 16).flatMap fun g => (List.range 4).map fun i => groupWord g i s)) s

/-- `CMD_GROUP_STATUS`. -/
def execCmdGroupStatus (h : Req) (p : List Byte) (s : State) : Out := act (runCmd specGroupStatus h p) s

/-! ### Locks (R176–R181) -/

def specLockAcquire : CmdSpec where
  op := 0x0220
  role := .general
  modes := mRun
  len := lenIs 4
  body := fun r p s =>
    let n := u8At p 0
    let t := u16At p 2
    if n > 31 || t > 5000 then refuse stBadParam s
    else match lockAsk (mbOwner r.mb) n s with
      | .granted s1 => ok [] s1
      | .fail st s1 => .done s1 st []
      | .wait =>
        if t == 0 then refuse stBusy s
        else .accepted (updLock n (fun l => { l with
          waiters := l.waiters ++ [⟨mbOwner r.mb, s.sys.mtime + t, some r, false⟩] }) s)

/-- `CMD_LOCK_ACQUIRE` (R178). -/
def execCmdLockAcquire (h : Req) (p : List Byte) (s : State) : Out := act (runCmd specLockAcquire h p) s

def specLockRelease : CmdSpec where
  op := 0x0221
  role := .general
  modes := mRun
  len := lenIs 4
  body := fun r p s =>
    let n := u8At p 0
    if n ≤ 31 && holdsLock (mbOwner r.mb) n s then ok [] (lockFree n s) else refuse stBadParam s

/-- `CMD_LOCK_RELEASE` (R178). -/
def execCmdLockRelease (h : Req) (p : List Byte) (s : State) : Out := act (runCmd specLockRelease h p) s

/-- The waiter of a lock whose wait ends first. -/
def firstOut (l : List Waiter) : Option Waiter :=
  l.foldl (fun b w => match b with
    | none => some w
    | some v => if w.deadline < v.deadline then some w else some v) none

/-- `LOCK_WAIT_TIMEOUT`: the wait that ends first fails with `BUSY` (R178, R179). -/
def execLockWaitTimeout (lock : Nat) (s : State) : Out :=
  act (fun b => match firstOut (tget b.pln.locks lock).waiters with
    | none => b
    | some w =>
      completeOpt w.cmd stBusy [] (updLock lock (fun l => { l with waiters := l.waiters.erase w }) b)) s

/-- Owners reset or fault at one instant (R180): their waits end, their locks are free and BROKEN, their SUBMITTED groups abort.
A command of another owner that fails on a broken lock releases the locks that it took (R179). -/
def breakOwners (os : List Nat) (s : Block) : Block :=
  let s0 := { s with
    pln.locks := s.pln.locks.map fun l => { l with waiters := l.waiters.filter fun w => !os.contains w.owner }
    pln.taken := s.pln.taken.filter fun t => !os.contains (mbOwner t.1.mb) }
  let s1 := os.foldl (fun s o => ((List.range 32).filter fun n => holdsLock o n s).foldl (fun s n =>
    lockGive n true (tget s.pln.locks n).waiters (raise 48 (o * 256 + n) s)) s) s0
  abortGroups 6 (fun g => os.contains g.owner) (sweepTaken s1)

/-- `HOST_CHANNEL_FAULT` (R180). -/
def execHostChannelFault (s : State) : Out := act (breakOwners [0x20]) s

/-- The result of a host-channel request (Table 6-23). -/
def hlockResult (status n : Nat) (s : Block) : Block :=
  { s with pln.hlockRes := reg [fld 31 16 status, fld 8 8 1, fld 4 0 n] }

/-- An acquisition by the host channel: it does not wait (R178). -/
def hlockAcq (n : Nat) (s : Block) : Block :=
  match lockAsk 0x20 n s with
  | .granted s1 => hlockResult stOk n s1
  | .fail st s1 => hlockResult st n s1
  | .wait => hlockResult stBusy n s

def hlockRel (n : Nat) (s : Block) : Block :=
  if holdsLock 0x20 n s then hlockResult stOk n (lockFree n s) else hlockResult stBadParam n s

/-! ### Arbiters (R182–R184) -/

/-- Ages after a number of CLK_BUS cycles: +1 per 1,024 for every raised request, saturating. -/
def Arb.aged (cycles : Nat) (a : Arb) : Arb :=
  let k := (a.frac + cycles) / 1024
  { a with frac := (a.frac + cycles) % 1024
           age := (List.zip (List.range a.age.length) a.age).map fun x => if bit a.req x.1 then min (x.2 + k) 65535 else 0 }

/-- The winner of a round: highest class, then greatest age, then lowest number. -/
def Arb.winner (a : Arb) (allowed : Nat) : Option Nat :=
  ((List.range a.cls.length).filter fun r => bit a.req r && bit allowed r).foldl (fun b r => match b with
    | none => some r
    | some c =>
      if tget a.cls r > tget a.cls c || (tget a.cls r == tget a.cls c && tget a.age r > tget a.age c) then some r
      else some c) none

/-- The resource is free: the last grant is over, requests raised join with age 0. -/
def Arb.joined (raised cycles : Nat) (a : Arb) : Arb :=
  let b := a.aged cycles
  { b with req := Nat.lor b.req (raised % 2 ^ b.cls.length), busy := false }

/-- One round (R182): the winner's request is granted, and the grant is in progress until the next round. -/
def Arb.round (raised cycles allowed : Nat) (a : Arb) : Arb :=
  let c := a.joined raised cycles
  match c.winner allowed with
  | none => c
  | some r => { c with req := clrBit c.req r, age := tput c.age r 0, grant := r, busy := true }

/-- While R64 limits the MRAM port: until the arbiter grants all requesters again at recovery (02 Table 2-9 step 1). -/
def portLimited (s : Block) : Bool := s.pwr.pfw

/-- The operation that engine `e` runs ends, and the oldest of its queue runs (14 R419). -/
def engEnd (e : Nat) (c : Cru) : Cru :=
  { c with engRun := tput c.engRun e (tget c.engQ e).head?, engQ := tupd c.engQ e List.tail }

/-- A granted operation of requester `r` goes to engine `e`: it runs where the engine is free, else it queues. -/
def engPlace (e r : Nat) (c : Cru) : Cru :=
  if (tget c.engRun e).isNone then { c with engRun := tput c.engRun e (some r) } else { c with engQ := tupd c.engQ e (· ++ [r]) }

/-- Requesters whose engine has room in its queue of four: the others are left out and keep their age (14 R419). -/
def engAllowed (c : Cru) : Nat := maskOf ((List.range 16).filter fun r => (tget c.engQ (tget c.engAsk r)).length < 4)

/-- The requests raised name their engines. -/
def engAsks (raised : Nat) (engs : List Nat) (c : Cru) : Cru :=
  { c with engAsk := (List.range 16).map fun r => if bit raised r && tget engs r < 12 then tget engs r else tget c.engAsk r }

/-- One round of the engine queue, after the operations of the engines in `done` have ended: the winner's operation is placed. -/
def cruRound (raised cycles : Nat) (engs : List Nat) (done : Nat) (s : Block) : Block :=
  let c := engAsks raised engs (((List.range 12).filter (bit done ·)).foldl (fun c e => engEnd e c) s.cru)
  let a := s.pln.arbC.round raised cycles (engAllowed c)
  { s with pln.arbC := a, cru := if a.busy then engPlace (tget c.engAsk a.grant) a.grant c else c }

/-- `ARB_ROUND`: the requests raised since the last round with the CLK_BUS cycles since then, and for the engine queue the engine
that each requester asks for and the engines whose operation has ended. -/
def execArbRound (arb raised cycles : Nat) (engs : List Nat) (done : Nat) (s : State) : Out :=
  act (fun b => if b.pwr.heldBy != .no then b else match arb with
    | 0 => { b with pln.arbM := b.pln.arbM.round raised cycles (if portLimited b then 0x0F else 0xFF) }
    | 1 => cruRound raised cycles engs done b
    | _ => b) s

def specArbPrioSet : CmdSpec where
  op := 0x0280
  role := .general
  modes := mRun
  len := lenIs 4
  body := fun _ p s =>
    let (ar, rq, c) := (u8At p 0, u8At p 1, u8At p 2)
    if ar > 1 || c > 7 || rq ≥ (if ar == 0 then 8 else 16) then refuse stBadParam s
    else
      let set := fun (a : Arb) => { a with cls := tput a.cls rq c }
      let s1 := if ar == 0 then { s with pln.arbM := set s.pln.arbM } else { s with pln.arbC := set s.pln.arbC }
      let old := tget (if ar == 0 then s.pln.arbM.cls else s.pln.arbC.cls) rq
      ok [] (evalRefresh (if old == c then s1 else raise 49 (ar * 16777216 + rq * 256 + c) s1))

/-- `CMD_ARB_PRIO_SET` (R184). -/
def execCmdArbPrioSet (h : Req) (p : List Byte) (s : State) : Out := act (runCmd specArbPrioSet h p) s

/-! ### PLN registers (R189) -/

/-- `PLN_OVRn` (Table 6-21): bit 32 − c of the word for cause c, and the signed limit in force. -/
def ovrReg (n : Nat) (s : Block) : Word :=
  let o := s.ovr n
  if o.causes == 0 then 0
  else
    let r := rowSet (reqRow s) n
    let clamp : Int :=
      if ovrZero o then 0
      else if bit o.causes 4 || bit o.causes 5 then
        let lim := fun (v c : Nat) => if bit o.causes 4 then (if bit o.causes 5 then min v c else v) else c
        if r < 0 then -Int.ofNat (lim o.ve o.ce) else Int.ofNat (lim o.vi o.ci)
      else (s.ao n).setpt
    reg [fld 31 24 (maskOf (((upto 1 8).filter fun c => bit o.causes c).map fun c => 8 - c)), fld 15 0 (tc 16 clamp)]

def lockReg (n : Nat) (s : Block) : Word :=
  let l := tget s.pln.locks n
  reg [fld 31 31 (b2n (l.owner != 0)), fld 30 30 (b2n l.broken), fld 23 16 l.owner, fld 3 0 l.waiters.length]

def classReg (l : List Nat) : Word :=
  reg ((List.zip (List.range l.length) l).map fun x => fld (3 * x.1 + 2) (3 * x.1) x.2)

def ageReg (a : Arb) (r : Nat) : Word := if bit a.req r then reg [fld 31 31 1, fld 15 0 (tget a.age r)] else 0

/-- PLN block reads; the offset counts from 0x05_0000. -/
def rdPln (a : Nat) (s : Block) : Option Word :=
  let p := s.pln
  if a % 4 != 0 then none
  else if a == 0x00 then some (w32 p.tick)
  else if a == 0x04 then some (reg [fld 31 31 (b2n p.timer), fld 15 0 (if p.timer then 0 else p.halfp)])
  else if 0x10 ≤ a && a < 0x40 then some (planWord ((a - 0x10) / 0x10) (a % 0x10 / 4) s)
  else if a == 0x40 then some (w32 p.cntOvr)
  else if a == 0x44 then some (w32 p.cntRej)
  else if a == 0x48 then some (w32 p.cntAbort)
  else if a == 0x4C then some (groupSum s)
  else if 0x100 ≤ a && a < 0x130 then some (ovrReg ((a - 0x100) / 4 + 1) s)
  else if 0x200 ≤ a && a < 0x300 then some (groupWord ((a - 0x200) / 0x10) (a % 0x10 / 4) s)
  else if 0x400 ≤ a && a < 0x480 then some (lockReg ((a - 0x400) / 4) s)
  else if a == 0x480 || a == 0x484 then some 0
  else if a == 0x488 then some p.hlockRes
  else if a == 0x500 then some (classReg p.arbM.cls)
  else if a == 0x504 then some (classReg (p.arbC.cls.take 10))
  else if a == 0x508 then some (classReg (p.arbC.cls.drop 10))
  else if a == 0x510 then some (reg [fld 31 31 (b2n p.arbM.busy), fld 30 30 (b2n (portLimited s)), fld 19 16 p.arbM.grant, fld 7 0 p.arbM.req])
  else if a == 0x514 then some (reg [fld 31 31 (b2n p.arbC.busy), fld 19 16 p.arbC.grant, fld 15 0 p.arbC.req])
  else if 0x600 ≤ a && a < 0x6C0 && a % 0x40 < 0x38 then
    let x := s.dom ((a - 0x600) / 0x40)
    some (if x.play == .idle || x.play == .stopped then 0 else tget x.last (a % 0x40 / 4))
  else if 0x700 ≤ a && a < 0x720 then some (ageReg p.arbM ((a - 0x700) / 4))
  else if 0x720 ≤ a && a < 0x760 then some (ageReg p.arbC ((a - 0x720) / 4))
  else none

/-- PLN writes (R189). -/
def wrPln (a v : Nat) (s : Block) : Wr :=
  if a == 0x480 then (if s.inMode mRun then .ok (hlockAcq (v % 32) s) else .notPerf)
  else if a == 0x484 then (if s.inMode mRun then .ok (hlockRel (v % 32) s) else .notPerf)
  else match rdPln a s with
    | none => .berr
    | some _ => .ok s

def specsGroup : List CmdSpec :=
  [specGroupSubmit, specGroupAbort, specGroupStatus, specLockAcquire, specLockRelease, specArbPrioSet]

end Sys2Proof.Machine
end

