-- ==== Sys2Proof/Machine/Modes.lean ====
section
/-!
DEFINITION. Operating modes (03): what a mode change does beside the mode register, the transitions of Table 3-2 by
command, AUTOSTART, SAFESTOP, and the outlet service states that complete later (Table 3-6, R617).
-/

namespace Sys2Proof.Machine

/-! ### Mains link and readers follow the mode (15 R446, 16 R485) -/

/-- The mains link runs (16 R485). -/
def mlkRuns (s : Block) : Bool :=
  u8At s.mlk.cfg 0 == 1 && !bylithDown s && !s.pwr.pfw &&
    s.inMode [.standby, .service, .degraded, .maintain, .commission, .safestop, .activate]

/-- The link off: a block being sent or received is abandoned, and its frames wait again. -/
def mlkOff (s : Block) : Block :=
  { s with mlk := { s.mlk with
    st := 0, lock := false, clear := 0, wait := none, defer := 0, warned := false, win := 0
    txq := s.mlk.out ++ s.mlk.txq, out := [], rx := [], blk := [], burst := [] } }

/-- The phase a search begins with: REFPH, or A where the receiver searches (16 R468). -/
def mlkPhase (s : Block) : Nat := if u8At s.mlk.cfg 2 == 3 then 0 else u8At s.mlk.cfg 2

/-- The reference phase taken up anew: not locked, and with REFPH auto searched for from phase A (16 R468). -/
def mlkSeek (s : Block) : Block :=
  { s with mlk := { s.mlk with lock := false, ph := mlkPhase s, found := u8At s.mlk.cfg 2 != 3, searchAt := s.sys.mtime } }

/-- The link starts listening: a configuration that waited for the end of a block applies (16 R487). -/
def mlkStart (s : Block) : Block := mlkSeek { s with mlk.st := 1 }

/-- The link after a change of mode, supply, Larkspur or configuration. -/
def mlkSync (s : Block) : Block :=
  if s.mlk.st == 0 then
    let s1 := { s with mlk.cfg := s.secBody 0x000B }
    if mlkRuns s1 then mlkStart s1 else s1
  else if mlkRuns s then s
  else mlkOff s

/-- The readers poll (15 R446). -/
def clsRuns (s : Block) : Bool := s.inMode mRun && !bylithDown s && s.pwr.holdover.isNone && !s.pwr.pfw

/-- Readers off: fields off, a transaction under way dropped without a decision. -/
def clsSync (s : Block) : Block :=
  if clsRuns s then s
  else
    let here := fun uid => s.cls.ants.any fun a => a.present && a.uid == uid
    { s with cls := { s.cls with
      hold := none, ants := s.cls.ants.map fun a => { a with present := false }
      decided := s.cls.decided.map fun d => if here d.uid then { d with seen := s.sys.mtime } else d } }

/-! ### Entering a mode -/

/-- A contactor test ends where the mode no longer permits it: its driver is released (Table 3-1). -/
def testLeft (s : Block) : Block :=
  match s.alc.test with
  | none => s
  | some t => if s.inMode [.maintain, .commission] then s else testDone t 1 (release t.driver false s)

/-- Pilot tests end with COMMISSION (Table 10-14). -/
def pilotLeft (s : Block) : Block :=
  if s.sys.mode == .commission then s
  else outlets.foldl (fun s n =>
    if (s.ol n).pilotTest then idlePilot n (updOl n (fun o => { o with pilotTest := false }) s) else s) s

/-- The mode that counts as left: in OUTAGE, the mode held at the warning (R82). -/
def modeHeld (s : Block) : Mode := if s.sys.mode == .outage then s.sys.held else s.sys.mode

/-- What follows a mode change: pilots (Table 3-1), load switches, displays, link and readers, safety functions, the
balance, injections and calibration of COMMISSION (07 R213, R219); ALL_OFF at the entry to SAFESTOP (11 Table 11-10). -/
def modeEffects (old : Mode) (s0 : Block) : Block :=
  let s := if s0.sys.mode == .safestop && old != .safestop then sendAllOff 3 s0 else s0
  let s1 := if pilotOffMode s then idlePilots s
            else if [Mode.factory, .provision, .selftest, .outage, .safestop, .zeroised].contains old then idlePilots s
            else s
  let s2 := if s1.sys.mode == .outage || s1.sys.mode == .zeroised then tinjEnd s1
            else if modeHeld { s1 with sys.mode := old } == .commission && s1.sys.mode != .commission then
              commissionLeft s1
            else s1
  let s3 := mlkSync (clsSync (bsdSync (disSync (lsSync (pilotLeft (testLeft s2))))))
  replan (balCheck (fnEvalAll s3))

/-- A mode entered with its cause (R77, Table 3-8). -/
def enterMode (m : Mode) (cause : Nat) (s : Block) : Block :=
  let old := s.sys.mode
  modeEffects old (setMode m cause s)

/-! ### SAFESTOP (Table 3-2, R83) -/

/-- The end of a mode transition releases its lock, where no disconnection holds it (06 R176). -/
def transUnlock (s : Block) : Block := if s.bil.pp == .armed then s else coreFree 0 s

/-- A transition under way is abandoned: its command completes with `NOT_IN_MODE` (R81). -/
def abandonTrans (s : Block) : Block :=
  match s.sys.trans with
  | none => s
  | some t => transUnlock (completeOpt t.cmd stNotInMode [] { s with sys := { s.sys with trans := none } })

/-- A SAFESTOP cause: in OUTAGE, or with a warning latched, it acts at recovery (R83). -/
def safestop (s : Block) : Block :=
  if s.inMode [.zeroised, .safestop] then s
  else if s.sys.mode == .outage || s.pwr.pfw then { s with sys := { s.sys with safestopDue := true } }
  else enterMode .safestop 0x12 (abandonTrans { s with sys := { s.sys with safestopDue := false } })

/-- Hold-over is over, or its limit has passed: 2.0 s, 10 s in ACTIVATE (02 Table 2-5, R58). -/
def holdoverPast (s : Block) : Bool :=
  match s.pwr.holdover with
  | none => true
  | some t => t + (if s.sys.mode == .activate then 10000 else 2000) ≤ s.sys.mtime

/-- SAFESTOP after a third Larkspur reset or a fatal error, once hold-over and the controlled stop have ended (02 R55, 21
Table 21-5). -/
def safestopCheck (s : Block) : Block :=
  if !s.sys.safestopDue || s.sys.mode == .outage || s.pwr.pfw || !holdoverPast s then s
  else
    let s1 := if outlets.any (fun n => (s.drv n).on) then cstopBegin 6 s else s
    if s1.pwr.cstop.isNone then safestop s1 else s1

/-! ### AUTOSTART and mode requests (R79–R81, R87) -/

/-- PHIMP of phase `k` and SITEIMP of the allocation section (11 R336). -/
def siteCapsOk (s : Block) : Bool :=
  s.cfg16 0x0008 0 != 0 &&
    (List.range 3).all fun k => s.cfg16 0x0008 (4 + 2 * k) != 0 ||
      !outlets.any fun n => s.fitted n && bit (s.phases n) k

/-- The site configuration is valid for R87 and Table 3-2: 11 R336, and the safety parameter set is the factory set or
CONFIRMED (13 R405). -/
def siteValid (s : Block) : Bool := siteCapsOk s && s.saf.pstate != 1

/-- `AUTOSTART` (R87), at the first B-SEC after SELFTEST enters STANDBY. -/
def execAutostart (s : State) : Out :=
  act (fun b =>
    if !b.sys.autostartDue then b
    else
      let b1 := { b with sys := { b.sys with autostartDue := false } }
      if b1.sys.mode == .standby && b1.sys.trans.isNone && b1.cfg8 0x0001 8 == 1 && siteValid b1 then
        enterMode (serviceMode b1) 0x17 b1
      else b1) s

/-- A target mode that is entered once every outlet is open (R81). DESIGN CHOICE: its sessions stop with reason 3 HOST.
Bylith takes `LOCK00` until the transition ends (06 R176). -/
def transBegin (m : Mode) (r : CmdRef) (s : Block) : CmdRes :=
  .accepted (cstopBegin 3 { coreTake 0 s with sys := { s.sys with trans := some ⟨m, 0x10, some r⟩ } })

/-- The TMPk inputs of the cover and of the enclosure (ROLE 1 and 2) are closed (Table 3-2). -/
def coversClosed (s : Block) : Bool :=
  (upto 1 8).all fun k =>
    let role := u8At s.cru.tamperCfg (4 * (k - 1))
    !(role == 1 || role == 2) || !bit s.cru.tmpOpen (k - 1)

/-- A mode request past the checks of its code (R80). -/
def modeRequest (r : CmdRef) (code : Nat) (s : Block) : CmdRes :=
  let go := fun m => ok [] (enterMode m 0x10 s)
  let cond := fun c m => if c then go m else refuse stBadParam s
  match s.sys.mode, code with
  | .standby, 5 => cond (siteValid s) (serviceMode s)
  | .standby, 7 => cond (grantValid s) .maintain
  | .standby, 8 => if grantValid s then go .commission else refuse stExpert s
  | .service, 4 | .degraded, 4 => transBegin .standby r s
  | .service, 7 | .degraded, 7 => if grantValid s then transBegin .maintain r s else refuse stBadParam s
  | .maintain, 4 => cond (coversClosed s) .standby
  | .commission, 4 => go .standby
  | _, _ => refuse stNotInMode s

def specSysModeSet : CmdSpec where
  op := 0x0102
  role := .general
  modes := mRun
  len := lenIs 4
  body := fun r p s =>
    let code := u8At p 0
    if !(1 ≤ code && code ≤ 12) then refuse stBadParam s
    else if s.sys.trans.isSome then refuse stBusy s
    else modeRequest r code s

/-- `CMD_SYS_MODE_SET` (R79–R81). -/
def execCmdSysModeSet (h : Req) (p : List Byte) (s : State) : Out := act (runCmd specSysModeSet h p) s

/-- The target mode of a transition entered, and its command completed (R81). -/
def transDone (s : Block) : Block :=
  match s.sys.trans with
  | none => s
  | some t => transUnlock (completeOpt t.cmd stOk [] (enterMode t.target t.cause { s with sys := { s.sys with trans := none } }))

/-- `MODE_TRANSITION_COMPLETE` (R81): every outlet coil driver is confirmed open. -/
def execModeTransitionComplete (s : State) : Out :=
  act (fun b =>
    if b.inMode [.service, .degraded] && b.sys.trans.isSome && outletsOpen b then transDone (cstopCheck b) else b) s

/-! ### Service states (R90, R91, R616, R617) -/

/-- `SERVICE_OUT_APPLY`: the session's Ingot is sealed; an outlet that has become FAULTED meanwhile stays so (R616). -/
def execServiceOutApply (outlet : Nat) (s : State) : Out :=
  act (fun b =>
    let o := b.ol outlet
    if outletOk outlet && o.outDue && !draftOf outlet b && (o.ses.st == .idle || o.ses.st == .parked) then
      let b1 := updOl outlet (fun o => { o with outDue := false, outReq := none }) b
      completeOpt o.outReq stOk [] (if b1.svcOf outlet == 4 then b1 else refreshMasks (svcGo outlet 2 b1))
    else b) s
where
  /-- A session Ingot of the outlet is still to be sealed. -/
  draftOf (n : Nat) (b : Block) : Bool := b.bil.units.any fun u => u.drafts.any fun d => d.type == 1 && d.point == n

/-- `BYPASS_APPLY` (R617), at the B-CYC of MPn. -/
def execBypassApply (outlet : Nat) (s : State) : Out :=
  act (fun b =>
    if !outletOk outlet then b
    else match (b.ol outlet).bypCmd with
      | none => b
      | some r =>
        let b1 := updOl outlet (fun o => { o with bypCmd := none }) b
        if b1.svcOf outlet == 2 && driverOpen outlet b1 then complete r stOk [] (refreshMasks (svcGo outlet 3 (updPt outlet (fun x => { x with
          chans := x.chans.map fun c => { c with refPass := false } }) b1)))
        else complete r stBadParam [] b1) s

/-- `BYPASS_FB_CLOSED`: FBn of a BYPASSED outlet has shown closed for 100 ms (Tables 3-6, 11-6). -/
def execBypassFbClosed (outlet : Nat) (s : State) : Out :=
  act (fun b =>
    if outletOk outlet && b.svcOf outlet == 3 then refreshMasks (svcGo outlet 4 (fbFault outlet 4
        (updDrv outlet (fun d => { d with fb := true, rawFb := true }) b)))
    else b) s

/-- `CMD_OUTLET_BYPASS` (R617): the masks of R91 follow the outlet's state. -/
def execCmdOutletBypass (h : Req) (p : List Byte) (s : State) : Out :=
  act (fun b => refreshMasks (runCmd specOutletBypass h p b)) s

/-- `CMD_OUTLET_SERVICE_SET` (R90). -/
def execCmdOutletServiceSet (h : Req) (p : List Byte) (s : State) : Out :=
  act (fun b => refreshMasks (runCmd specOutletServiceSet h p b)) s

end Sys2Proof.Machine
end

