-- ==== Sys2Proof/Machine/MlkTx.lean ====
section
/-!
DEFINITION. Frames that the module sends over the mains link: addresses, frame layout, the transmit queue (16 R475, R476,
R479, R483).
-/

namespace Sys2Proof.Machine

/-- Field of the mains-link section in force (Table 16-6). -/
def Block.m8 (s : Block) (o : Nat) : Nat := u8At s.mlk.cfg o

/-- The module's own address (Table 16-6 ADDR). -/
def mlkAddr (s : Block) : Nat :=
  let a := u32At s.mlk.cfg 4
  if a != 0 then a
  else
    let b := Nat.lor (serialNum % 4294967296) 0x100
    if b == 0xFFFFFFFF then 0xFFFFFFFE else b

/-- HEADEND: the head-end that frames no frame prompted go to (R476). -/
def headEnd (s : Block) : Nat := s.m8 24

/-- A frame's bytes (Table 16-3). -/
def mlkFrame (type flags dst fcnt : Nat) (body : List Byte) (s : Block) : List Byte :=
  let mac := bit flags 0
  let len := 20 + body.length + (if mac then 16 else 0)
  let f := p16 len ++ p8 type ++ p8 flags ++ p32 dst ++ p32 (mlkAddr s) ++ p32 fcnt ++ body
  let g := if mac then f ++ (hmac256 (tget s.cru.slots 14).key f).take 16 else f
  g ++ p32 (crc32 g)

/-- A new frame takes the next FCNT and joins the transmit queue of 16 frames. DESIGN CHOICE: a frame of the module's own
that finds the queue full, or needs a MAC while slot 14 is empty, is not sent. -/
def mlkSend (type flags dst cls : Nat) (body : List Byte) (s : Block) : Block :=
  if s.m8 0 == 0 || s.mlk.txq.length + s.mlk.out.length ≥ 16 || (bit flags 0 && !slotValid 14 s) then s
  else
    let q := (s.mlk.fcntTx + 1) % 4294967296
    let s := if bit flags 0 then engOp 9 s else s
    { s with mlk := { s.mlk with
      fcntTx := q
      txq := s.mlk.txq ++ [{ raw := mlkFrame type flags dst q body s, cls, tries := 0, sentAt := 0 }] } }

/-- A STATUS frame (R483), with ACKREQ. -/
def mlkStatus (dst : Nat) (s : Block) : Block :=
  mlkSend 9 3 dst 4
    (p64 serialNum ++ p64 s.sys.mtime ++ p64 (tget (accVis 0 s) 0) ++ pi64 s.bil.credit ++ p32 s.bil.iseq ++
      p8 s.sys.mode.code ++ p8 s.bil.pp.code ++ p8 (b2n s.cru.alarm + 2 * b2n (s.cru.evalCause == 0)) ++ p8 0) s

end Sys2Proof.Machine
end

