-- ==== Sys2Proof/Machine/MlkPhy.lean ====
section
/-!
DEFINITION. Symbols and blocks of the mains link: tones and dibits (16 R466), combining of the couplings (R469), the block
construction (R470), the interleaver (R471), impulses and erasure (R472).
-/

namespace Sys2Proof.Machine

/-! ### Tones and dibits (R466) -/

/-- The tone k of a dibit, in Gray code, and the dibit of a tone. -/
def toneOf (dibit : Nat) : Nat := match dibit with | 0 => 0 | 1 => 1 | 3 => 2 | _ => 3
def dibitOf (tone : Nat) : Nat := match tone with | 0 => 0 | 1 => 1 | 2 => 3 | _ => 2

/-- f_k in Hz. -/
def toneHz (k : Nat) : Nat := 54000 + 9000 * k

/-- The tone indices of the preamble (Table 16-2). -/
def preambleTones : List Nat := [0, 3, 0, 3, 1, 2, 1, 2, 3, 0, 3, 0, 2, 1, 2, 1]

/-- A level in 0.1 dBµV of an energy in nV² (10⁶ nV² is 0 dBµV). DESIGN CHOICE: rounded down, 0 below 0 dBµV. -/
def levelOf (e : Nat) : Nat := (List.range 2000).foldl (fun k _ => if 10 ^ (k + 1 + 600) ≤ e ^ 100 then k + 1 else k) 0

/-- An energy exceeds a reference by more than d dB. -/
def exceedsDb (e ref d : Nat) : Bool := ref ^ 10 * 10 ^ d < e ^ 10

/-! ### The couplings (R469, R472) -/

/-- Couplings that take part: enabled, no fault (R469). -/
def cpOn (c : Nat) (s : Block) : Bool := bit (s.m8 1) (c - 1) && !(tget s.mlk.cps (c - 1)).fault
def cpsOn (s : Block) : List Nat := (upto 1 3).filter fun c => cpOn c s

/-- The impulse detector marks the symbol on a coupling (R472). DEDUCED: the energy in the guard bins is that of both. -/
def cpErased (noise impth : Nat) (y : CpSym) : Bool := y.clip || exceedsDb (y.g45 + y.g90) noise impth

/-- The factor that divides a coupling's energies by its noise floor, over a common denominator: the product of the other
floors. A floor of 0 counts as 1 nV². -/
def noiseDen (w : RxWin) (l : List Nat) : Nat := l.foldl (fun p c => p * max 1 (tget w.noise (c - 1))) 1
def toneSum (w : RxWin) (y : List CpSym) (l : List Nat) (t : Nat) : Nat :=
  l.foldl (fun a c => a + tget (tget y (c - 1)).tones t * noiseDen w (l.filter (· != c))) 0

/-- One symbol after combining: the tone with the largest sum decides it, its margin is the soft value (R469). It is erased,
with zero confidence, where every coupling taking part erased it (R472). DESIGN CHOICE: of equal sums the lowest tone. -/
def combine (w : RxWin) (y : List CpSym) (s : Block) : RxSym :=
  let l := (cpsOn s).filter fun c => !cpErased (tget w.noise (c - 1)) (s.m8 26) (tget y (c - 1))
  let sums := (List.range 4).map (toneSum w y l)
  let best := (List.range 4).foldl (fun m t => if tget sums m < tget sums t then t else m) 0
  let next := ((List.range 4).filter (· != best)).foldl (fun m t => max m (tget sums t)) 0
  if l.isEmpty then ⟨dibitOf best, 0, 1, true⟩ else ⟨dibitOf best, tget sums best - next, noiseDen w l, false⟩

/-- The 16 symbols of a window. -/
def combined (w : RxWin) (s : Block) : List RxSym := (w.syms.take 16).map fun y => combine w y s

/-- A preamble: at least 14 of 16 tones match (Table 16-2). DESIGN CHOICE: an erased symbol matches nothing. -/
def preambleIn (w : RxWin) (s : Block) : Bool :=
  (((combined w s).zip preambleTones).filter fun p => !p.1.erased && toneOf p.1.dibit == p.2).length ≥ 14

/-- A clear window (R474): on no coupling taking part tone energy above CSTH or an erased symbol. -/
def windowClear (w : RxWin) (s : Block) : Bool :=
  (cpsOn s).all fun c => w.syms.all fun l =>
    let y := tget l (c - 1)
    !(cpErased (tget w.noise (c - 1)) (s.m8 26) y || y.tones.any fun e => exceedsDb e 1000000 (s.m8 25))

/-- The energies of the preamble's tones on a coupling: each tone over its four symbols. -/
def preambleEnergy (w : RxWin) (c : Nat) : List Nat :=
  (List.range 4).map fun t =>
    ((w.syms.zip preambleTones).filter fun p => p.2 == t).foldl (fun a p => a + tget (tget p.1 (c - 1)).tones t) 0 / 4

/-- The tone levels of a preamble (`MLK_TONEt`), on the strongest coupling: the one with the largest total energy. -/
def preambleLevels (w : RxWin) (s : Block) : List Nat :=
  let all := (cpsOn s).map (preambleEnergy w)
  (all.foldl (fun m l => if m.foldl (· + ·) 0 < l.foldl (· + ·) 0 then l else m) [0, 0, 0, 0]).map levelOf

/-- A change of each coupling taking part, by its index. -/
def cpsNoted (f : Nat → Coupling → Coupling) (s : Block) : Block :=
  let l := ((List.range 3).zip s.mlk.cps).map fun p => if cpOn (p.1 + 1) s then f p.1 p.2 else p.2
  { s with mlk := { s.mlk with cps := l } }

/-- The noise floors of a window (`MLK_CPc_NOISE`). -/
def noiseNoted (w : RxWin) (s : Block) : Block :=
  cpsNoted (fun i c => { c with noise := min 65535 (levelOf (tget w.noise i)) }) s

/-- The symbols of a window erased on each coupling are counted (`MLK_CPc_ERASE`), modulo 2³². -/
def erasedNoted (w : RxWin) (s : Block) : Block :=
  cpsNoted (fun i c =>
    let n := (w.syms.filter fun y => cpErased (tget w.noise i) (s.m8 26) (tget y i)).length
    { c with erase := (c.erase + n) % 4294967296 }) s

/-! ### Codes (Table 16-2) -/

/-- Product in GF(2⁸) with polynomial 0x11D. -/
def rsDouble (a : Nat) : Nat := if a < 128 then 2 * a else Nat.xor (2 * a) 0x11D
def rsMulFrom (a b : Nat) : Nat → Nat
  | 0 => 0
  | k + 1 => Nat.xor (if bit b 0 then a else 0) (rsMulFrom (rsDouble a) (b / 2) k)
def rsMul (a b : Nat) : Nat := rsMulFrom a b 8

/-- The generator polynomial with roots α⁰ to α⁶³, without its leading 1, highest power first. -/
def rsGenerator : List Nat :=
  ((List.range 64).foldl (fun (p : Nat × List Nat) _ =>
    let g := 1 :: p.2
    (rsDouble p.1, ((g.drop 1) ++ [0]).zipWith Nat.xor (g.map (rsMul p.1)))) (1, [])).2

/-- The 64 parity bytes of 191 data bytes, the first byte the highest power (PRESUMED). -/
def rsParity (data : List Nat) : List Nat :=
  data.foldl (fun r d =>
    let f := Nat.xor d (r.headD 0)
    ((r.drop 1) ++ [0]).zipWith (fun a g => Nat.xor a (rsMul f g)) rsGenerator) (List.replicate 64 0)

/-- The 1,024 bytes of a block from its 764 data bytes: block byte b < 1,020 is byte b div 4 of codeword b mod 4. -/
def blockOf (data : List Byte) : List Byte :=
  let d := fixLen 764 data
  let par := (List.range 4).map fun c =>
    rsParity (((List.range 191).map fun i => u8At d (4 * i + c)))
  d ++ (List.range 256).map fun i => BitVec.ofNat 8 (tget (tget par (i % 4)) (i / 4))

/-- Information bit i of a block, most significant bit of each byte first. -/
def infoBit (blk : List Byte) (i : Nat) : Bool := bit (u8At blk (i / 8)) (7 - i % 8)

/-- The coded pair of bit i: tail-biting, constraint length 7, generators 171 and 133 (octal). PRESUMED: the newest bit meets
a generator's highest bit, and 171 gives the dibit's high bit. -/
def codedDibit (blk : List Byte) (i : Nat) : Nat :=
  let par := fun (g : Nat) => ((List.range 7).filter fun k => bit g (6 - k) && infoBit blk ((i + 8192 - k) % 8192)).length % 2
  2 * par 0o171 + par 0o133

/-- The data window and the position in it of symbol j (R471), and the symbol of a window and position (267 is the inverse of
163 modulo 512). -/
def symWindow (j : Nat) : Nat := 163 * j % 512
def symPos (j : Nat) : Nat := j / 512
def symAt (h pos : Nat) : Nat := 512 * pos + 267 * h % 512

/-- The 16 tones of window `n` of a block: 0 the preamble, n its data window n − 1. -/
def windowTones (blk : List Byte) (n : Nat) : List Nat :=
  if n == 0 then preambleTones
  else (List.range 16).map fun p => toneOf (codedDibit blk (symAt (n - 1) p))

/-- The data bytes of a block (Table 16-2): header, then its frames; the block construction fills it up. -/
def blockData (bseq : Nat) (last : Bool) (fs : List TxFrame) : List Byte :=
  p16 bseq ++ p8 fs.length ++ p8 (b2n last) ++ fs.flatMap (·.raw)

/-! ### Decoding a block (R471, R472) -/

/-- Symbol j of the block received was erased. -/
def symErased (rx : List (List RxSym)) (j : Nat) : Bool := (tget (tget rx (symWindow j)) (symPos j)).erased

/-- Erased symbols among those of bytes `o` to `o + n − 1`: each byte is carried by 8 symbols. -/
def erasedIn (rx : List (List RxSym)) (o n : Nat) : Nat :=
  ((List.range (8 * n)).filter fun k => symErased rx (8 * o + k)).length

/-- All erased symbols of the block. -/
def erasedAll (rx : List (List RxSym)) : Nat := (rx.map fun w => (w.filter (·.erased)).length).foldl (· + ·) 0

/-- `MLK_EMAP0` to `MLK_EMAP7`: bit b of word i, data windows 64i + 2b and 64i + 2b + 1 held an erasure. -/
def erasureMap (rx : List (List RxSym)) : List Nat :=
  let held := fun h => (tget rx h).any (·.erased)
  (List.range 8).map fun i => maskOf ((List.range 32).filter fun b => held (64 * i + 2 * b) || held (64 * i + 2 * b + 1))

/-- Codeword c decodes to the proposed block: e byte errors and f erasures with 2e + f ≤ 64 (R472). -/
def codewordOk (rx : List (List RxSym)) (bytes blk : List Byte) (c : Nat) : Bool :=
  let at' := (List.range 255).map fun i => 4 * i + c
  let er := fun b => erasedIn rx b 1 ≥ 4
  let f := (at'.filter er).length
  let e := (at'.filter fun b => !er b && bytes.getD b 0 != blk.getD b 0).length
  2 * e + f ≤ 64

/-- A block byte as the receiver reads it: corrected where its codeword decodes, else as the inner decoder left it. -/
def blockByte (okc : List Bool) (bytes data : List Byte) (b : Nat) : Nat :=
  if tget okc (b % 4) then u8At data b else u8At bytes b

/-- The frames of a block by their LEN, from data byte `p`: each with the erased symbols of its bytes (R473, R475). A LEN that no
frame can have ends the block, and its frame has no bytes. -/
def cutFrames (rx : List (List RxSym)) (data : List Byte) (p : Nat) : Nat → List RxFrame
  | 0 => []
  | k + 1 =>
    let n := u16At data p
    if 20 ≤ n && n ≤ 256 && p + n ≤ 764 then ⟨bytesAt data p n, erasedIn rx p n⟩ :: cutFrames rx data (p + n) k
    else List.replicate (k + 1) ⟨[], 0⟩

end Sys2Proof.Machine
end

