-- ==== Sys2Proof/Machine/Bank.lean ====
section
/-!
DEFINITION. The update session (19): its states, the checks of a header, units and verification, schedule, and the ways an
activation ends: commit point, revert, abandonment.
-/

namespace Sys2Proof.Machine

def updUpd (f : Upd → Upd) (s : Block) : Block := { s with upd := f s.upd }

/-- A session state entered: `EV246` (R539). -/
def updGo (st : UpdSt) (s : Block) : Block :=
  raise 246 (s.upd.updid % 16777216 * 256 + st.code) { s with upd.st := st }

/-! ### Reports (R540) -/

def unitHeld (k : Nat) (s : Block) : Bool := (lookupN k s.upd.units).isSome

/-- The lowest missing unit, 0xFFFF_FFFF when none (Table 19-10). -/
def firstMissing (s : Block) : Nat := ((List.range s.upd.total).find? fun k => !unitHeld k s).getD 0xFFFFFFFF

/-- A REPORT to an address. -/
def updReport (dst : Nat) (s : Block) : Block :=
  mlkSend 6 1 dst 5 (p8 5 ++ zeros 3 ++ p32 s.upd.updid ++ p8 s.upd.st.code ++ p8 s.upd.reason ++ p16 0 ++
    p32 s.upd.units.length ++ p32 s.upd.total ++ p32 (firstMissing s)) s

/-- A refusal with a reason of Table 19-3: `EV247`, a REPORT to HEADEND (R535, R540). -/
def updRefused (reason transport : Nat) (s : Block) : Block :=
  updReport (headEnd s) (raise 247 (reason * 256 + transport) { s with upd.reason := reason })

/-! ### Session (R538, R539) -/

def UpdPart.none : UpdPart := ⟨0, [], false, false, false, false⟩

/-- The session opens on transport 1 (mains link) or 2 (host). -/
def updOpen (transport updid : Nat) (s : Block) : Block :=
  updGo .header (updUpd (fun u => { u with
    transport, updid, header := [], head := [], units := [], halves := [], total := 0, vfail := 0, sched := none
    parts := List.replicate 9 UpdPart.none, cmd := none }) s)

/-- The session ends: IDLE, resource 5 released, a command that waits on it refused. -/
def updEnd (s : Block) : Block :=
  let s1 := unclaim 6 (unclaim 5 (updGo .idle s))
  completeOpt s.upd.cmd stBadParam [] (updUpd (fun u => { u with
    transport := 0, updid := 0, header := [], head := [], units := [], halves := [], total := 0, vfail := 0
    sched := none, act := .no, parts := List.replicate 9 UpdPart.none, cmd := none }) s1)

/-- `UPD_LAST` (Table 19-10). -/
def updLast (outcome check part : Nat) (s : Block) : Block :=
  updUpd (fun u => { u with outcome, check, failPart := part }) s

/-- A counter of Table 19-10: 0 PIECE, 1 DUP, 2 REJECT, 3 ACT, 4 REVERT, 5 VERIFY. -/
def updCount (k : Nat) (s : Block) : Block := updUpd (fun u => { u with cnt := tupd u.cnt k inc32 }) s

/-! ### Header (R534, R535) -/

/-- An entry's PART, VERSION, LENGTH and HASH (Table 19-2). -/
structure UpdEntry where
  part : Nat
  ver  : Nat
  len  : Nat
  hash : List Byte
  deriving DecidableEq, Repr, Inhabited

def hdrParts (h : List Byte) : Nat := u8At h 6
def hdrKeysel (h : List Byte) : Nat := u8At h 7
def hdrRollback (h : List Byte) : Nat := u32At h 12
def hdrPaylen (h : List Byte) : Nat := u32At h 24

def hdrEntry (h : List Byte) (i : Nat) : UpdEntry :=
  let o := 52 + 44 * i
  ⟨u8At h o, u32At h (o + 4), u32At h (o + 8), bytesAt h (o + 12) 32⟩

def hdrEntries (h : List Byte) : List UpdEntry := (List.range (min (hdrParts h) 9)).map (hdrEntry h)

/-- A length rounded up to 4,096 bytes. -/
def pages (n : Nat) : Nat := (n + 4095) / 4096 * 4096

/-- Each entry with its offset in the payload, and the end of the last part (R534). -/
def layout : List UpdEntry → Nat → List (UpdEntry × Nat)
  | [], _ => []
  | e :: l, o => (e, o) :: layout l (o + pages e.len)

def layoutEnd (l : List (UpdEntry × Nat)) : Nat :=
  match l.getLast? with
  | some x => x.2 + x.1.len
  | none => 0

def hdrFormatOk (h : List Byte) : Bool :=
  h.length == 512 && u32At h 0 == 0x31445055 && u16At h 4 == 0x0100 && 1 ≤ hdrParts h && hdrParts h ≤ 9 &&
    allZero (bytesAt h 28 24) && allZero (bytesAt h (52 + 44 * hdrParts h) (44 * (9 - hdrParts h))) &&
    (List.range (hdrParts h)).all (fun i => allZero (bytesAt h (53 + 44 * i) 3)) && u32At h 8 != 0

def hdrLayoutOk (h : List Byte) : Bool :=
  let es := hdrEntries h
  let l := layout es 0
  (es.all fun e => e.part ≤ 8) && (es.map fun e => e.part).eraseDups.length == es.length &&
    ((es.filter fun e => e.part != 7).foldl (fun a e => a + pages e.len) 0) ≤ 60817408 &&
    (es.all fun e => e.part != 7 || e.len ≤ 2097152) && hdrPaylen h == layoutEnd l

/-- The key that signs a header: the Uazel update key in boot ROM, or slot 13. -/
def hdrKey (h : List Byte) (s : Block) : List Byte :=
  if hdrKeysel h == 0 then leBytes 32 (Config.romKey 1).toNat else (tget s.cru.slots 13).key

/-- The first check of Table 19-3 that fails: reason and status. -/
def headerFails (h : List Byte) (s : Block) : Option (Nat × Nat) :=
  if !hdrFormatOk h then some (1, stBadParam)
  else if u64At h 16 != 0 && u64At h 16 != serialNum then some (2, stBadParam)
  else if !(hdrKeysel h == 0 || (hdrKeysel h == 1 && (hdrEntries h).all (fun e => 6 ≤ e.part && e.part ≤ 8) && grantValid s)) then
    some (3, stBadParam)
  else if hdrRollback h < s.upd.rollFuse || hdrRollback h > 128 then some (4, stBadParam)
  else if !hdrLayoutOk h then some (5, stBadParam)
  else if hdrKeysel h == 1 && !slotValid 13 s then some (6, stBadParam)
  else if !edVerify (hdrKey h s) (bytesAt h 0 448) (bytesAt h 448 64) then some (7, stAuthFailed)
  else none

/-- Units of an image (R541, R543). -/
def unitsOf (transport : Nat) (h : List Byte) : Nat :=
  if transport == 1 then (512 + hdrPaylen h + 191) / 192 else (hdrPaylen h + 4095) / 4096

/-- An accepted header: its parts are CARRIED, and the bank is erased. -/
def headerAccepted (h : List Byte) (s : Block) : Block :=
  updGo .erasing (updUpd (fun u => { u with
    header := h, total := unitsOf u.transport h
    parts := (List.range 9).map fun n => match (hdrEntries h).find? fun e => e.part == n with
      | some e => { UpdPart.none with ver := w32 e.ver, carried := true, integ := hdrKeysel h == 1 }
      | none => UpdPart.none }) s)

/-! ### Verification (R536, R544) -/

/-- The bytes staged in the inactive bank, from payload byte 0. -/
def payload (s : Block) : List Byte :=
  let n := if s.upd.transport == 1 then 192 else 4096
  let img := (List.range s.upd.total).flatMap fun k => fixLen n ((lookupN k s.upd.units).getD [])
  if s.upd.transport == 1 then img.drop 512 else img

/-- The full SHA-512 of an entry's bytes. -/
def partHash (x : UpdEntry × Nat) (pay : List Byte) : List Byte :=
  sha512 (bytesAt pay x.2 x.1.len)

/-- Unit `k` holds bytes of the payload from `a` up to `b`. -/
def unitOverlaps (transport k a b : Nat) : Bool :=
  if transport == 1 then 192 * k < 512 + b && 512 + a < 192 * k + 192 else 4096 * k < b && a < 4096 * k + 4096

/-- Part n of the staged bank once every carried part verifies: carried, or copied from the active bank. -/
def stagedPart (n : Nat) (l : List (UpdEntry × Nat)) (pay : List Byte) (s : Block) : UpdPart :=
  match l.find? fun x => x.1.part == n with
  | some x =>
    let h := partHash x pay
    ⟨w32 x.1.ver, h, true, true, h != tget s.upd.hash n, hdrKeysel s.upd.header == 1⟩
  | none => ⟨tget s.upd.ver n, tget s.upd.hash n, false, true, false, bit s.upd.integ n⟩

/-- VERIFYING completes: STAGED, RECEIVING again, or IDLE at the third failure. A waiting `CMD_UPD_FINISH` completes with
the number of parts verified. -/
def updVerified (s : Block) : Block :=
  let l := layout (hdrEntries s.upd.header) 0
  let pay := payload s
  let bad := l.filter fun x => (partHash x pay).take 32 != x.1.hash
  let s0 := completeOpt s.upd.cmd stOk (p8 (l.length - bad.length) ++ zeros 3) { s with upd.cmd := none }
  match bad with
  | [] =>
    let s1 := updGo .staged (updUpd (fun u => { u with parts := (List.range 9).map fun n => stagedPart n l pay s }) s0)
    updReport (headEnd s1) (raise 248 s1.upd.updid s1)
  | x :: _ =>
    let s1 := updCount 5 (updUpd (fun u => { u with vfail := u.vfail + 1 }) s0)
    if s1.upd.vfail ≥ 3 then updEnd (updLast 5 0 x.1.part s1)
    else
      updGo .receiving (updUpd (fun u => { u with
        units := u.units.filter fun y =>
          !bad.any fun z => unitOverlaps u.transport y.1 z.2 (z.2 + z.1.len) }) s1)

/-! ### Schedule (R545) -/

/-- The due MTIME of a schedule, 0 without one. -/
def updDue (s : Block) : Nat :=
  match s.upd.sched with
  | some (w, _) => (w - s.sys.wallOfs).toNat
  | none => 0

/-- The MTIME at which the window ends. -/
def updWindowEnd (s : Block) : Nat :=
  match s.upd.sched with
  | some (w, m) => (w - s.sys.wallOfs + Int.ofNat (m * 60000)).toNat
  | none => 0

/-- A schedule whose ACTWALL lies no more than the window in the past, of a staged release. -/
def schedOk (updid m : Nat) (w : Int) (s : Block) : Bool :=
  (s.upd.st == .staged || s.upd.st == .scheduled) && updid == s.upd.updid && 1 ≤ m && m ≤ 10080 &&
    s.wall ≤ w + Int.ofNat (m * 60000)

def updSchedule (m : Nat) (w : Int) (s : Block) : Block :=
  let s1 := { s with upd.sched := some (w, m) }
  if s1.upd.st == .scheduled then s1 else updGo .scheduled s1

/-- STAGED is entered, and the head-end hears of it (R540). -/
def updStaged (s : Block) : Block :=
  let s1 := updGo .staged s
  updReport (headEnd s1) s1

/-- SCHEDULED back to STAGED. -/
def updUnschedule (s : Block) : Block := updStaged { s with upd.sched := none }

/-! ### The end of an activation (R546–R552) -/

def changedMask (s : Block) : Nat := maskOf ((List.range 9).filter fun n => (tget s.upd.parts n).changed)

/-- An activation is stopping when ANVIL or CRUCIBLE is changed (R533). -/
def updStopping (s : Block) : Bool := (tget s.upd.parts 1).changed || (tget s.upd.parts 3).changed

/-- Larkspur runs the trial bank (`UPD_STAT.TRIAL`). -/
def onTrial (s : Block) : Bool :=
  match s.upd.act with
  | .trial _ | .trialStop => true
  | _ => false

/-- The committed bank: 0 A, 1 B (`UPD_BANKREC`). -/
def bankRec (s : Block) : Bool := s.sys.bankB != onTrial s

/-- ASSAY changed: the version counter rises and the ASSAY event log takes an entry (R548); none where that log is full
(R579). -/
def assayChange (s : Block) : Option Block :=
  if !(tget s.upd.parts 2).changed then some s
  else
    (asyRecord 6 [(tget s.upd.ver 2).toNat, (tget s.upd.parts 2).ver.toNat] s).map fun s1 =>
      updUpd (fun u => { u with assayCnt := (u.assayCnt + 1) % 4294967296 }) s1

/-- The commit point (Table 19-5 step 5; R551 step 3): bank record, anti-rollback counter, `EV249`, the session ends. -/
def commitPoint (s : Block) : Block :=
  let rb := hdrRollback s.upd.header
  let ch := changedMask s
  let fitted := maskOf ((outlets.filter s.fitted).map fun n => n - 1)
  let s1 := updCount 3 (updLast 1 0 0xFF (updUpd (fun u => { u with
    ver := u.parts.map fun x => x.ver, hash := u.parts.map fun x => x.hash
    integ := maskOf ((List.range 9).filter fun n => (tget u.parts n).integ)
    rollRec := rb, rollFuse := max u.rollFuse rb, act := .no
    gpmPend := if bit ch 8 then fitted else u.gpmPend, gpmFail := if bit ch 8 then 0 else u.gpmFail }) s))
  let s2 := evalRefresh (raise 249 ch s1)
  updReport (headEnd s2) (updEnd s2)

/-- A revert (R549, R551): the committed bank again, outcome 2, `EV250`, the session ends. -/
def revertPoint (code part : Nat) (s : Block) : Block :=
  let back := if onTrial s then { s with sys.bankB := !s.sys.bankB } else s
  let s1 := raise 250 (code * 256 + part) (updCount 4 (updLast 2 code part back))
  updReport (headEnd s1) (updEnd s1)

/-- A power-fail warning or whole-module reset before the commit point: STAGED, schedule cleared, outcome 3, the committed
bank (R552). -/
def updAbandoned (s : Block) : Block :=
  if s.upd.st != .activating then s
  else
    let back := if onTrial s then { s with sys.bankB := !s.sys.bankB } else s
    updStaged (updLast 3 0 0xFF (updUpd (fun u => { u with sched := none, act := .no }) back))

end Sys2Proof.Machine
end

