-- ==== Sys2Proof/Machine/Keys.lean ====
section
/-!
DEFINITION. Crucible's key slots (14 R411–R417) and zeroising (14 R431–R433; 06 Table 6-15).
-/

namespace Sys2Proof.Machine

/-- The keys of Table 14-1 derived (R412). -/
def deriveKeys (s : Block) : Block :=
  (upto 0 5).foldl (fun s k => slotPut k (derivedKey k) s) s

/-! ### Grant and debug port (R427, R435) -/

/-- DBG closes in FIELD: `EV196`. -/
def dbgClose (s : Block) : Block :=
  if s.cru.dbgState == 1 && lifecycle s == 2 then
    raise 196 0 { s with cru := { s.cru with dbgState := 0, halted := 0, attempt := false, dbgOpened := true } }
  else s

/-! ### Zeroising (Table 14-9) -/

/-- Every unfinished command ends with `NOT_IN_MODE`: what it waited for is gone. DESIGN CHOICE. -/
def endCommands (s : Block) : Block :=
  (List.range 8).foldl (fun s mb => (s.box mb).entries.foldl (fun s e =>
    if e.final.isNone && e.phase != .answered then complete ⟨mb, e.id⟩ stNotInMode [] s else s) s) s

/-- Step 1: slots, secure SRAM, grant, DRAM dump and block 3 of the tag cleared, DBG closed for good. -/
def zeroKeys (s : Block) : Block :=
  let s1 := if s.cru.dbgState == 1 then raise 196 0 s else s
  { s1 with
    cru := { s1.cru with
      slots := List.replicate 64 ⟨0, []⟩, grant := none, dbgState := 2, halted := 0, attempt := false, drbgOk := false
      tls := [false, false], zpend := true }
    tag := { s1.tag with key := none, lastCC := 0, toolMin := 0, session := false, auth1 := none, locks := 0 }
    dbg := { s1.dbg with dram := none, writing := none } }

/-- Step 2: enable toggling stops, whatever the current. -/
def driversOff (s : Block) : Block :=
  let s1 := (upto 1 16).foldl (fun s k => release k (k ≤ 12 && loadedNow k s) s) s
  let s2 := if s1.alc.cabinet == .precharge || s1.alc.cabinet == .on then setCabinet .off s1 else s1
  outlets.foldl (fun s n => dcAbort n s) s2

/-- Plans, groups and locks are gone (Table 6-15); so are billing units that can no longer be sealed, open sessions and
the update session (19 R538). -/
def zeroWork (s : Block) : Block :=
  let s1 := { s with
    pln := { s.pln with
      doms := s.pln.doms.map fun x => { Domain.reset .idle with actBuf := x.actBuf }
      groups := List.replicate 16 none, locks := List.replicate 32 ⟨0, false, []⟩, taken := [], due := [], sesB := [] }
    bil := { s.bil with units := [], queue := [], heldUnits := [], pend := none, atPf := [] }
    pwr := { s.pwr with cstop := none, softReset := false }
    sys := { s.sys with trans := none, safestopDue := false, autostartDue := false }
    out.o := s.out.o.map fun o => { o with
      ses := { o.ses with st := .idle, stopCmds := [] }
      limImp := 0, limExp := 0, outReq := none, outDue := false, bypCmd := none }
    lnk.conns := [] }
  if s1.upd.st == .idle then s1 else updEnd s1

/-- Zeroising by a source of Table 14-8 (R431): never delayed, in every mode but ZEROISED. -/
def zeroise (source detail : Nat) (s : Block) : Block :=
  if s.sys.mode == .zeroised || s.sys.rootDisable then s
  else
    let live := billing s && s.pwr.heldBy == .no && !s.pwr.assayDown
    let s1 := driversOff (zeroKeys s)
    let s2 := safetyLog 6 source 1 { s1 with cru := { s1.cru with zrec := 1, zsource := source } }
    let s3 := if live && s2.pwr.pfw && !s2.pwr.finalDone then finalMark s2 else if live then commit comAccum s2 else s2
    let s4 := { s3 with sys.rootDisable := true, cru := { s3.cru with zrec := 2, zpend := false } }
    let s5 := raise 15 (sysLifecycle s4).toNat s4
    let s6 := raise 193 source (tamperEntry source 3 detail false (enterMode .zeroised 0x13 (zeroWork s5)))
    evalRefresh (endCommands (completeOpt s6.cru.zcmd stOk [] (updCru (fun c => { c with zcmd := none }) s6)))

end Sys2Proof.Machine
end

