-- ==== Sys2Proof/Machine/Tag.lean ====
section
/-!
DEFINITION. The service tag's RF write with its commit record and roll-forward (15 R459, R460, Table 15-9).
-/

namespace Sys2Proof.Machine

def updTag (f : Tag → Tag) (s : Block) : Block := { s with tag := f s.tag }

/-- The module has a supply (R454). -/
def hasSupply (s : Block) : Bool := s.pwr.heldBy != .off && s.pwr.heldBy != .supply

/-- An event of the tag, raised while the module runs. -/
def tagRaise (e data : Nat) (s : Block) : Block := if s.pwr.heldBy == .no then raise e data s else s

/-- Step W4: the RF record COMMITTED, LASTCC, `EV215`. -/
def rfCommit (w : RfWrite) (s : Block) : Block :=
  tagRaise 215 (w.cc % 16777216 * 256 + w.block) (updTag (fun t => { t with
    rfrec := ⟨1, (t.rfrec.seq + 1) % 4294967296, w.block, 1, w.cc, crc32 w.data⟩
    lastCC := w.cc, wrRf := (t.wrRf + 1) % 65536 }) s)

/-- The copy home, and the record APPLIED. -/
def rfApply (w : RfWrite) (s : Block) : Block :=
  updTag (fun t => { t with
    out := t.out ++ [(128 * w.block, w.data)], rfrec := { t.rfrec with state := 2 }, pend := none }) s

/-- A record COMMITTED and not APPLIED is rolled forward (R460): the copy, the counter, `EV219`. -/
def rollForward (s : Block) : Block :=
  match s.tag.pend with
  | some w =>
    if s.tag.rfrec.state == 1 then
      tagRaise 219 w.block (updTag (fun t => { t with rollFwd := inc32 t.rollFwd }) (rfApply w s))
    else s
  | none => s

/-- A pending write that no collapse interrupts runs to its end (Table 15-9). -/
def rfFinish (s : Block) : Block :=
  match s.tag.pend with
  | some w => rfApply w (if s.tag.rfrec.state == 1 then s else rfCommit w s)
  | none => s

/-- The session ends with its locks (R455, R462). -/
def tagSessionEnd (s : Block) : Block := updTag (fun t => { t with session := false, auth1 := none, locks := 0 }) s

end Sys2Proof.Machine
end

