-- ==== Sys2Proof/Machine/Reset.lean ====
section
/-!
DEFINITION. Whole-module resets (02 Table 2-4): what a reset keeps and clears, the steps of SELFTEST (03 Table 3-3), the
gaps after a restart (02 R51, R75), replay and sealing at step 7 (06 R186, 09 R273), and the entry of the next mode.
-/

namespace Sys2Proof.Machine

/-! ### Claims from the configuration (04 R118) -/

/-- Role of BUSi and of UARTk (20 Table 20-4). -/
def Block.busRole (s : Block) (i : Nat) : Nat := s.cfg8 0x000E (24 + 8 * (i - 1))
def Block.uartRole (s : Block) (k : Nat) : Nat := s.cfg8 0x000E (72 + 8 * (k - 1))

/-- Field of antenna k in the contactless section (Table 15-2). -/
def Block.ant8 (s : Block) (k o : Nat) : Nat := s.cfg8 0x000A (16 + 8 * (k - 1) + o)
def Block.ant16 (s : Block) (k o : Nat) : Nat := s.cfg16 0x000A (16 + 8 * (k - 1) + o)

/-- Features that the sections, the parameter set and the update session enable, each with the resource it needs, in
ascending resource index (Table 4-30). -/
def claimsWanted (s : Block) : List (Nat × Nat) :=
  (if s.busRole 6 != 0 then [(1, 0)] else []) ++ (if s.uartRole 4 != 0 then [(2, 0)] else []) ++
    (upto 5 8).flatMap (fun k => (if s.pulseOn k then [(3, k - 4)] else []) ++
      (if psTpo s.saf.pset k != 0 then [(4, k - 4)] else [])) ++
    (if s.upd.st == .idle then [] else [(if s.upd.transport == 1 then 5 else 6, 5)]) ++
    (upto 1 4).flatMap fun k => if s.ant8 k 0 == 1 then [(7 + s.ant8 k 1, 5 + k)] else []

/-- Claims rebuilt after a whole-module reset (R118). -/
def rebuildClaims (s : Block) : Block :=
  (claimsWanted s).foldl (fun s c =>
    if tget s.pin.holder c.2 == 0 then { s with pin.holder := tput s.pin.holder c.2 c.1 } else s)
    { s with pin.holder := List.replicate 10 0 }

/-- The antennas as the contactless section gives them. -/
def antConfigured (s : Block) : Block :=
  { s with cls.ants := (upto 1 4).map fun k =>
      { tget s.cls.ants (k - 1) with held := s.ant8 k 0 == 1, engine := s.ant8 k 1, outmask := s.ant16 k 2 } }

/-! ### What a whole-module reset keeps (Table 2-4 and the reset columns of the registers) -/

/-- A session that is open at the reset waits for the seal of step 7 (09 R273), with its energies and marks as last written
(09 R267). -/
def sessionKept (v : SesVals) (e : Session) : Session :=
  match e.st with
  | .idle | .parked => Session.none
  | _ => { e with
           tarImp := v.tarImp, tarExp := v.tarExp, markImp := v.markImp, markExp := v.markExp
           st := .sealing, reason := if e.drafted then e.reason else 8, stopCmds := [], pending := false, judged := false }

/-- A point with a calibration record's values and the committed configuration (07 R212, R213). -/
def pointKept (r : CalRec) (s : Block) (p : Nat) : Point :=
  let x := s.pt p
  { Point.factory with
    conf := bytesAt (s.secBody 0x0003) (8 + 24 * p) 24, injAt := s.sys.mtime
    calreq := x.calreq, latched := x.latched, table := tget r.tables p
    chans := (List.range 8).map fun c =>
      let v := tget (tget r.vals p) c
      { Chan.factory with gain := v.1, phase := v.2.1, ofs := v.2.2 } }

/-- A voltage event that the power-fail record of the commit used carries ends unfinished in the log, at the commit's MTIME
(08 R247). -/
def pqCut (m : Option Marker) (f : Option FinalRec) (s : Block) : Block :=
  match m, f with
  | some m, some f => if f.pf.isNone then s
      else f.pq.foldl (fun s e => pqLog e.1 e.2.1 true (m.mtime - e.2.2.start) e.2.2 s) s
  | _, _ => s

/-- MTIME values that the commit areas, the journal and the event log hold (R51). -/
def storedTimes (s : Block) : List Nat :=
  (s.coms.filterMap fun a => a.mark.map fun m => m.mtime) ++ (s.pln.groups.filterMap fun g => g.bind fun x => x.due.map fun d => d.t0) ++
    (s.bil.units.map fun u => u.t0) ++ (s.out.o.filterMap fun o => if o.ses.metered then some o.ses.mtOpen else none) ++
    (s.dbg.log.map fun e => e.mtime) ++ s.dbg.logPend.map fun e => e.mtime

/-- R51 after a power-on reset: 1 ms above every stored value, 0 where there is none. -/
def resumeTime (s : Block) : Nat :=
  match storedTimes s with
  | [] => 0
  | l => l.foldl max 0 + 1

/-- The whole module in reset with a cause code, waiting as `held` says (Table 2-4): memories in MRAM, flash, fuses, the
tag die and the MTIME counter keep their contents; everything else takes its reset value. -/
def wholeReset (cause : Nat) (held : Held) (s0 : Block) : Block :=
  let s := dbgClose s0
  let committed := bankRec s
  { Block.reset with
    sys := { Sys.reset with
      prevMode := if s.sys.mode == .selftest then s.sys.prevMode else s.sys.mode.code
      modeCause := cause, provOpen := s.sys.provOpen, provDone := s.sys.provDone, rootDisable := s.sys.rootDisable
      mtime := s.sys.mtime, mtimeRun := s.sys.mtimeRun, secDone := s.sys.secDone, wallOfs := s.sys.wallOfs
      bankB := committed, svc := s.sys.svc }
    pwr := { Pwr.reset with
      vin := s.pwr.vin, vhold := s.pwr.vhold, vinOk := s.pwr.vinOk, vcppOk := s.pwr.vcppOk, vcpnOk := s.pwr.vcpnOk
      vledOk := s.pwr.vledOk, vddioOk := s.pwr.vddioOk, pfw := s.pwr.pfw, heldBy := held
      clockWhy := s.pwr.clockWhy, resumeAt := s.pwr.resumeAt, rstCause := cause, rstPrev := s.pwr.rstCause }
    mbx := { Mbx.reset with
      boxes := s.mbx.boxes.map fun b => { Mailbox.reset with epoch := (b.epoch + 1) % 256 }
      epochDue := true }
    cfg := { s.cfg with stage := none }
    pln := { Pln.reset with
      gseq := s.pln.gseq, jrnBad := s.pln.jrnBad, groups := s.pln.groups.map fun g => g.map fun x => { x with cmd := none } }
    asy := { Asy.reset with
      record := s.asy.record, recOk := s.asy.recOk, edges := s.asy.record.edges, copies := s.asy.copies, newest := s.asy.newest
      points := (List.range 13).map fun p => pointKept s.asy.record s p }
    nrg := { Nrg.reset with bal := { Bal.reset with members := balMembers s }, accs := s.nrg.accs, dem := s.nrg.dem, pqLog := s.nrg.pqLog }
    bil := { bilBack s.bil with
      pend := none, tselCode := 0, tselAt := s.sys.mtime, sel := 0
      queue := s.bil.queue.map fun u => { u with cmd := none }
      units := s.bil.units.map fun u => { u with cmds := [] }
      atPf := [], cntIngot := 0, capStop := false, low := false, limit := false, friendly := false, relayAct := 0
      bypassAt := none, button := none, slots := List.replicate 8 none, tokCnt := 0, tokRej := 0
      stepClose := false, scroll := 0, scrollAt := 0, scrollVal := [], scrollSeg := none, actDue := 0, lastSource := 0 }
    out := { OutBlk.reset with
      sesseq := s.out.sesseq
      o := (List.range 12).map fun k =>
        { Outlet.reset with ses := sessionKept (tget s.bil.saved.ses k) (tget s.out.o k).ses } }
    alc := { Alc.reset with
      util := s.alc.util, utilExp := s.alc.utilExp, rpermit := s.alc.rpermit
      drivers := s.alc.drivers.map fun d => { Driver.reset with
        fcause := d.fcause, seen := d.seen, cnt := d.saved, saved := d.saved, loaded := d.loaded, barred := d.barred } }
    rcm := { Rcm.reset with
      lastValue := s.rcm.lastValue, lastCause := s.rcm.lastCause, lastOutlet := s.rcm.lastOutlet, lastAt := s.rcm.lastAt
      o := s.rcm.o.map fun r => { RcmOutlet.reset with
        tdcl := r.tdcl, tdcm := r.tdcm, tdch := r.tdch, tac := r.tac, turns := r.turns, cause := r.cause, insLatch := r.insLatch, seen := r.seen } }
    saf := { Saf.reset with
      pset := s.saf.pset, pstate := s.saf.pstate, copies := s.saf.copies, newest := s.saf.newest, tpoFault := s.saf.tpoFault, log := s.saf.log
      lastDetail := s.saf.lastDetail, lastIndex := s.saf.lastIndex, lastType := s.saf.lastType, lastAt := s.saf.lastAt
      ins := s.saf.ins.map fun i => { SafIn.reset with
        rawA := i.rawA, rawB := i.rawB, fA := i.rawA, fB := i.rawB, faultA := i.faultA, faultB := i.faultB, fcause := i.fcause } }
    cru := { Cru.reset with
      slots := (List.range 64).map fun k => if 32 ≤ k && k ≤ 62 then ⟨0, []⟩ else tget s.cru.slots k
      tmpRaw := s.cru.tmpRaw, tmpOpen := s.cru.tmpOpen, mags := s.cru.mags, mesh := s.cru.mesh, alarm := s.cru.alarm
      tamCnt := s.cru.tamCnt, tamLog := s.cru.tamLog, tamOut := s.cru.tamOut, zrec := s.cru.zrec, zsource := s.cru.zsource
      items := s.cru.items, siteId := s.cru.siteId, tamperCfg := s.cru.tamperCfg, anchors := s.cru.anchors
      chains := s.cru.chains, evalCause := s.cru.evalCause, hallCnt := s.cru.hallCnt
      dbgState := if s.sys.rootDisable then 2 else if s.sys.provDone then 0 else 1 }
    cls := { Cls.reset with wl := s.cls.wl, gen := s.cls.gen }
    tag := { s.tag with port := false, wiredBlock := 0, wiredRes := 0, out := [] }
    mlk := { Mlk.reset with
      cfg := s.secBody 0x000B, heads := s.mlk.heads, useCnt := s.mlk.useCnt
      fcntTx := (s.mlk.fcntTx + 256) % 4294967296 }
    dis := { Dis.reset with gain := s.cfg8 0x000C 1, maps := s.dis.maps, bsd := { Bsd.reset with
        copies := s.dis.bsd.copies, newest := s.dis.bsd.newest, image := s.dis.bsd.image, fault := s.dis.bsd.fault, st := 4
        useq := s.dis.bsd.useq, wcnt := s.dis.bsd.wcnt, target := s.dis.bsd.target, open_ := s.dis.bsd.open_
        refr := s.dis.bsd.refr, done := s.dis.bsd.done } }
    lsw := { Lsw.reset with user := s.lsw.user }
    upd := { s.upd with
      act := .no, cmd := none, cnt := List.replicate 6 0, reason := 0, halves := [], gpmFail := 0, gpmLoad := 0 }
    lnk := { Lnk.reset with direct := s.lnk.direct }
    dbg := { Dbg.reset with
      log := s.dbg.log, lseq := s.dbg.lseq, logPend := s.dbg.logPend, alog := s.dbg.alog, parts := s.dbg.parts
      acks := s.dbg.acks, dseq := s.dbg.dseq, fatalCnt := s.dbg.fatalCnt }
    coms := s.coms
    free := s.free }

/-! ### The final commit (02 Table 2-8) and the soft reset -/

/-- Steps 6 to 8 of the final commit, where they are still to be made: the billing units that are complete, unless Bylith or
Crucible is down; the marker; `EV003`. Step 8 comes at a free time of at most 2.0 ms after the warning (Table 2-8). -/
def finalForce (s : Block) : Block :=
  if !s.pwr.pfw || s.pwr.finalDone || s.sys.mode != .outage then s
  else
    let up := !s.pwr.crucDown && !bylithDown s
    let s1 := finalMark (if up then s.bil.units.foldl sealAtPf s else s)
    let (k, s2) := s1.draw
    let us := (Config.freeWord k).toNat % 2001
    raiseAt (s2.pwr.pfwT0 + us / 1000) 3 us s2

/-- A reset finds the final commit complete 2.0 ms after the warning (02 Table 2-8). -/
def finalBefore (s : Block) : Block := if s.pwr.heldBy == .no && finalNow s then finalForce s else s

/-- A soft reset once its controlled stop has ended and every outlet driver is de-energised: the full commit, then the reset
(Table 2-4). -/
def softCheck (s : Block) : Block :=
  if s.pwr.softReset && s.pwr.cstop.isNone && outletsOff s && s.sys.mode != .outage && !s.pwr.pfw then
    let s1 := if signing s then s.bil.units.foldl (fun s u => sealUnit false u s) s else s
    wholeReset 4 .ready (if metering s1 then commit comFull s1 else s1)
  else s

/-! ### Hold-up capacitor (R44, Table 2-2) -/

/-- The supply die charges VHOLD: from step 1 of SELFTEST on, while VIN is at or above 18.0 V and no warning is latched; not
while the module is held in reset (R44). -/
def charging (s : Block) : Bool := s.pwr.heldBy == .no && s.pwr.vin ≥ 1800 && !s.pwr.pfw

/-- A reading of VHOLD in 10 mV: 27.0 V arms the supervision and completes the charge after a recovery; above 26.5 V its
fault returns (Table 2-2). -/
def vholdSeen (v : Nat) (s : Block) : Block :=
  let p := s.pwr
  let full := v ≥ 2700 && p.heldBy == .no && !p.pfw
  { s with pwr := { p with
    vhold := v, vholdArmed := p.vholdArmed || full, vholdLow := p.vholdLow && v ≤ 2650, vholdRec := p.vholdRec && !full } }

/-- A reading of VIN and VHOLD, as `CKP_SUPPLY` shows them. -/
def supplySeen (vin vhold : Nat) (s : Block) : Block :=
  vholdSeen vhold { s with pwr := { s.pwr with vin, vinOk := vin ≥ 1700 } }

/-! ### The steps of SELFTEST (Table 3-3) -/

/-- The detail byte with which a step fails (R614), where it does. DESIGN CHOICE: of several feedbacks that show closed at
step 3 it names the lowest driver. -/
def stepFails (k : Nat) (o : SelftestObs) : Option Nat :=
  match lookupN k o.failed with
  | some d => some d
  | none =>
    if k == 3 && o.fbMask % 65536 != 0 then ((upto 1 16).filter fun j => bit o.fbMask (j - 1)).head?
    else if k == 8 && o.vhold < 2700 then some 0xFF
    else none

/-- Entry to SELFTEST and step 1: `EV012` with the reset cause (03 Table 3-8; DEDUCED: from SELFTEST too, since Table 3-2's
row says "any"), `EV000`, `EV006`; MTIME resumes (R51). The log entry of `EV000` is that of the
power-up record (21 R578). -/
def step1 (o : SelftestObs) (s0 : Block) : Block :=
  let s := if s0.sys.mode == .selftest then s0 else { s0 with sys.mode := .selftest, sys.prevMode := s0.sys.mode.code }
  let c := s.pwr.rstCause
  let t := if c == 1 then resumeTime s else s.sys.mtime
  let s1 := { s with
    lnk.phyAt := t + 10
    sys := { s.sys with mtime := t, mtimeRun := true, secDone := if c == 1 then t / 1000 else s.sys.secDone }
    pwr := { s.pwr with
      vin := o.vin, vinOk := o.vin ≥ 1700, pfw := false, resumeAt := if c == 3 then s.pwr.resumeAt else t } }
  let s2 := raise 12 (s1.sys.prevMode * 65536 + 0x300 + c) { s1 with sys.prevMode := 3 }
  let s3 := queueEvent false 0 c (latchEvent 0 s2)
  if s3.pwr.clockWhy == 0 then s3 else raise 6 s3.pwr.clockWhy { s3 with pwr.clockWhy := 0 }

/-- Step 3: the parameter set (13 R403), the functions in DEMAND, the feedback inputs. -/
def step3 (o : SelftestObs) (s : Block) : Block :=
  let drivers := (List.range 16).map fun j =>
    let d := tget s.alc.drivers j
    { d with fb := bit o.fbMask j, rawFb := bit o.fbMask j, barred := bit o.fbMask j }
  let s1 := { s with alc.drivers := drivers }
  match psetLoad o.psetHits s1 with
  | some (k, set, st) => fnStartAll { s1 with saf := { s1.saf with pset := set, pstate := st, newest := k } }
  | none =>
    let used := safNums.filter fun f => s.fnKind f != 0
    let s2 := fnStartAll (raise 175 0xFF { s1 with saf := { s1.saf with pset := Saf.reset.pset, pstate := 0 } })
    used.foldl (fun s f => fnGo f .fault s) s2

/-- A fitted outlet becomes FAULTED with a metering cause where no calibration record is valid (07 R212). -/
def calFault (n : Nat) (s : Block) : Block :=
  if (s.pt n).latched && s.svcOf n == 4 then s
  else
    let s1 := raise 74 (n * 256 + 1) (updPt n (fun x => { x with latched := true }) s)
    if s1.svcOf n == 4 then s1 else svcGo n 4 s1

/-- A record in use on every point (07 R205, R211). -/
def calInUse (r : CalRec) (s : Block) : Block :=
  { s with asy := { s.asy with record := r, edges := r.edges, points := (List.range 13).map fun p => pointKept r s p } }

/-- Step 4: the calibration record (07 R211, R212). -/
def step4 (o : SelftestObs) (s : Block) : Block :=
  match calLoad o.calHits s with
  | some (k, r) =>
    let s1 := calInUse r s
    { s1 with asy := { s1.asy with recOk := true, newest := k } }
  | none =>
    let s1 := calInUse CalRec.factory s
    let s2 := raise 71 0xFFFFFFFF { s1 with asy := { s1.asy with
      recOk := false, points := s1.asy.points.map fun x => { x with calreq := true } } }
    outlets.foldl (fun s n => if s.fitted n then calFault n s else s) s2

/-- The subinterval held open in the commit used ends at the commit's MTIME; the next begins at the resumed MTIME (08
R242). With no commit used there is none to end. -/
def demandResume (m : Option Marker) (s : Block) : Block :=
  match m with
  | some x => demandRestart x.mtime s
  | none => scheduleEnd { s with nrg.dem := { s.nrg.dem with held := [], start := s.sys.mtime, imp0 := impNow s, exp0 := expNow s } }

/-- Step 5: the newest valid commit restored by vote (R75, 08 R235), MTIME's gap and the commit's gap (R51, R75). -/
def step5 (o : SelftestObs) (s0 : Block) : Block :=
  let (coms, votes) := comRestore o.comHits s0.coms
  let s := { s0 with coms }
  let m := markUsed s
  let body := bodyUsed s
  let t := (m.map fun x => x.mtime).getD 0
  let lost := s.coms.any fun a => a.mark.isSome
  let s1 := { s with
    nrg := { s.nrg with accs := body.accs, dem := body.dem, bal := { s.nrg.bal with blocks := [] }
                        voteCnt := s.nrg.voteCnt + votes, saveAt := body.saveAt }
    sys.wallOfs := body.wallOfs, bil.pp := body.pp }
  let s2 := if votes == 0 then s1 else raise 77 (min votes 65535 * 65536 + ((comNewest coms).getD (0, 0)).1) s1
  let s3 := if s2.pwr.rstCause == 1 || s2.pwr.rstCause == 3 then
      flagAll 0 (raise 5 (satU32 (s2.pwr.resumeAt - t)) { s2 with sys.timeGap := true })
    else s2
  let gap := match m with
    | some x => !(x.kind == comAccum || x.kind == comFinal || x.kind == comFull)
    | none => lost
  let s4 := if gap then flagAll 1 (raise 4 (t % 4294967296) { s3 with sys.commitGap := true }) else s3
  demandResume m (pqCut m body.final s4)

/-- A PENDING ZEROISE record completes (14 R432). -/
def zeroisePending (s : Block) : Block :=
  let s1 := { s with sys.rootDisable := true, cru := { s.cru with zrec := 2, slots := List.replicate 64 ⟨0, []⟩, dbgState := 2 } }
  raise 15 (sysLifecycle s1).toNat s1

/-- Step 6: ROOT_DISABLE, the key slots, the start-up test of the entropy source (14 R412, R417, R420, R432). -/
def step6 (o : SelftestObs) (s : Block) : Block :=
  if s.cru.zrec == 1 then zeroisePending s
  else if !o.meshOk then zeroise 9 0 s
  else
    let bad := (upto 6 31).filter fun k => o.badBlobs.contains k && (tget s.cru.slots k).attr != 0
    let s0 := updCru (fun c => { c with blobFail := bad != [], keyFailCnt := bad.length, keyFailSlot := bad.headD 0 }) s
    let s1 := bad.foldl (fun s k => raise 198 (k * 256 + 5) (slotClear k s)) s0
    let s2 := countSelfTest 11 false (updCru (fun c => { c with drbgOk := true, drbgAt := s.sys.mtime }) s1)
    evalRefresh (deriveKeys s2)

/-- The power-up record, then every deferred entry (21 R577, R578). -/
def powerUpRecord (s : Block) : Block :=
  let m := markUsed s
  let s1 := logPut 0 0 s.sys.mtime s.wall s.pwr.rstCause s
  flushPending (logPut 0 4 ((m.map fun x => x.mtime).getD 0) (s.pwr.resumeAt : Int) ((m.map fun x => x.kind).getD 0) s1)

/-- Units of the billing queue and held ones, which count as SUBMITTED groups (09 R263, R264), abort with cause 7. -/
def queueAborted (s : Block) : Block :=
  (s.bil.queue ++ s.bil.heldUnits).foldl (fun s u => abortNoted u.gseq 7 s)
    (updBil (fun b => { b with queue := [], heldUnits := [] }) s)

/-- SUBMITTED groups abort with cause 7 and DUE ones are replayed, in GSEQ order (06 R186). -/
def replayGroups (s : Block) : Block :=
  let s1 := queueAborted (abortGroups 7 (fun _ => true) s)
  let l := s1.bil.units.mergeSort fun a b => a.gseq ≤ b.gseq
  l.foldl (fun s u => raise 47 u.gseq (sealUnit true u s)) s1

/-- An open session is sealed from its journaled state in a unit of its own (09 R273). -/
def sealOpen (t : Nat) (n : Nat) (s : Block) : Block :=
  if !(s.ses n).metered then s
  else
    let q := nextGseq s
    let s1 := applyUnit 0x30 q t [] [gact 0x0305 n (p8 8 ++ zeros 11)] { s with pln.gseq := q }
    match s1.bil.units.filter fun u => u.gseq == q with
    | u :: _ => sealUnit true u s1
    | [] => s1

/-- Step 7: Bylith. -/
def step7 (o : SelftestObs) (s : Block) : Block :=
  let t := ((markUsed s).map fun x => x.mtime).getD 0
  let first := s.bil.pseq == 0 && s.bil.perLast == 0
  let s1 := powerUpRecord { s with pwr.heldBy := .no }
  let s2 := attributeAll (if first then markBoundary s1 else s1)
  let s3 := outlets.foldl (fun s n => sealOpen t n s) (replayGroups s2)
  let s4 := { s3 with
    out.o := s3.out.o.map fun x => { x with ses := Session.none }
    upd.rollFuse := max s3.upd.rollFuse s3.upd.rollRec
    tag.port := slotValid 5 s3 && s3.tag.key.isSome }
  let s5 := rollForward (if s4.upd.st == .activating && s4.upd.act == .no then updAbandoned s4 else s4)
  let s6 := if s5.tag.port then slotPut 62 [] s5 else s5
  let s7 := setRpermit (s6.bil.pp == .connected) (scrollTake s6)
  let hot := fun (s : Block) (k : Nat) =>
    if bit o.hot (k - 1) then raise 243 (256 + k) (updLs k (fun c => { c with latch := true }) s) else s
  let s8 := channels.foldl hot (lsConfigured s7)
  channels.foldl (fun s k => updLs k (fun c => { c with rcnt := u8At (profInUse k s) 12 }) s) s8

/-- What a step does when it completes; steps 2 and 8 change nothing of the state but the supply readings. -/
def stepDo (o : SelftestObs) (k : Nat) (s : Block) : Block :=
  match k with
  | 3 => step3 o s
  | 4 => step4 o s
  | 5 => step5 o s
  | 6 => step6 o s
  | 7 => step7 o s
  | 8 => vholdSeen o.vhold s
  | _ => s

/-- A failed step (R86, R46): step 3 has still run, and step 8 raises `EV007`. -/
def stepFailed (o : SelftestObs) (k d : Nat) (s : Block) : Block :=
  let s1 := if k == 3 then step3 o s
            else if k == 8 then
              raise 7 (65536 + o.vhold % 65536) { s with pwr := { s.pwr with vhold := o.vhold, chargeFail := true } }
            else s
  raise 13 (k * 256 + d % 256) s1

/-- Steps in turn up to the first that fails; a zeroised module runs on to the end, and the record of R432 skips the rest. -/
def runSteps (o : SelftestObs) : List Nat → Block → Option Nat × Block
  | [], s => (none, s)
  | k :: l, s =>
    match stepFails k o with
    | some d =>
      let s1 := stepFailed o k d s
      if s1.sys.rootDisable then runSteps o l s1 else (some k, s1)
    | none =>
      let s1 := stepDo o k s
      if s1.sys.rootDisable && !s.sys.rootDisable then (none, s1) else runSteps o l s1

/-- The window is served (R101, R118, 05 R135): claims, antennas, the caps in force, the mailbox epochs' event. -/
def windowOpens (s : Block) : Block :=
  let s1 := canStandby <| antConfigured (rebuildClaims <| capsAtStart { s with
    pwr.heldBy := .no, mbx := { s.mbx with epochDue := false, lastHost := s.sys.mtime, chanAt := s.sys.mtime } })
  raise 33 (s1.box 0).epoch s1

/-- The mode that SELFTEST ends in (Table 3-2). -/
def startMode (s : Block) : Mode :=
  match lifecycle s with
  | 0 => .factory
  | 1 => .provision
  | 2 => .standby
  | _ => .zeroised

/-- Step 9: the next mode, `EV012`, the pilots, AUTOSTART due, the bistable display's re-drive (17 R509), the trial bank's
commit point (19 R551). -/
def step9 (o : SelftestObs) (s : Block) : Block :=
  let m := startMode s
  let s1 := windowOpens s
  let s2 := balConfigured (if s1.sys.mode == .zeroised then s1 else enterMode m 0x16 s1)
  let s3 := bsdRedrive (updBsd (bsdLoad o.bsdHits) (mapsRead o.mapHits s2))
  let s4 := { s3 with sys.autostartDue := m == .standby }
  if s4.upd.act == .trialStop then
    match assayChange s4 with
    | some s5 => commitPoint s5
    | none => s4
  else s4

/-- A step has failed with the lifecycle not ZEROISED: SAFESTOP; what did not start stays out of action (R86). -/
def selftestSafestop (k : Nat) (o : SelftestObs) (s : Block) : Block :=
  let s1 := { s with pwr := { s.pwr with
    assayDown := k ≤ 5, crucDown := k ≤ 6, anvilDown := k ≤ 2 || (k == 3 && (lookupN 3 o.failed).isSome) } }
  balConfigured (enterMode .safestop 0x12 (windowOpens s1))

/-- The check code of a failed SELFTEST on the trial bank (19 R551): 1 BOOT, 2 HASH, 3 ASSAY, 4 TAG. -/
def trialFailCode (k : Nat) : Nat := if k == 4 then 3 else 1

/-- A failed SELFTEST of an activation that stops: the committed bank and a new reset (19 R551). -/
def trialRevert (k : Nat) (s : Block) : Block :=
  revertPoint (trialFailCode k) 0xFF (wholeReset 4 .ready s)

/-- A power-fail warning during SELFTEST holds every processor in reset (R84). -/
def pfwSelftest (src : Nat) (s : Block) : Block :=
  raise 1 src { s with pwr := { s.pwr with
    pfw := true, pfwSrc := src, pfwT0 := s.sys.mtime, pfwSelftest := true, heldBy := .ready
    vsupVhold := s.pwr.vin < 1250 } }

/-- SELFTEST from the release of reset to the entry of the next mode, or to what ends it (R85, R86, R84). -/
def selftest (o : SelftestObs) (s : Block) : Block :=
  let s1 := step1 o s
  match o.pfw with
  | some src => pfwSelftest src s1
  | none =>
    let zero := s1.sys.rootDisable
    let (bad, s2) := match stepFails 1 o with
      | some d => if zero then runSteps o [2, 3] (stepFailed o 1 d s1) else (some 1, stepFailed o 1 d s1)
      | none => runSteps o (if zero then [2, 3] else upto 2 8) s1
    let s3 := if s2.sys.mtimeRun then { s2 with sys := { s2.sys with
      mtime := s2.sys.mtime + o.tookMs, secDone := (s2.sys.mtime + o.tookMs) / 1000 } } else s2
    let (bad9, s4) := match bad, lookupN 9 o.failed with
      | none, some d => (if s3.sys.rootDisable then none else some 9, stepFailed o 9 d s3)
      | b, _ => (b, s3)
    match bad9 with
    | none => step9 o s4
    | some k => if s4.upd.act == .trialStop then trialRevert k s4 else selftestSafestop k o s4

/-- Reset may be released now: its trigger has gone (Table 2-4), and no warning holds it (R84). -/
def releasable (s : Block) : Bool :=
  s.inMode [.selftest, .zeroised] && (s.pwr.heldBy == .ready || s.pwr.heldBy == .resetN) && !s.pwr.pfwSelftest

/-- `RESET_RELEASE` (R85). -/
def execResetRelease (o : SelftestObs) (s : State) : Out := act (fun b => if releasable b then selftest o b else b) s

/-- What SELFTEST finds where nothing is wrong. -/
def SelftestObs.clean (vin : Nat) : SelftestObs :=
  { failed := [], fbMask := 0, vin, vhold := 2800, pfw := none, tookMs := 1100, comHits := [], calHits := [], psetHits := []
    bsdHits := [], mapHits := [], meshOk := true, badBlobs := [], hot := 0 }

/-- `SELFTEST_STEP_OVERRUN` (R86): the step fails with detail 0xFF. -/
def execSelftestStepOverrun (step : Nat) (s : State) : Out :=
  act (fun b =>
    if releasable b && 1 ≤ step && step ≤ 9 then
      selftest { SelftestObs.clean b.pwr.vin with failed := [(step, 0xFF)] } b
    else b) s

/-- `VHOLD_CHARGE_TIMEOUT` (R46): VHOLD below 27.0 V 1.5 s after SELFTEST begins. -/
def execVholdChargeTimeout (vhold : Nat) (s : State) : Out :=
  act (fun b =>
    if releasable b && vhold < 2700 then
      selftest { SelftestObs.clean b.pwr.vin with failed := [(8, 0xFF)], vhold } b
    else b) s

end Sys2Proof.Machine
end

