-- ==== Sys2Proof/Machine/Tick.lean ====
section
/-!
DEFINITION. The rows of the boundaries: B-TICK with swaps and the playing of rows (06 R153, R154, R165–R169), B-CYC (07
R200–R202), B-SEC, B-INT and the calendar boundary of the billing period (02 R63; 08 R239; 09 R269).
-/

namespace Sys2Proof.Machine

/-! ### Swaps and rows (R165–R167) -/

/-- No values in any slot. -/
def emptyRow : Row := List.replicate 14 0

/-- Overrides of ALLOCATION that a swap clears: those whose cause ended before the plan's validation began (R169). -/
def swapClears (d stamp : Nat) (s : Block) : Block :=
  let s1 := outlets.foldl (fun s n => if bit (s.ovr n).causes 8 then ovrClear n 8 s else s) s
  if d == 0 then outlets.foldl (fun s n => ovrClearBefore n stamp s) (hostReturn 0 s1) else s1

/-- A row with an uncorrectable ECC error is played: cause 8 for every fitted outlet (R167). -/
def rowBad (s : Block) : Block := outlets.foldl (fun s n => if s.fitted n then ovrOn n 8 s else s) s

/-- The ARMED plan of a domain becomes active with row 0 selected: `EV040`, and `CMD_PLAN_ARM` completes (R165). -/
def swapIn (d : Nat) (s : Block) : Block :=
  let x := s.dom d
  let g := x.staging
  let rows := (stagedRows g g.hdr.rows 0).1
  let s1 := updDom d (fun x => { x with
    play := .playing, actBuf := 1 - x.actBuf, hdr := g.hdr, rows, row := 0, lastSwap := x.swapTick
    last := if g.ecc.contains 0 then x.last else rows.headD emptyRow
    ecc := g.ecc, staging := Staging.empty }) s
  let s2 := raise 40 (d * 1073741824 + g.hdr.planId % 1073741824) s1
  let s3 := swapClears d g.stamp (completeOpt g.cmd stOk (p32 x.swapTick ++ p32 g.hdr.planId) s2)
  if g.ecc.contains 0 then rowBad s3 else s3

/-- The row after the one last played: with an uncorrectable ECC error its values are those before it, without actions
(R167). A quarter of PLANLEN before its end the plan is a trigger of R338. -/
def nextRow (d : Nat) (s : Block) : Bool × Block :=
  let x := s.dom d
  let k := x.row + 1
  let left := x.rows.length - 1 - k
  let s1 := if left == s.cfg16 0x0008 18 / 4 then replan s else s
  if x.ecc.contains k then (false, rowBad (updDom d (fun x => { x with row := k }) s1))
  else (true, updDom d (fun x => { x with row := k, last := x.rows.getD k emptyRow }) s1)

/-- Step 1 of Table 6-1 for one domain: whether the row selected is new, so that its action fields act. DESIGN CHOICE: R165 does
not say what becomes of an ARMED BILLING plan whose swap tick passes in OUTAGE, where no row is selected: it stays ARMED. -/
def selectRow (d : Nat) (s : Block) : Bool × Block :=
  let x := s.dom d
  if x.staging.stage == .armed && x.swapTick == s.pln.tick then (!x.staging.ecc.contains 0, swapIn d s)
  else if x.play != .playing then (false, s)
  else if x.row + 1 < x.rows.length then nextRow d s
  else (false, s)

/-- HELD once the last row has been played and no plan is ARMED (R166). -/
def planEnd (d : Nat) (s : Block) : Block :=
  let x := s.dom d
  if x.play == .playing && x.rows.length ≤ x.row + 1 && x.staging.stage != .armed then
    replan (raise 42 (d * 1073741824) (updDom d (fun x => { x with play := .held }) s))
  else s

/-! ### Overrides at the tick (R168) -/

/-- What waits for the tick: an override cause, the outlet's fault, its session's stop. -/
def tickDue (s : Block) : Block :=
  s.pln.due.foldl (fun s d =>
    let s1 := ovrOn d.outlet d.cause s
    let s2 := if d.fault then becomeFaulted d.outlet s1 else s1
    if d.reason != 0 then stopSession d.outlet d.reason s2 else s2) { s with pln.due := [] }

/-- The row's own sums per phase, without the lag window. -/
def rowSums (e : Envelope) (r : Row) : List (Nat × Nat) :=
  [0, 1, 2].map fun k => phaseSum { e with lag := 0 } (outlets.map fun n => [rowSet r n]) r k

/-- The magnitude to which outlet n's contribution `c` of one direction is scaled, none where every cap holds: the least of
⌊c × cap / sum⌋ over the caps that it exceeds, as a setpoint. -/
def scaledTo (e : Envelope) (r : Row) (n c : Nat) (sums caps : List Nat) (site cap : Nat) : Option Nat :=
  let above := ([0, 1, 2].filter fun k => bit (rowPh r n) k && tget sums k > tget caps k).map fun k => c * tget caps k / tget sums k
  let all := if site > cap then above ++ [c * cap / site] else above
  match all with
  | [] => none
  | a :: l =>
    let m := l.foldl min a
    some (if Envelope.of e.dc n then m * 1000 / max (Envelope.of e.kdc n) 1 else m)

/-- Override cause 5 (CAP) of every outlet for the row selected. -/
def capOverrides (s : Block) : Block :=
  let e := envNow s
  let r := reqRow s
  let sums := rowSums e r
  let imp := sums.map fun x => x.1
  let exp := sums.map fun x => x.2
  let si := imp.foldl (· + ·) 0
  let se := exp.foldl (· + ·) 0
  outlets.foldl (fun s n =>
    let c := contribution { e with lag := 0 } (outlets.map fun m => [rowSet r m]) r n
    let i := if c.1 == 0 || rowPh r n == 0 then none else scaledTo e r n c.1 imp e.phImp si e.siteImp
    let x := if c.2 == 0 || rowPh r n == 0 then none else scaledTo e r n c.2 exp e.phExp se e.siteExp
    if i.isNone && x.isNone then ovrEnd n 5 s
    else
      let held := bit (s.ovr n).causes 5
      ovrOn n 5 (updOvr n (fun o => { o with
        ci := i.getD (if held then o.ci else 65535), ce := x.getD (if held then o.ce else 65535) }) s)) s

/-! ### A row's fields applied (steps 4 to 6 of Table 6-1) -/

/-- SWITCHING: coil-driver requests, load switches, cues. A close under an override of zero is ignored; cues are dropped
during hold-over (02 R57). -/
def playSwitching (s : Block) : Block :=
  let r := (s.dom 1).last
  let s1 := outlets.foldl (fun s n => match rowCr r n with
    | 1 => if ovrZero (s.ovr n) then s else closeRequest n s
    | 2 => openRequest n s
    | _ => s) s
  let s2 := (List.range 4).foldl (fun s k => match rowCd r k with
    | 1 => closeRequest (13 + k) s
    | 2 => openRequest (13 + k) s
    | _ => s) s1
  let s3 := (upto 1 12).foldl (fun s k => match rowLs r k with
    | 1 => lsRequest k true s
    | 2 => lsRequest k false s
    | _ => s) s2
  if bylithDown s || s.pwr.holdover.isSome then s3
  else
    let s4 := if rowScue r != 0 then cueAdd 0 (rowScue r) s3 else s3
    outlets.foldl (fun s n => if rowDcue r n then cueAdd n 0 s else s) s4

/-- Anvil ramps the outlet's setpoint to 0 in a controlled stop: since when (Table 2-6 step 2, R307). -/
def rampSince (n : Nat) (s : Block) : Option Nat :=
  if !s.isDc n || !(s.drv n).on then none
  else if (s.ses n).st == .stopping then some (s.ses n).stAt
  else match s.pwr.cstop with
    | some c => if bit c.outlets (n - 1) then some c.t0 else none
    | none => none

/-- The outlet is in Anvil's hands: its session stops, or a controlled stop has taken it over. -/
def anvilHas (n : Nat) (s : Block) : Bool :=
  (s.ses n).st == .stopping || (s.pwr.cstop.map fun c => bit c.outlets (n - 1)).getD false

/-- SRC of an outlet's setpoint (Table 11-17). -/
def srcNow (n : Nat) (s : Block) : Nat :=
  match (s.dom 0).play with
  | .playing | .holdover => 1
  | .held => 3
  | _ => if s.transactional 0 && ((s.ao n).src == 2 || rowSlot (s.dom 0).last n != 0) then 2 else 0

/-- ALLOCATION of outlet n: `fresh` where the row's action fields act. -/
def playOutlet (fresh : Bool) (n : Nat) (s : Block) : Block :=
  match rampSince n s with
  | some t =>
    let v := Int.tdiv ((s.ao n).rampFrom * (100 - Int.ofNat (min (s.sys.mtime - t) 100))) 100
    sendSetpoints n 2 (s.ses n).utgt v (updAo n (fun a => { a with setpt := v, src := 4 }) s)
  | none =>
    if anvilHas n s then applySet n 0 (s.ao n).ph 4 false s
    else
      let r := reqRow s
      applySet n (rowSet r n) (rowPh r n) (srcNow n s) (fresh && (if s.isDc n then rowPmf r n else rowPd r n)) s

/-- ALLOCATION: every outlet's setpoint, then the frames of DC steps 2, 4 and 5 (11 R352). -/
def playAllocation (fresh : Bool) (s : Block) : Block :=
  let s1 := outlets.foldl (fun s n => playOutlet fresh n s) s
  outlets.foldl (fun s n =>
    if !s.isDc n then s
    else match (s.ao n).dcStep with
      | 2 => sendSetpoints n 1 1000 5 s
      | 4 => sendSetpoints n 1 ((s.rc n).uchk * 10) 5 s
      | 5 => sendSetpoints n 1 (s.ses n).utgt 20 s
      | _ => s) s1

/-- BILLING: the row's BACT (Table 6-4). -/
def playBilling (s : Block) : Block :=
  let r := (s.dom 2).last
  let t0 := s.sys.mtime
  match rowBact r with
  | 1 => rowUnit t0 (gact 0x0301 0 (p8 (rowBarg r) ++ p8 4 ++ zeros 10)) s
  | 2 => rowUnit t0 (gact 0x0302 0 (p8 1 ++ zeros 11)) s
  | 3 => rowUnit t0 (gact 0x0303 0 (zeros 12)) s
  | 4 => applyQueue t0 s
  | _ => s

/-! ### After the row -/

/-- The AC lag window takes the tick's setpoints (R163). -/
def pastTick (s : Block) : Block :=
  { s with alc.outlets := s.alc.outlets.map fun a => { a with past := (a.setpt :: a.past).take (s.lag + 1) } }

/-- A session's Ingot is drafted and not sealed yet. -/
def draftWaits (n : Nat) (s : Block) : Bool := s.bil.units.any fun u => u.drafts.any fun d => d.type == 1 && d.point == n

/-- A STOPPING session comes to its end B-SES: CDn is confirmed open, or was never closed (10 R304). -/
def sesEnds (n : Nat) (s : Block) : Bool := (s.ses n).st == .stopping && (driverOpen n s || !(s.ao n).closedSes)

/-- The end B-SES of a session: `OUT_TRIMn` and the residual-current thresholds apply (12 R384), the vehicle communication returns to the host (01 R29), and its groups are
due next. -/
def sesEnd (n : Nat) (s : Block) : Block :=
  hostReturn 1 (rcmThresholds n <| applyTrim n (replan (vehicleKeysGone n (limitsTo n
    (updSes n (fun e => { e with st := .sealing, stAt := s.sys.mtime }) { s with pln.sesB := s.pln.sesB ++ [n] })))))

/-- The sessions that end at this instant: their groups, then one unit with the closes that the module itself makes, in
outlet order (09 R265), sealed at once in SAFESTOP; while Crucible is in reset they stay open for the next start (09 R273). -/
def endSessions (s : Block) : Block :=
  let l := outlets.filter fun n => sesEnds n s
  let s1 := drainSes (l.foldl (fun s n => sesEnd n s) s)
  let close := l.filter fun n => !(s1.ses n).drafted && !s1.pwr.crucDown
  let done := l.filter fun n => (s1.ses n).drafted && !draftWaits n s1
  let acts := close.map fun n => gact 0x0305 n (p8 (s1.ses n).reason ++ zeros 11)
  let s2 := if s1.sys.mode == .safestop then sealNow acts s1 else bylithUnit acts s1
  done.foldl (fun s n => sessionEnd n s) s2

/-- A scheduled end of a subinterval falls at this instant. -/
def intDue (s : Block) : Bool := s.nrg.dem.nextEnd == s.sys.mtime && metering s

/-- A B-SEC is still to come at this instant. -/
def secDue (s : Block) : Bool := s.sys.mtime % 1000 == 0 && s.sys.mtime / 1000 > s.sys.secDone && s.sys.mtimeRun

/-- The session boundaries of a B-TICK: the ends, then the sessions that open. -/
def sesBoundaries (s : Block) : Block :=
  drainSes (outlets.foldl (fun s n => offerCheck n s) (endSessions s))

/-- The session boundaries of a B-TICK at this instant, which waited for its B-INT and its B-SEC (00 R11). -/
def sesAfter (s : Block) : Block :=
  if s.pln.sesLate && !secDue s && !intDue s && s.sys.mode != .outage then sesBoundaries { s with pln.sesLate := false } else s

/-- A DC start whose contactor is not closed TCLOSE + 50 ms after step 2 fails at its step 3 (11 Table 11-7). -/
def dcCloseLimit (s : Block) : Block :=
  outlets.foldl (fun s n => if s.sys.mtime > (s.ao n).dcAt + s.tclose + 50 then dcFailAt n 3 s else s) s

/-- What Anvil and Bylith do once the tick's rows and groups have been applied. -/
def afterTick (s : Block) : Block :=
  let s1 := pastTick s
  let s2 := if s1.alc.rpDrop then release 13 false { s1 with alc.rpDrop := false } else s1
  let s3 := cstopCheck (dcCloseLimit s2)
  let s4 := if secDue s3 || intDue s3 then { s3 with pln.sesLate := true } else sesBoundaries s3
  [0, 1, 2].foldl (fun s d => planEnd d s) s4

/-! ### B-TICK (R153, R154) -/

/-- Hold-over ends at the B-TICK after Bylith's resume (02 Table 2-5 step 2). -/
def holdoverEnd (s : Block) : Block :=
  match s.pwr.holdover with
  | none => s
  | some t =>
    if bylithDown s then s
    else raise 10 (satU32 (s.sys.mtime - t)) { s with pwr.holdover := none }

/-- The steps of Table 6-1. -/
def tickSteps (s : Block) : Block :=
  let t0 := s.sys.mtime
  let (fresh0, s1) := selectRow 0 s
  let (fresh1, s2) := selectRow 1 s1
  let (fresh2, s3) := selectRow 2 s2
  let s4 := capOverrides (tickDue (capsAtTick s3))
  let (m, s5) := checkDue (dueSlots 1 0 s4) (reqRow s4) s4 s4
  let s6 := writeDue t0 m s5
  let s7 := groupSwitch m (lsApplyDue (if fresh1 then playSwitching s6 else s6))
  let s8 := groupAlloc m (playAllocation fresh0 s7)
  let s9 := groupBill t0 m (if fresh2 then playBilling s8 else s8)
  afterTick s9

/-- One B-TICK. In OUTAGE only the boundary passes (Table 6-15). -/
def bTick (s : Block) : Block :=
  let s1 := coilsSettle { s with
    pln.tick := (s.pln.tick + 1) % 4294967296
    alc.links := s.alc.links.map fun l => { l with tx := [] } }
  if s1.sys.mode == .outage then boundary 1 0 s1 else softCheck (safestopCheck (tickSteps (holdoverEnd (nextValidation s1))))

/-- A crossing while B-TICK comes from the timer: four consecutive good spacings return to crossings (R153). -/
def tickReturn (sinceTick sinceCross : Nat) (s : Block) : Block :=
  let x := sinceCross * 20 * s.nomFreq
  let good := if 9000000 ≤ x && x ≤ 11000000 then s.pln.good + 1 else 0
  if good < 4 then { s with pln.good := good }
  else
    let s1 := raise 45 0 { s with pln := { s.pln with timer := false, good := 0, halfp := min sinceCross 65535 } }
    if sinceTick * 4 * s.nomFreq ≥ 1000000 then bTick s1 else s1

/-- The crossing detector of an AC point is armed (07 R196): the signal has been beyond 2 % of the nominal peak, √2 × UNOM, on
the opposite side, by a largest magnitude of `mv` there. -/
def detArmed (p mv : Nat) (s : Block) : Bool := mv * mv > 8 * s.unom p * s.unom p

/-- `TICK_ZERO_CROSSING` (R153): a crossing on VA of MP00, in µs since the last B-TICK (or the crossing that counts as one)
and since the crossing before it, and the largest magnitude on the other side since then, in mV (07 R196). -/
def execTickZeroCrossing (sinceTickUs sinceCrossUs oppMv : Nat) (s : State) : Out :=
  act (fun b =>
    if b.pwr.heldBy != .no || b.pwr.assayDown || !detArmed 0 oppMv b then b
    else if b.pln.timer then tickReturn sinceTickUs sinceCrossUs b
    else if sinceTickUs * 4 * b.nomFreq < 1000000 then b
    else bTick { b with pln.halfp := min sinceTickUs 65535 }) s

/-- `TICK_TIMER` (R153): 1.25 H without an accepted crossing, or a period H of the timer. -/
def execTickTimer (sinceTickUs : Nat) (s : State) : Out :=
  act (fun b =>
    if b.pwr.heldBy != .no then b
    else if b.pln.timer then (if (sinceTickUs + 1) * 2 * b.nomFreq > 1000000 then bTick b else b)
    else if (sinceTickUs + 1) * 8 * b.nomFreq > 5000000 then
      bTick (raise 45 1 { b with pln := { b.pln with timer := true, good := 0 } })
    else b) s

/-- `PLAN_SWAP` (R165): the B-TICK at which the plan ARMED for it in domain `d` swaps in and its row 0 is played, in the
order of Table 6-1. -/
def planSwap (d : Nat) (s : Block) : Block :=
  let x := s.dom d
  if d ≤ 2 && x.staging.stage == .armed && x.swapTick == (s.pln.tick + 1) % 4294967296 && s.pwr.heldBy == .no then bTick s
  else s

def execPlanSwap (dom : Nat) (s : State) : Out := act (planSwap dom) s

/-- `PLAN_END` (R166). -/
def execPlanEnd (dom : Nat) (s : State) : Out := act (fun b => if dom ≤ 2 then planEnd dom b else b) s

/-! ### B-CYC (07 R200–R202) -/

/-- A B-CYC of point p with the groups due at it; `ns` 0 where no crossing measured the cycle. -/
def bCyc (p ns : Nat) (s : Block) : Block := boundary 2 p (cycBoundary p ns s)

/-- The cycle of an AC point that the Assay core meters. -/
def cycLive (p : Nat) (s : Block) : Bool := pointOk p && (s.ptType p == 1 || s.ptType p == 2) && metering s

/-- A crossing while the point's B-CYC comes from the timer (R153, R200). -/
def cycReturn (p sinceCyc sinceCross : Nat) (s : Block) : Block :=
  let x := sinceCross * 10 * s.nomFreq
  let good := if 9000000000 ≤ x && x ≤ 11000000000 then (s.pt p).good + 1 else 0
  if good < 4 then updPt p (fun q => { q with good }) s
  else
    let s1 := raise 70 (p * 256) (updPt p (fun q => { q with cycTimer := false, good := 0 }) s)
    if sinceCyc * 2 * s.nomFreq ≥ 1000000000 then updPt p (fun q => { q with period := sinceCross }) (bCyc p 0 s1) else s1

/-- `B_CYC_CROSSING`. -/
def execBCycCrossing (point sinceCycNs sinceCrossNs oppMv : Nat) (s : State) : Out :=
  act (fun b =>
    if !cycLive point b || !detArmed point oppMv b then b
    else if (b.pt point).cycTimer then cycReturn point sinceCycNs sinceCrossNs b
    else if sinceCycNs * 2 * b.nomFreq < 1000000000 then b
    else bCyc point sinceCycNs b) s

/-- `B_CYC_TIMER`. -/
def execBCycTimer (point sinceCycNs : Nat) (s : State) : Out :=
  act (fun b =>
    if !cycLive point b then b
    else if (b.pt point).cycTimer then (if (sinceCycNs + 1) * b.nomFreq > 1000000000 then bCyc point 0 b else b)
    else if (sinceCycNs + 1) * 4 * b.nomFreq > 5000000000 then
      bCyc point 0 (raise 70 (point * 256 + 1) (updPt point (fun q => { q with cycTimer := true, good := 0 }) b))
    else b) s

/-- `SAMPLE_10KHZ` (07 R194): the sample instant, and the groups due at the B-CYC of DC points. -/
def execSample10khz (xs : List (List RawSample)) (rcs : List Int) (s : State) : Out :=
  act (fun b =>
    let b1 := sampleStep xs rcs b
    if b.pwr.heldBy == .no && metering b && blockEnd b1 then
      points.foldl (fun s p => if b.ptType p == 3 then boundary 2 p s else s) b1
    else b1) s

/-! ### B-SEC, B-INT and the calendar boundary -/

/-- MTIME at an instant, where it runs and has not passed it. -/
def timeAt (t : Nat) (s : Block) : Block :=
  if s.sys.mtimeRun && s.sys.mtime < t then timeTo t s else s

/-- MTIME at the B-SEC that comes next. -/
def nextSecond (s : Block) : Block :=
  let t := s.sys.mtime
  if t % 1000 == 0 && t / 1000 > s.sys.secDone then s else timeAt ((t / 1000 + 1) * 1000) s

/-- A new wall-time offset (R52): `EV017`, and what follows for billing (09 R270). -/
def wallStep (ofs : Int) (byFrame : Bool) (s : Block) : Block :=
  let d := ofs - s.sys.wallOfs
  let before := s.wall
  let s1 := raise 17 (tc 32 (satI32 d)) { s with sys.wallOfs := ofs }
  clockStepped before (if byFrame then { s1 with mlk.tstep := satI32 d } else s1)

/-- Offsets that apply at this B-SEC, in order of acceptance (16 R481). -/
def wallApply (s : Block) : Block :=
  s.sys.wallDue.foldl (fun s w => wallStep w.1 w.2 s) { s with sys.wallDue := [] }

/-- A scheduled demand end is due now. -/
def demDue (s : Block) : Bool := s.nrg.dem.nextEnd ≤ s.sys.mtime && metering s

/-- The scheduled end recorded, and its successor scheduled (R239, R240). -/
def demNow (s : Block) : Block := if demDue s then scheduleEnd (demandEnd s.sys.mtime false s) else s

/-- Bylith makes a unit at this instant, in which a demand end that is due takes its place (09 R265). -/
def unitNow (s : Block) : Bool := billing s && (periodDecide s != [] || (tariffDecide s).1 != [])

/-- A unit's actions record the scheduled end. -/
def takesEnd (l : List GAction) : Bool := l.any fun a => a.code == 0x0303 && u8At a.arg 0 == 1

/-- The demand end waits in the billing queue, or in a unit whose instant has passed in OUTAGE. -/
def demQueued (s : Block) : Bool :=
  (s.bil.queue ++ s.bil.heldUnits).any (fun u => takesEnd u.acts) ||
    s.pln.groups.any fun g => match g with
      | some g => g.missed.isSome && takesEnd g.acts
      | none => false

/-- The B-INT of this instant, ahead of its B-SEC (00 R11): the scheduled end is recorded and its groups fall due. Where a
unit of Bylith's takes the end in (`inUnit`), the record is that unit's, and only the groups come here (09 R265). -/
def intFirst (inUnit : Bool) (s : Block) : Block :=
  if demDue s then boundary 4 0 (if inUnit then s else demNow s) else s

/-- The billing work of a B-SEC; `inUnit` where its unit records the end of a B-INT. An end queued for a row keeps its
schedule. -/
def secBilling (inUnit : Bool) (s : Block) : Block :=
  let s1 := bilSecond s
  if !inUnit then s1 else if demQueued s1 then scheduleEnd s1 else demNow s1

/-- Every slot re-masked (14 R415). -/
def remask (s : Block) : Block :=
  if s.pwr.crucDown || !s.cru.drbgOk || s.inMode [.selftest, .zeroised] then s
  else { s with cru.maskCnt := (s.cru.maskCnt + 1) % 4294967296 }

/-- The work of a B-SEC at which metering runs: quantities, the balance, billing, the periodic save. -/
def meterSecond (inUnit : Bool) (s : Block) : Block :=
  if metering s then unitsSaved (periodicSave (secBilling inUnit (balSecond (secondQuantities (bandSecond s))))) else bilSecond s

/-- `MTIME_SECOND`, with the supply readings of that instant in 10 mV. -/
def execMtimeSecond (vin vhold : Nat) (s : State) : Out :=
  act (fun b0 =>
    if b0.pwr.heldBy != .no || !b0.sys.mtimeRun then b0
    else
      let b := nextSecond (finalForce (supplySeen vin vhold b0))
      let inUnit := demDue b && unitNow (wallApply b)
      let b1 := wallApply (intFirst inUnit { b with sys.secDone := b.sys.mtime / 1000 })
      sesAfter (boundary 3 0 (remask (lsSecond (meterSecond inUnit b1))))) s

/-- `DEMAND_SUBINTERVAL_END`: the B-INT that R239 has scheduled. -/
def execDemandSubintervalEnd (s : State) : Out :=
  act (fun b =>
    if b.pwr.heldBy == .no && metering b && b.sys.mtimeRun then
      sesAfter (intFirst false (timeAt b.nrg.dem.nextEnd b))
    else b) s

/-- The units of the calendar boundary's instant: at a B-SEC every action of it, else the close and a demand end. -/
def periodNow (s : Block) : Block :=
  if s.sys.mtime % 1000 == 0 then bilActions s
  else
    let per := periodDecide s
    bylithUnit (if per != [] && s.nrg.dem.nextEnd == s.sys.mtime then gact 0x0303 0 (p8 1 ++ zeros 11) :: per else per) s

/-- The calendar boundary; a scheduled demand end of the same instant is a B-INT, whose groups fall due ahead of it. -/
def periodUnit (s : Block) : Block := if demDue s then periodNow (boundary 4 0 s) else periodNow s

/-- `PERIOD_BOUNDARY_DUE` (09 R269). -/
def execPeriodBoundaryDue (s : State) : Out :=
  act (fun b =>
    if periodNext b != 0 && billing b && b.pwr.heldBy == .no && b.sys.mtimeRun then
      periodUnit (timeAt (periodNext b) b)
    else b) s

end Sys2Proof.Machine
end

