-- ==== Sys2Proof/Machine/Planner.lean ====
section
/-!
DEFINITION. The on-chip planner (11 R337–R341): which domains it compiles, the allocation by priority classes, the placing of
increases in rows, and the plans of the three domains.
-/

namespace Sys2Proof.Machine

/-! ### Domains (R337, 01 R28) -/

/-- The planner has the plans of the scheduled domains: split bit 0 is 0, or R28 hands them to it. -/
def plansOwn (s : Block) : Bool := !bit s.split 0 || bit s.mbx.fallback 0

/-- The domain still plays a host's plan. -/
def playsHost (d : Nat) (s : Block) : Bool := (s.dom d).play == .playing && bit (s.dom d).hdr.flags 0

/-- The planner compiles for domain d now. -/
def compiles (d : Nat) (s : Block) : Bool :=
  !s.transactional d && !bylithDown s && s.pwr.heldBy == .no && s.pwr.cstop.isNone &&
  (if s.inMode [.service, .degraded] then plansOwn s && !(bit s.split 0 && playsHost d s)
   else s.inMode [.standby, .maintain, .commission] && (d == 1 || (d == 2 && plansOwn s)))

/-! ### Allocation (R339) -/

/-- A participant: outlet, demand as a setpoint's magnitude. -/
abbrev Want := Nat × Nat

/-- The outlet takes part in an allocation. -/
def takesPart (n : Nat) (s : Block) : Bool :=
  let e := s.ses n
  (e.st == .authorised || e.st == .active) && (!s.isDc n || (s.ao n).dcStep == 6)

/-- The outlet exports: the host has given it an export target, and it has an export limit. -/
def exports (n : Nat) (s : Block) : Bool := takesPart n s && (s.ao n).expTgt != 0 && (s.ol n).limExp != 0

/-- Demand of an outlet for import, or for export. -/
def demandOf (exp : Bool) (n : Nat) (s : Block) : Nat :=
  let e := s.ses n
  let a := s.ao n
  let d := min (s.a16 n 0) (if exp then min (s.ol n).limExp a.expTgt else min (s.ol n).limImp a.impTgt)
  if s.isDc n && e.itgtSet then min d (if exp then -e.itgt else e.itgt).toNat else d

/-- Per-phase contribution of a setpoint's magnitude (06 R163). -/
def contrib (n sp : Nat) (s : Block) : Nat := if s.isDc n then (sp * s.a16 n 2 + 999) / 1000 else sp

/-- The setpoint at level L of an outlet with a demand. -/
def atLevel (n dem l : Nat) (s : Block) : Nat :=
  let c := min l (contrib n dem s)
  if s.isDc n then min dem (c * 1000 / max (s.a16 n 2) 1) else c

/-- Contributions of setpoints on each phase. -/
def loadOf (sp : List Want) (s : Block) : List Nat :=
  [0, 1, 2].map fun k => sp.foldl (fun a x => if bit (s.phases x.1) k then a + contrib x.1 x.2 s else a) 0

def total (l : List Nat) : Nat := l.foldl (· + ·) 0

/-- One step of the common level: outlets that still rise, with demands, and the setpoints reached. An outlet stops where
a phase that it loads would be exceeded; those that go on stop where the site would be. -/
def rise (l : Nat) (room : List Nat) (site : Nat) (s : Block) (rising sp : List Want) : List Want × List Want :=
  let up := fun (go : List Want) => sp.map fun x => match go.find? fun w => w.1 == x.1 with
    | some w => (x.1, atLevel w.1 w.2 l s)
    | none => x
  let all := loadOf (up rising) s
  let above := [0, 1, 2].filter fun k => tget all k > tget room k
  let go := rising.filter fun w => !above.any fun k => bit (s.phases w.1) k
  if total (loadOf (up go) s) > site then ([], sp)
  else (go.filter fun w => l < contrib w.1 w.2 s, up go)

/-- The level rises until no outlet does. -/
def level (room : List Nat) (site : Nat) (s : Block) : Nat → Nat → List Want → List Want → List Want
  | 0, _, _, sp => sp
  | f + 1, l, rising, sp =>
    if rising.isEmpty then sp
    else let (r, sp1) := rise l room site s rising sp
         level room site s f (l + 1) r sp1

/-- One class's setpoints for its participants. -/
def classLevel (room : List Nat) (site : Nat) (ws : List Want) (s : Block) : List Want :=
  level room site s 10001 1 (ws.filter fun w => w.2 != 0) (ws.map fun w => (w.1, 0))

/-- AC outlets of an allocation with a setpoint from 1 to 59. -/
def tooLow (sp : List Want) (s : Block) : List Nat :=
  (sp.filter fun x => !s.isDc x.1 && 1 ≤ x.2 && x.2 ≤ 59).map fun x => x.1

/-- The outlet with the highest SESID. -/
def lastSes (l : List Nat) (s : Block) : Option Nat :=
  l.foldl (fun b n => match b with
    | none => some n
    | some m => if (s.ses n).sesid > (s.ses m).sesid then some n else some m) none

def setHeld (n : Nat) (h : Bool) (s : Block) : Block :=
  raise 155 (b2n h * 256 + n) (updAo n (fun a => { a with heldOff := h }) s)

/-- A class allocated, with outlets held off until no AC outlet lies below 60 (step 4). -/
def holdOff (room : List Nat) (site : Nat) : Nat → List Want → Block → List Want × Block
  | 0, _, s => ([], s)
  | f + 1, ws, s =>
    let act := ws.filter fun w => !(s.ao w.1).heldOff
    let sp := classLevel room site act s
    match lastSes (tooLow sp s) s with
    | none => (sp, s)
    | some n => holdOff room site f ws (setHeld n true s)

/-- Outlets of a list in ascending SESID order. -/
def bySesid (l : List Nat) (s : Block) : List Nat := l.mergeSort fun a b => (s.ses a).sesid ≤ (s.ses b).sesid

/-- Held-off outlets readmitted where an allocation gives them at least 60 and leaves no other too low (step 5). -/
def readmit (room : List Nat) (site : Nat) (ws : List Want) (s : Block) : Block :=
  (bySesid ((ws.filter fun w => (s.ao w.1).heldOff).map fun w => w.1) s).foldl (fun s n =>
    let sp := classLevel room site (ws.filter fun w => !(s.ao w.1).heldOff || w.1 == n) s
    if tooLow sp s == [] && sp.any fun x => x.1 == n && x.2 ≥ 60 then setHeld n false s else s) s

/-- One class: held-off outlets that fit come back, then the class is allocated. -/
def classAlloc (room : List Nat) (site : Nat) (ws : List Want) (s : Block) : List Want × Block :=
  let (_, s1) := holdOff room site 13 ws s
  holdOff room site 13 ws (readmit room site ws s1)

/-- The classes in their order, each with what those before it have left (step 1). -/
def classes (exp : Bool) : List Nat → List Nat → Nat → List Nat → Block → List Want × Block
  | [], _, _, _, s => ([], s)
  | c :: l, room, site, ns, s =>
    let ws := (ns.filter fun n => s.a8 n 4 == c).map fun n => (n, demandOf exp n s)
    let (sp, s1) := classAlloc room site ws s
    let used := loadOf sp s1
    let left := (List.zip room used).map fun x => x.1 - x.2
    let (r, s2) := classes exp l left (site - total used) ns s1
    (sp ++ r, s2)

/-- A setpoint's magnitude in an allocation; 0 where the outlet takes no part. -/
def spOf (n : Nat) (l : List Want) : Nat := ((l.find? fun x => x.1 == n).map fun x => x.2).getD 0

/-- The target setpoint of every outlet, import positive. -/
def targets (s : Block) : List Int × Block :=
  let a := s.alc
  let s0 := { s with alc.outlets := (List.zip outlets s.alc.outlets).map fun x =>
    { x.2 with heldOff := x.2.heldOff && takesPart x.1 s } }
  let ex := outlets.filter fun n => exports n s0
  let im := outlets.filter fun n => takesPart n s0 && !exports n s0
  let (i, s1) := classes false [0, 1, 2, 3] a.capPI a.capSI im s0
  let (x, s2) := classes true [0, 1, 2, 3] a.capPE a.capSE ex s1
  (outlets.map fun n => Int.ofNat (spOf n i) - Int.ofNat (spOf n x), s2)

/-! ### Rows (R340) -/

/-- Greatest import and export among the newest j setpoints of a list, for j = 0, 1, …. -/
def maxima (i e : Nat) : List Int → List (Nat × Nat)
  | [] => [(i, e)]
  | v :: l => (i, e) :: maxima (max i v.toNat) (max e (-v).toNat) l

/-- Contribution of outlet n at row k: its value there, and for an AC outlet what the lag window still holds of the ticks
before row 0. -/
def rowContrib (lag k n : Nat) (v : Int) (mx : List (List (Nat × Nat))) (s : Block) : Nat × Nat :=
  if s.isDc n then (contrib n v.toNat s, contrib n (-v).toNat s)
  else
    let m := tget mx (n - 1)
    let p := if k ≤ lag then m.getD (min (lag - k) (m.length - 1)) (0, 0) else (0, 0)
    (max p.1 v.toNat, max p.2 (-v).toNat)

/-- The row passes R163 with these values. -/
def rowPasses (lag k : Nat) (vs : List Int) (mx : List (List (Nat × Nat))) (s : Block) : Bool :=
  let cs := outlets.map fun n => rowContrib lag k n (tget vs (n - 1)) mx s
  let sum := fun (f : Nat × Nat → Nat) => [0, 1, 2].map fun p =>
    outlets.foldl (fun a n => if bit (s.phases n) p then a + f (tget cs (n - 1)) else a) 0
  let imp := sum fun x => x.1
  let exp := sum fun x => x.2
  [0, 1, 2].all (fun p => tget imp p ≤ tget s.alc.capPI p && tget exp p ≤ tget s.alc.capPE p) &&
    total imp ≤ s.alc.capSI && total exp ≤ s.alc.capSE

/-- The next value of an outlet on its way to a target: all at once on AC, at most DCRAMP on DC. -/
def stepTo (n : Nat) (cur tgt : Int) (s : Block) : Int :=
  if s.isDc n then
    let r : Int := Int.ofNat (s.a16 n 8)
    if tgt > cur then min tgt (cur + r) else max tgt (cur - r)
  else tgt

/-- The values before any increase: a decrease, or a change of direction by way of 0, at row 0. -/
def lowered (cur tgt : Int) : Int :=
  if (cur ≥ 0 && tgt ≥ 0) || (cur ≤ 0 && tgt ≤ 0) then (if tgt.natAbs < cur.natAbs then tgt else cur) else 0

/-- Values of the rows from row k: each outlet below its target rises at the first row that passes with it. -/
def raiseRows (lag : Nat) (tgt : List Int) (mx : List (List (Nat × Nat))) (s : Block) :
    Nat → Nat → List Int → List (List Int)
  | 0, _, _ => []
  | f + 1, k, vs =>
    let next := if vs == tgt then vs else outlets.foldl (fun vs n =>
      let c := tget vs (n - 1)
      let t := tget tgt (n - 1)
      if c == t then vs
      else
        let w := tput vs (n - 1) (stepTo n c t s)
        if rowPasses lag k w mx s then w else vs) vs
    next :: raiseRows lag tgt mx s f (k + 1) next

/-- An ALLOCATION slot: PD or PMF on row 0 of an outlet IN_SERVICE and where the value changes. -/
def allocSlot (n : Nat) (prev : Option Int) (v : Int) (s : Block) : Word :=
  if s.svcOf n == 0 then 0
  else
    let act := match prev with
      | none => s.svcOf n == 1
      | some p => p != v
    reg [fld 31 16 (tc 16 v), fld 15 15 (b2n (act && !s.isDc n)), fld 14 14 (b2n (act && s.isDc n)), fld 10 8 (s.phases n)]

/-- The rows of a list of values. -/
def allocRows (s : Block) : Option (List Int) → List (List Int) → List Row
  | _, [] => []
  | prev, v :: l =>
    (0 :: 0 :: outlets.map fun n => allocSlot n (prev.map fun p => tget p (n - 1)) (tget v (n - 1)) s) :: allocRows s (some v) l

/-- PLANLEN. -/
def Block.planLen (s : Block) : Nat := s.cfg16 0x0008 18

/-- The ALLOCATION plan. -/
def allocPlan (s : Block) : List Row × Block :=
  let (tgt, s1) := targets s
  let mx := outlets.map fun n => maxima 0 0 (s1.ao n).past
  let v0 := (List.zip outlets tgt).map fun x => lowered (s1.ao x.1).setpt x.2
  (allocRows s1 none (raiseRows s1.lag tgt mx s1 s1.planLen 0 v0), s1)

/-! ### SWITCHING and BILLING plans (R337, R341) -/

/-- CR of outlet n on row 0. -/
def crOf (n : Nat) (s : Block) : Nat :=
  let e := s.ses n
  let o := s.ol n
  if !s.inMode [.service, .degraded] || s.svcOf n == 0 then 0
  else if e.st == .stopping then (if (s.drv n).on then 2 else 0)
  else if s.svcOf n != 1 || (s.drv n).on then 0
  else if s.isDc n then (if (s.ao n).dcStep == 3 then 1 else 0)
  else if (e.st == .authorised || e.st == .active) && (o.cp == 2 || (o.cp == 3 && s.vent n)) then 1
  else 0

/-- The SWITCHING plan: requests on row 0. Load-switch requests of schedules go to the channels by 18 R526. -/
def switchPlan (s : Block) : List Row :=
  let cd13 := if s.alc.rpermit && !(s.drv 13).on then 1 else 0
  (reg [fld 1 0 cd13] :: 0 :: outlets.map fun n => reg [fld 13 12 (crOf n s)]) :: List.replicate (s.planLen - 1) emptyRow

/-- The BILLING plan: BACT 4 on every 50th row, and on row 0 while a unit is held. -/
def billPlan (s : Block) : List Row :=
  (List.range s.planLen).map fun k =>
    if (k + 1) % 50 == 0 || (k == 0 && s.bil.heldUnits != []) then
      0 :: reg [fld 31 28 4] :: List.replicate 12 0
    else emptyRow

/-! ### Staging -/

/-- The staging buffer is free for the planner. -/
def planFree (d : Nat) (s : Block) : Bool :=
  let g := (s.dom d).staging
  g.stage == .empty || (g.stage == .loading && g.owner == 1)

/-- A compiled plan staged and handed to Anvil: SWAP 0, unsigned; PLAN_ID is the compiler's choice. -/
def stagePlan (d : Nat) (rows : List Row) (s : Block) : Block :=
  let (i, s1) := s.draw
  let hdr : PlanHdr := { domain := d, flags := 0, rows := rows.length, planId := (Config.freeWord i).toNat, swap := 0
                         swapTick := 0, compiler := (tget s.upd.ver 0).toNat, rowHash := zeros 64 }
  askValidation d none (updStage d (fun _ => { Staging.empty with
    stage := .loading, owner := 1, hdr, rows := List.zip (List.range rows.length) rows }) s1)

/-- A BILLING plan is due: none plays, it nears its end, or a unit is held. -/
def billDue (s : Block) : Bool :=
  let x := s.dom 2
  x.play != .playing || x.rows.length ≤ x.row + 1 + s.planLen / 4 || s.bil.heldUnits != []

/-- A plan of one domain compiled where its buffer is free; otherwise the trigger stays. -/
def compileDom (d : Nat) (s : Block) : Block :=
  if !compiles d s || (d == 2 && !billDue s) then s
  else if !planFree d s then replan s
  else match d with
    | 0 => let (rows, s1) := allocPlan s
           stagePlan 0 rows s1
    | 1 => stagePlan 1 (switchPlan s) s
    | _ => stagePlan 2 (billPlan s) s

/-- A plan of the planner's own that Anvil has rejected waits to be compiled again. -/
def ownRejected (s : Block) : Bool :=
  [0, 1, 2].any fun d => (s.dom d).staging.stage == .loading && (s.dom d).staging.owner == 1

/-- With SWITCHING transactional no plan carries the close of CD13 (R337, R341), which 02 R61 gives in either style: a
commit group of Bylith's own, class IMM, carries it (06 R170). -/
def cd13Group (s : Block) : Block :=
  if s.transactional 1 && !bylithDown s && s.pwr.heldBy == .no && !s.pwr.recovering && !(s.drv 13).on
      && refuseClose 13 s == none && groupRoom false 1 s then
    let q := nextGseq s
    boundary 0 0 (putGroup { gseq := q, owner := 1, acts := [⟨0x0201, 13, 1 :: zeros 11⟩], bclass := 0, inst := 0
                             notBefore := 0, deadline := 0, tag := 0, cmd := none, due := none, missed := none }
      { s with pln.gseq := q })
  else s

/-- `PLANNER_COMPILE` (R338): the plans of every domain that the planner compiles. -/
def execPlannerCompile (s : State) : Out :=
  act (fun b =>
    if b.pwr.heldBy == .no && (b.alc.replan || ownRejected b) then
      cd13Group ([0, 1, 2].foldl (fun s d => compileDom d s) { b with alc.replan := false })
    else b) s

end Sys2Proof.Machine
end

