-- ==== Sys2Proof/Machine/Power.lean ====
section
/-!
DEFINITION. The rows of the supplies, clocks and resets (02): power-on, hard, clock-fault and soft resets, the power-fail
warning and OUTAGE, recovery and outage restart, rail faults, and the resets of Larkspur, Anvil, the Assay core and
Crucible.
-/

namespace Sys2Proof.Machine

/-! ### Whole-module resets (Table 2-4) -/

/-- `POWER_ON_RESET`: every rail comes up, or an internal rail has been out of regulation. -/
def execPowerOnReset (s : State) : Out :=
  act (fun b => wholeReset 1 .ready (finalBefore b)) s

/-- `VSUP_COLLAPSE`: VSUP below 11.0 V stops the MTIME counter (R50); nothing runs until a power-on reset (R74). -/
def execVsupCollapse (s : State) : Out :=
  act (fun b => { b with sys.mtimeRun := false, pwr.heldBy := .off }) s

/-- Nothing runs: the supply or the clock is missing. -/
def dead (s : Block) : Bool := s.pwr.heldBy == .off || s.pwr.heldBy == .supply || s.pwr.heldBy == .clock

/-- The hard stop (Table 2-7): the accumulator commit, except where accumulators are not written, then the reset. -/
def hardStop (s0 : Block) : Block :=
  let s := finalBefore s0
  wholeReset 2 .resetN (if metering s then commit comAccum s else s)

/-- `RESET_N_ASSERT` (R56, R60). A low level between 2 µs and 10 µs may be acted on or not: a free value decides. -/
def execResetNAssert (lowUs : Nat) (s : State) : Out :=
  act (fun b =>
    if dead b || lowUs < 2 then b
    else if lowUs ≥ 10 then hardStop b
    else
      let (k, b1) := b.draw
      if (Config.freeWord k).toNat % 2 == 1 then hardStop b1 else b1) s

/-- `CLOCK_FAULT` (R49): 1 no crystal edge, 2 PLL lock lost. No commit; MTIME stops. -/
def execClockFault (why : Nat) (s : State) : Out :=
  act (fun b =>
    if b.pwr.heldBy == .off || b.pwr.heldBy == .supply || !(why == 1 || why == 2) then b
    else
      let b1 := wholeReset 3 .clock (finalBefore b)
      { b1 with sys.mtimeRun := false, pwr.clockWhy := why }) s

/-- `CLOCK_RESTORED`: the crystal runs and the PLL locks; MTIME continues from the value at which it stopped (R50, R51), and
SELFTEST may begin. -/
def execClockRestored (s : State) : Out :=
  act (fun b =>
    if b.pwr.heldBy == .clock then
      { b with sys.mtimeRun := true, pwr := { b.pwr with heldBy := .ready, resumeAt := b.sys.mtime } }
    else b) s

def specSysSoftReset : CmdSpec where
  op := 0x0103
  role := .general
  modes := [.standby, .service, .degraded, .maintain, .commission, .safestop]
  len := lenIs 4
  body := fun _ p s =>
    if u32At p 0 != 0 then refuse stBadParam s
    else .accepted (cstopBegin 3 { s with pwr.softReset := true })

/-- `CMD_SYS_SOFT_RESET`: a controlled stop, the full commit, then the reset; at once where no outlet is closed. -/
def execCmdSysSoftReset (h : Req) (p : List Byte) (s : State) : Out := act (fun b => softCheck (runCmd specSysSoftReset h p b)) s

/-! ### The power-fail warning (R62, R64, R84, R615) -/

/-- Setpoints gone with the plans. -/
def setpointsOff (s : Block) : Block :=
  { s with alc.outlets := s.alc.outlets.map fun a => { a with setpt := 0, src := 0 } }

/-- Table 6-15: ALLOCATION and SWITCHING plans and staging discarded, BILLING paused at its row. -/
def plansAtWarning (s : Block) : Block :=
  let s1 := [0, 1].foldl (fun s d => dropPlan d .idle (dropStaging d s)) s
  if (s1.dom 2).play == .playing then updDom 2 (fun x => { x with play := .paused }) s1 else s1

/-- The power-fail record joins every unit that is not complete as its last action, with the unit's own instant (09 R271). -/
def pfJoins (s : Block) : Block :=
  updBil (fun b => { b with units := b.units.map fun u => { u with tpf := some s.sys.mtime } }) s

/-- Steps 1 to 6 of Table 2-8. The mode at the warning is the source mode of a transition under way (R82). -/
def outage (src : Nat) (s0 : Block) : Block :=
  let s := pfJoins s0
  let rec_ := finalRec (some (s.sys.mtime, src)) s
  let s1 := raise 1 src { s with
    sys.held := s.sys.mode
    pwr := { s.pwr with
      pfw := true, pfwSrc := src, pfwT0 := s.sys.mtime, finalDone := false, vholdArmed := false, vholdLow := false
      vholdRec := false, recovering := false, cstop := none, vsupVhold := s.pwr.vin < 1250 }
    lnk.stopped := true }
  let s2 := enterMode .outage 0x14 s1
  let s3 := setpointsOff (plansAtWarning (sendAllOff 2 (driversOff (pulsesOff s2))))
  finalOpen rec_ (flagAll 8 { s3 with nrg.tpf := s3.sys.mtime })

/-- The warning raised by a source: in OUTAGE's place the state is held in SELFTEST and in ZEROISED (R84, R615). -/
def warning (src : Nat) (s : Block) : Block :=
  if s.pwr.pfw then s
  else if s.sys.mode == .selftest then (if s.pwr.heldBy == .ready then pfwSelftest src s else s)
  else if s.pwr.heldBy != .no then s
  else if s.sys.mode == .zeroised then
    raise 1 src { s with pwr := { s.pwr with
      pfw := true, pfwSrc := src, pfwT0 := s.sys.mtime, finalDone := true, vholdArmed := false, vholdLow := false
      vsupVhold := s.pwr.vin < 1250 } }
  else outage src s

/-- A reading of VIN. With a warning latched the supply die takes VSUP from VIN at 12.5 V or more, else from VHOLD
(R44, R69). -/
def vinSeen (vin : Nat) (s : Block) : Block :=
  { s with pwr := { s.pwr with vin, vinOk := vin ≥ 1700, vsupVhold := s.pwr.pfw && vin < 1250 } }

/-- `PF_WARNING_VIN`: VIN in 10 mV, below 17.0 V for 20 µs. -/
def execPfWarningVin (vin : Nat) (s : State) : Out :=
  act (fun b => if vin < 1700 then warning 1 (vinSeen vin b) else b) s

/-- A voltage of MP00 in mV is below 50 % of nominal. -/
def siteLost (mv : Nat) (s : Block) : Bool := mv < 50 * s.unom 0

/-- The site-voltage source is enabled (Table 2-8a). -/
def siteEnabled (s : Block) : Bool := s.cfg8 0x0001 10 == 1

/-- `PF_WARNING_SITE_VOLTAGE`: the half-cycle voltages in mV; enabled by the system section. Its condition holds from here
until the source is clear. -/
def execPfWarningSiteVoltage (va vb vc : Nat) (s : State) : Out :=
  act (fun b =>
    if siteEnabled b && [va, vb, vc].all (fun v => siteLost v b) then
      warning 2 { b with pwr := { b.pwr with siteLoss := true, siteGood := [0, 0, 0] } }
    else b) s

/-- Every enabled source is clear with VIN at a value: the test source is so once the warning is latched (R62). -/
def sourcesClear (vin : Nat) (s : Block) : Bool := vin ≥ 1700 && !(siteEnabled s && s.pwr.siteLoss)

/-- The two conditions of R71. -/
def mayRecover (vin : Nat) (s : Block) : Bool := vin ≥ 1900 && sourcesClear vin s && s.pwr.pfw

/-- CKP writes: `CKP_PFW_TEST`, performed only in COMMISSION (Table 4-28); the rest is RO. -/
def wrCkp (a v : Nat) (s : Block) : Wr :=
  if a == 0x10 then
    if s.sys.mode != .commission then .notPerf
    else .ok (if v % 2 == 1 then warning 3 s else s)
  else match rdCkp a s with
    | none => .berr
    | some _ => .ok s

/-- `VSUP_SOURCE_CHANGE` (R69): in both directions. -/
def execVsupSourceChange (vin : Nat) (s : State) : Out := act (fun b => if b.pwr.pfw then vinSeen vin b else b) s

/-! ### Recovery and outage restart (R71 to R74) -/

/-- The mode after a recovery (R82, R83). -/
def recoveredMode (s : Block) : Block :=
  if s.sys.safestopDue then
    enterMode .safestop 0x12 (abandonTrans { s with sys := { s.sys with safestopDue := false } })
  else if s.sys.trans.isSome then transDone s
  else followService (enterMode s.sys.held 0x15 s)

/-- BILLING resumes: commands of units in the final commit answer, missed boundaries fall due, DUE units complete, the plan
goes on (Table 6-15). -/
def billingResumes (s : Block) : Block :=
  let l := s.bil.atPf
  let s1 := l.foldl (fun s x => complete x.1 stOk x.2 s) (updBil (fun b => { b with atPf := [] }) s)
  let s2 := missedDue s1
  let s3 := if signing s2 && !bylithDown s2 then s2.bil.units.foldl (fun s u => sealUnit false u s) s2 else s2
  if (s3.dom 2).play == .paused then updDom 2 (fun x => { x with play := .playing }) s3 else s3

/-- The warning released: `EV002` with the time since the warning, deferred log entries first (R76, R577). -/
def warningOver (vin : Nat) (s : Block) : Block :=
  let s1 := flushPending { s with
    pwr := { s.pwr with pfw := false, vin, vinOk := true, vsupVhold := false, finalDone := true }, lnk.stopped := false }
  raise 2 (satU32 (s1.sys.mtime - s1.pwr.pfwT0)) s1

/-- Step 1 of Table 2-9, 10 ms after t1. -/
def recover (t1 vin : Nat) (s : Block) : Block :=
  let s0 := finalForce s
  let t := s0.pwr.pfwT0 + t1 + 10
  let s1 := warningOver vin (if s0.sys.mtimeRun && s0.sys.mtime < t then { s0 with sys.mtime := t } else s0)
  if s1.sys.mode == .zeroised then s1
  else
    let s2 := recoveredMode { s1 with pwr := { s1.pwr with recovering := true, vholdRec := true } }
    billingResumes (heldResponses s2)

/-- An outage restart (Table 2-4): cause 0x05. -/
def outageRestart (s : Block) : Block := wholeReset 5 .ready (finalForce s)

/-- `RECOVERY` (R71): `t1` ms after the warning VIN, in 10 mV, is back at 19.0 V with every source clear. It does not apply
to a warning in ACTIVATE (19 R552), and has no limit in time in ZEROISED (R615). -/
def execRecovery (t1 vin : Nat) (s : State) : Out :=
  act (fun b =>
    if !mayRecover vin b || dead b then b
    else if b.pwr.pfwSelftest then outageRestart (vinSeen vin b)
    else if b.sys.mode == .zeroised then recover t1 vin b
    else if b.sys.mode == .outage && b.sys.held != .activate && t1 ≤ 500 then recover t1 vin b
    else b) s

/-- `OUTAGE_RESTART_LATE` (R72, R84; 19 R552). -/
def execOutageRestartLate (t1 vin : Nat) (s : State) : Out :=
  act (fun b =>
    if !mayRecover vin b || dead b then b
    else if b.pwr.pfwSelftest then outageRestart (vinSeen vin b)
    else if b.sys.mode == .zeroised then recover t1 vin b
    else if b.sys.mode == .outage && (t1 > 500 || b.sys.held == .activate) then outageRestart (vinSeen vin b)
    else b) s

/-- `OUTAGE_RESTART_LOW_VIN` (R73): VIN has stayed between 18.0 V and the recovery threshold for 2 s. -/
def execOutageRestartLowVin (vin heldMs : Nat) (s : State) : Out :=
  act (fun b =>
    if vin ≥ 1800 && vin < 1900 && heldMs ≥ 2000 && sourcesClear vin b && b.pwr.pfw && b.sys.mode == .outage && !dead b then
      outageRestart (vinSeen vin b)
    else b) s

/-- `SUPPLY_END` (R74): an accumulator commit where the final commit is complete; else that commit is abandoned with its
marker unwritten. -/
def execSupplyEnd (s : State) : Out :=
  act (fun b =>
    if !b.pwr.pfw || dead b || b.pwr.pfwSelftest then b
    else if b.sys.mode == .zeroised then { b with pwr.heldBy := .supply }
    else if b.sys.mode != .outage then b
    else if finalNow b then
      let b1 := finalForce b
      let b2 := if b1.pwr.assayDown then b1 else commit comAccum b1
      { b2 with pwr.heldBy := .supply }
    else { b with pwr.heldBy := .supply }) s

/-- `SUPPLY_END_RETURN` (R74): VIN back at 19.0 V before VSUP has fallen below 11.0 V. -/
def execSupplyEndReturn (vin : Nat) (s : State) : Out :=
  act (fun b =>
    if b.pwr.heldBy == .supply && vin ≥ 1900 then wholeReset 5 .ready { b with pwr := { b.pwr with vin, vinOk := true } } else b) s

/-- `RECOVERY_OUTPUTS_RESUME` (Table 2-9 steps 3 and 4): CD13 under R61; DC sessions end with reason 7 OUTAGE. -/
def execRecoveryOutputsResume (s : State) : Out :=
  act (fun b =>
    if !b.pwr.recovering || b.pwr.pfw || b.pwr.heldBy != .no then b
    else
      let b1 := { b with pwr.recovering := false }
      let b2 := if b1.bil.pp == .connected && b1.inMode mPrepay then closeRequest 13 b1 else b1
      stopSessions 7 (fun n => b2.isDc n) b2) s

/-! ### Rails (R43) -/

/-- `EV008` code of a rail. -/
def railCode (r : Rail) : Nat :=
  match r with
  | .vcpp => 1 | .vcpn => 2 | .vled => 3 | .vddio => 4

def railOk (r : Rail) (s : Block) : Bool :=
  match r with
  | .vcpp => s.pwr.vcppOk
  | .vcpn => s.pwr.vcpnOk
  | .vled => s.pwr.vledOk
  | .vddio => s.pwr.vddioOk

def setRail (r : Rail) (v : Bool) (s : Block) : Block :=
  { s with pwr := match r with
    | .vcpp => { s.pwr with vcppOk := v }
    | .vcpn => { s.pwr with vcpnOk := v }
    | .vled => { s.pwr with vledOk := v }
    | .vddio => { s.pwr with vddioOk := v } }

/-- An outlet has a session or a closed contactor. -/
def anySession (s : Block) : Bool := outlets.any fun n => (s.ses n).st.stoppable || (s.drv n).on

/-- The response of a rail's fault (Table 2-2). -/
def railResponse (r : Rail) (s : Block) : Block :=
  match r with
  | .vcpp | .vcpn => idlePilots (if anySession s then cstopBegin 6 s else s)
  | .vled => disSync s
  | .vddio => vddioLost s

/-- `RAIL_FAULT`: while the module is held in reset every output is off already, and the event waits in the pending buffer
(R76); without supply or clock nothing is raised. -/
def execRailFault (r : Rail) (s : State) : Out :=
  act (fun b =>
    if !railOk r b then b
    else if dead b then setRail r false b
    else
      let b1 := raise 8 (railCode r) (setRail r false b)
      if b.pwr.heldBy != .no then b1 else railResponse r b1) s

/-- `RAIL_RETURN`: pilots return to state A, the matrix starts again. -/
def execRailReturn (r : Rail) (s : State) : Out :=
  act (fun b =>
    if railOk r b then b
    else
      let b1 := setRail r true b
      if b1.pwr.heldBy != .no then b1
      else match r with
        | .vcpp | .vcpn => if vcpOk b1 then idlePilots b1 else b1
        | .vled => disSync b1
        | .vddio => b1) s

/-- `VHOLD_LOW` (Table 2-2): VHOLD in 10 mV below 26.0 V for 100 ms while VIN is at or above 18 V and supervision is
armed. -/
def execVholdLow (vhold : Nat) (s : State) : Out :=
  act (fun b =>
    if charging b && b.pwr.vholdArmed && !b.pwr.vholdLow && vhold < 2600 then
      raise 7 (vhold % 65536) { b with pwr := { b.pwr with vhold, vholdLow := true } }
    else b) s

/-- `VHOLD_RECOVERY_CHARGE_TIMEOUT` (Table 2-2): once per recovery. -/
def execVholdRecoveryChargeTimeout (vhold : Nat) (s : State) : Out :=
  act (fun b =>
    if b.pwr.vholdRec && !b.pwr.pfw && b.pwr.heldBy == .no && vhold < 2700 then
      raise 7 (65536 + vhold % 65536) { b with pwr := { b.pwr with vhold, vholdRec := false, vholdLow := vhold ≤ 2650 } }
    else b) s

/-! ### Larkspur resets (R54, R55, R57, R58) -/

/-- A new epoch in every mailbox (05 R135); entry numbers go on, so that no later entry answers for an old command. -/
def newEpochs (s : Block) : Block :=
  { s with mbx := { s.mbx with
    epochDue := true
    boxes := s.mbx.boxes.map fun b => { Mailbox.reset with epoch := (b.epoch + 1) % 256, nextId := b.nextId } } }

/-- Staged plans that are not ARMED are discarded (06 Table 6-15). -/
def stagingsLost (s : Block) : Block :=
  [0, 1, 2].foldl (fun s d =>
    if (s.dom d).staging.stage == .armed || (s.dom d).staging.stage == .empty then s else dropStaging d s) s

/-- The session's next request decides whether it continues (10 R323). -/
def judgeSession (n : Nat) (s : Block) : Block :=
  updSes n (fun e => { e with judged := e.st.stoppable && (s.ol n).slac.result == 2 }) s

/-- The session of an outlet at a message boundary: its last response has been sent and no request has begun (19 R547).
DEDUCED: a tunnelled session is at one while no byte waits in either direction. -/
def atBoundary (n : Nat) (s : Block) : Bool :=
  let o := s.ol n
  !o.ses.pending && o.certAt.isNone && (!o.ses.tunnel || (o.tunRx.isEmpty && o.tunTx.isEmpty))

/-- The handover records that old Bylith writes, one for each open session (19 R547). DESIGN CHOICE: steps 1 to 3 of Table 19-5 are
one instant of the model, so a session off its boundary at step 1 is handed over without protocol state. -/
def handRecords (s : Block) : Block :=
  outlets.foldl (fun s n =>
    let o := s.ol n
    if o.ses.st == .idle || o.ses.st == .parked then s
    else updOl n (fun o => { o with hand := some ⟨o.ses, o.tunOpen, o.tunRx, o.tunTx, atBoundary n s, s.upd.ver⟩ }) s) s

/-- The versions of the release that runs: on the trial bank the staged one. -/
def runningVers (s : Block) : List Word := if onTrial s then s.upd.parts.map fun x => x.ver else s.upd.ver

/-- The new release resumes a session from its record where it supports the record's format; one without protocol state, or of
a format it does not support, has lost its connection (19 R547, 10 R323, R324). -/
def resumeSession (n : Nat) (s : Block) : Block :=
  match (s.ol n).hand with
  | none => s
  | some h =>
    let s1 := if s.upd.act == .no then updOl n (fun o => { o with hand := none }) s else s
    if h.proto && (h.wrote == runningVers s || Config.resumes h.wrote (runningVers s)) then
      updOl n (fun o => { o with tunOpen := h.tcpOpen }) s1
    else if (s.ses n).st.stoppable && (s.ses n).proto ≥ 2 then connLost n s1
    else s1

/-- The handover records are spent once an activation is over. -/
def handClear (s : Block) : Block := outlets.foldl (fun s n => updOl n (fun o => { o with hand := none }) s) s

/-- The module's part that runs on Larkspur is gone: locks, groups, claims of tokens, DC steps, links, TCP connections. -/
def bylithLost (s : Block) : Block :=
  let s1 := breakOwners ((upto 1 4) ++ (upto 0x10 0x17)) (newEpochs s)
  let s2 := stageEmpty (stagingsLost (updBil (fun b => { b with slots := List.replicate 8 none }) s1))
  let s3 := outlets.foldl (fun s n => judgeSession n (
    if 1 ≤ (s.ao n).dcStep && (s.ao n).dcStep ≤ 5 && !((s.ol n).hand.any fun h => h.proto) then stopSession n 6 (dcAbort n s)
    else s)) s2
  bsdSync (disSync (clsSync (mlkSync (tlsEnd 1 (tlsEnd 2 { s3 with
    lnk.conns := [], lnk.serial := s3.lnk.serial.map fun l => { l with cur := none, queue := [] } })))))

/-- A Larkspur reset at t0 (Table 2-5 step 1). DESIGN CHOICE: one that comes while hold-over still runs does not begin another
hold-over, so t0 stays that of the first: the limit of step 3 and the duration of `EV010` count from it. -/
def larkspurReset (s : Block) : Block :=
  let l := (s.pwr.lrst.filter fun t => s.sys.mtime < t + 600000) ++ [s.sys.mtime]
  let s1 := raise 9 0 { s with
    pwr := { s.pwr with
      lrst := l, larkspurDown := true, holdover := if s.pwr.holdover.isSome then s.pwr.holdover else some s.sys.mtime } }
  bylithLost (if l.length ≥ 3 && !s1.inMode [.zeroised, .safestop] then { s1 with sys.safestopDue := true } else s1)

/-- The mode back from ACTIVATE (03 Table 3-2). -/
def activateOver (s : Block) : Block :=
  if s.sys.mode == .activate then followService (enterMode s.sys.preActivate 0x11 s) else s

/-- A Larkspur reset while the new release boots fails check 5 of Table 19-6: the same reset goes to the committed bank. -/
def larkspurLost (s : Block) : Block :=
  match s.upd.act with
  | .trial _ => activateOver (revertPoint 5 0xFF (larkspurReset s))
  | _ => larkspurReset s

/-- Larkspur may reset: it runs, and in OUTAGE only its core 0 does (R68). -/
def larkspurRuns (core : Nat) (s : Block) : Bool :=
  core < 4 && s.pwr.heldBy == .no && !bylithDown s && !(s.pwr.pfw && core != 0)

/-- The heartbeat check of a core halted through DBG is suspended (14 R436). -/
def heartbeatOff (core : Nat) (s : Block) : Bool :=
  bit s.cru.halted core && s.inMode [.factory, .provision, .standby, .maintain, .commission]

/-- `HEARTBEAT_TIMEOUT` (R54): a core in reset or booting has no heartbeat to miss. -/
def execHeartbeatTimeout (core : Nat) (s : State) : Out :=
  act (fun b => if larkspurRuns core b && !heartbeatOff core b then larkspurLost b else b) s

/-- `LARKSPUR_FAULT`: a fault exception of a core. -/
def execLarkspurFault (core : Nat) (s : State) : Out :=
  act (fun b => if larkspurRuns core b then larkspurLost b else b) s

/-- DUE groups are completed by Bylith before it signals resume (06 Table 6-15). -/
def dueCompleted (s : Block) : Block :=
  if signing s then s.bil.units.foldl (fun s u => sealUnit false u s) s else s

/-- Bylith has restored its state: the window is served, `EV033`, links, readers and displays resume; hold-over ends at the
next B-TICK. -/
def bylithUp (s : Block) : Block :=
  let s0 := dueCompleted { s with pwr.larkspurDown := false, mbx := { s.mbx with epochDue := false, lastHost := s.sys.mtime } }
  let s1 := outlets.foldl (fun s n => resumeSession n s) s0
  bsdSync (disSync (clsSync (mlkSync (raise 33 (s1.box 0).epoch (identWrite s1)))))

/-- `HOLDOVER_TIMEOUT` (Table 2-5 step 3): 2.0 s after t0, 10 s in ACTIVATE (R58). -/
def execHoldoverTimeout (s : State) : Out :=
  act (fun b =>
    if b.pwr.larkspurDown && b.pwr.holdover.isSome && holdoverPast b && b.pwr.heldBy == .no && b.sys.mode != .outage then
      cstopBegin 6 b
    else b) s

/-! ### Anvil, the Assay core and Crucible (01 R24) -/

/-- `ANVIL_RESET`: every coil driver off, CD13 among them, then SAFESTOP. `why` only tells the triggers apart. -/
def anvilReset (s : Block) : Block :=
  let s1 := driversOff { s with pwr := { s.pwr with anvilDown := true, cstop := none } }
  safestop (pairEval { s1 with saf.pairs := 0 })

def execAnvilReset (_why : Nat) (s : State) : Out :=
  act (fun b => if b.pwr.heldBy != .no || b.sys.mode == .zeroised then b else anvilReset b) s

/-- The Assay core in reset: accumulation stands at the newest commit (01 Table 1-5), Anvil stops the outlets. Billing
marks stay, so that no energy is billed twice (09 R267). -/
def assayReset (s : Block) : Block :=
  let s1 := cstopBegin 6 { s with pwr.assayDown := true }
  safestop { s1 with nrg.accs := (bodyUsed s1).accs }

/-- `ASSAY_CORE_RESET`. -/
def execAssayCoreReset (s : State) : Out :=
  act (fun b => if b.pwr.heldBy != .no || b.sys.mode == .zeroised then b else assayReset b) s

/-- Crucible in reset: the grant and the session slots are lost, open sessions stay without an Ingot until the next
start (14 R417, R427; 09 R273). -/
def crucibleReset (s : Block) : Block :=
  let s1 := clearSessions (dbgClose (updCru (fun c => { c with grant := none, tls := [false, false], drbgOk := false }) s))
  safestop (cstopBegin 6 { s1 with
    pwr.crucDown := true, tag.port := false
    cru := { s1.cru with engRun := Cru.reset.engRun, engQ := Cru.reset.engQ } })

/-- `CRUCIBLE_RESET`. -/
def execCrucibleReset (s : State) : Out :=
  act (fun b => if b.pwr.heldBy != .no || b.sys.mode == .zeroised then b else crucibleReset b) s

end Sys2Proof.Machine
end

