-- ==== Sys2Proof/Machine/Image.lean ====
section
/-!
DEFINITION. The committed configuration image (05 R151), and CBOR and COSE_Sign1 as the Hallmark uses them (14 R438; RFC
8949, RFC 9052).
-/

namespace Sys2Proof.Machine

/-- A section of an image: ID, length, body padded to a multiple of 4 bytes (R151). -/
def sectionBytes (id : Nat) (body : List Byte) : List Byte :=
  p16 id ++ p16 body.length ++ body ++ zeros ((4 - body.length % 4) % 4)

/-- The image rebuilt from the sections in force (R151). -/
def cfgImage (s : Block) : List Byte :=
  let body := s.cfg.secs.flatMap fun x => sectionBytes x.1 x.2
  p16 0x0304 ++ p16 s.cfg.secs.length ++ p32 (16 + body.length) ++ p32 (crc32 body) ++ p32 s.cfg.ident ++ body

/-! ### CBOR, deterministic encoding -/

/-- The head of a data item: major type and argument in its shortest form, most significant byte first. -/
def cborHead (major n : Nat) : List Byte :=
  let m := major * 32
  if n < 24 then p8 (m + n)
  else if n < 256 then p8 (m + 24) ++ p8 n
  else if n < 65536 then p8 (m + 25) ++ (leBytes 2 n).reverse
  else if n < 4294967296 then p8 (m + 26) ++ (leBytes 4 n).reverse
  else p8 (m + 27) ++ (leBytes 8 n).reverse

def cborUint (n : Nat) : List Byte := cborHead 0 n
def cborInt (i : Int) : List Byte := if i < 0 then cborHead 1 (-1 - i).toNat else cborHead 0 i.toNat
def cborBstr (b : List Byte) : List Byte := cborHead 2 b.length ++ b
def cborArr (l : List (List Byte)) : List Byte := cborHead 4 l.length ++ l.flatten
def cborBool (b : Bool) : List Byte := p8 (if b then 0xF5 else 0xF4)
def cborNull : List Byte := p8 0xF6

/-- A map with the keys 1, 2, … in turn, each to the next item. -/
def cborMap (l : List (List Byte)) : List Byte :=
  cborHead 5 l.length ++ (List.range l.length).flatMap fun i => cborUint (i + 1) ++ tget l i

/-- A COSE_Sign1 structure: protected header, kid, payload, and what signs the Sig_structure. -/
def coseSign1 (kid payload : List Byte) (sign : List Byte → List Byte) : List Byte :=
  let prot := cborHead 5 1 ++ cborUint 1 ++ cborInt (-8)
  let tbs := cborHead 4 4 ++ (cborHead 3 10 ++ [0x53, 0x69, 0x67, 0x6E, 0x61, 0x74, 0x75, 0x72, 0x65, 0x31]) ++
    cborBstr prot ++ cborBstr [] ++ cborBstr payload
  cborArr [cborBstr prot, cborHead 5 1 ++ cborUint 4 ++ cborBstr kid, cborBstr payload, cborBstr (sign tbs)]

end Sys2Proof.Machine
end

