-- ==== Sys2Proof/Machine/Crucible.lean ====
section
/-!
DEFINITION. Crucible (14): tamper sources, debug port, DRBG, credentials, provisioning, the Hallmark, Ethernet TLS, the SEC
registers and the security commands.
-/

namespace Sys2Proof.Machine

/-! ### Keys and registers (R412–R416, R442) -/

def slotKey (k : Nat) (s : Block) : List Byte := (tget s.cru.slots k).key

/-- TYPE of a slot's key (Table 14-3). -/
def keyType (k : Nat) (s : Block) : Nat := bits (tget s.cru.slots k).attr 27 24

/-- The public key of a slot: the key itself for TYPE 2, that of RFC 8032 or RFC 7748 for Ed25519 and X25519, the encoding of
its own standard otherwise, which the spec does not name. -/
def slotPublic (k : Nat) (s : Block) : List Byte :=
  let key := slotKey k s
  match keyType k s with
  | 2 => key
  | 1 => edPublic key
  | 6 => x25519Public key
  | _ => (Config.pubKey k key).take 4072

/-- The kid of the Hallmark key (R438). -/
def attKid (s : Block) : List Byte :=
  if slotValid 0 s then (sha512 (slotPublic 0 s)).take 8 else zeros 8

/-- Slots `a` to `a + 31` that are valid. -/
def slotMask (a : Nat) (s : Block) : Nat := maskOf ((List.range 32).filter fun i => slotValid (a + i) s)

def tmpRole (k : Nat) (s : Block) : Nat := u8At s.cru.tamperCfg (4 * (k - 1))
def tmpPol (k : Nat) (s : Block) : Nat := u8At s.cru.tamperCfg (4 * (k - 1) + 2)
def magAddr (m : Nat) (s : Block) : Nat := u16At s.cru.tamperCfg (32 + 4 * (m - 1))
def magTh (m : Nat) (s : Block) : Nat := u16At s.cru.tamperCfg (34 + 4 * (m - 1))

/-- STATE of `SEC_STAT`. -/
def secState (s : Block) : Nat := if s.sys.rootDisable then 2 else if s.pwr.crucDown then 0 else 1

/-- Registers of Tables 14-14 and 14-15, by word from 0x30_0000. -/
def secGlobal (i : Nat) (s : Block) : Word :=
  let c := s.cru
  let last := c.tamLog.head?
  let g := c.grant
  match i with
  | 0 => reg [fld 31 29 (secState s), fld 28 28 (b2n (!s.sys.rootDisable && slotValid 0 s)), fld 27 27 (b2n c.drbgOk),
              fld 26 26 (b2n g.isSome), fld 25 25 (b2n c.alarm), fld 24 24 (b2n (c.evalCause == 0))]
  | 1 => secTamperStat s
  | 2 | 3 | 4 => w32 (tget c.tamCnt (i - 2))
  | 5 => match last with
    | some e => reg [fld 23 16 e.source, fld 15 8 e.detail, fld 1 0 e.cls]
    | none => 0
  | 6 => lo32 ((last.map fun e => e.mtime).getD 0)
  | 7 => hi32 ((last.map fun e => e.mtime).getD 0)
  | 8 => w32 (c.tmpRaw % 256)
  | 9 => w32 ((g.map fun x => x.id).getD 0)
  | 10 => lo32 ((g.map fun x => x.expiry).getD 0)
  | 11 => hi32 ((g.map fun x => x.expiry).getD 0)
  | 12 => w32 c.evalCause
  | 13 => reg [fld 31 30 c.dbgState, fld 15 0 c.denied]
  | 14 => reg [fld 31 31 (b2n c.drbgOk), fld 23 16 c.drbgFails,
               fld 15 0 (min ((s.sys.mtime - c.drbgAt) / 1000) 65535)]
  | 15 => w32 c.maskCnt
  | 16 => w32 c.hallCnt
  | 17 => w32 (fld 9 1 (c.items / 2))
  | 18 => w32 (slotMask 0 s)
  | 19 => w32 (slotMask 32 s)
  | 20 => w32 (u32At (attKid s) 0)
  | 21 => w32 (u32At (attKid s) 4)
  | 22 => reg [fld 27 16 (maskOf ((List.range 12).filter fun e => tget c.engQ e != [])),
               fld 11 0 (maskOf ((List.range 12).filter fun e => (tget c.engRun e).isSome))]
  | _ => reg [fld 31 16 c.keyFailCnt, fld 5 0 c.keyFailSlot]

/-- SEC block reads (R442). -/
def rdSec (a : Nat) (s : Block) : Option Word :=
  if a < 0x60 then some (secGlobal (a / 4) s)
  else if 0x100 ≤ a && a < 0x120 then
    let o := a - 0x100
    some (reg [fld 23 16 (u8At s.cru.tamperCfg (o + 1)), fld 8 8 (u8At s.cru.tamperCfg (o + 2)),
               fld 1 0 (u8At s.cru.tamperCfg o)])
  else if 0x120 ≤ a && a < 0x130 then
    let m := (a - 0x120) / 4 + 1
    let x := tget s.cru.mags (m - 1)
    some (reg [fld 31 31 (b2n x.valid), fld 30 30 (b2n x.ovr), fld 25 16 (magTh m s), fld 15 0 x.field])
  else if 0x200 ≤ a && a < 0x230 then some (w32 (tget s.cru.engCnt ((a - 0x200) / 4)))
  else none

def wrSec (a : Nat) (s : Block) : Wr :=
  match rdSec a s with
  | none => .berr
  | some _ => .ok s

/-! ### Tamper sources (R428–R430) -/

/-- The sources are watched: every mode but ZEROISED, while the module has supply (R428). -/
def watched (s : Block) : Bool :=
  s.sys.mode != .zeroised && hasSupply s

/-- TMPk reads closed or open, and is in its normal state or out of it. An unused input is not watched. -/
def tmpRead (k : Nat) (normal : Bool) (s : Block) : Block :=
  updCru (fun c => { c with
    tmpRaw := putBit c.tmpRaw (k - 1) (normal == (tmpPol k s == 0))
    tmpOpen := putBit c.tmpOpen (k - 1) (!normal && tmpRole k s != 0) }) s

/-- TMPk leaves its normal state: its role's class (Table 14-8). -/
def tmpLeft (k : Nat) (s : Block) : Block :=
  let s1 := tmpRead k false s
  match tmpRole k s with
  | 1 => tamper k (if s.sys.mode == .maintain then 1 else 2) k s1
  | 2 => tamper k 2 k s1
  | 3 => zeroise k k s1
  | _ => s1

/-- `TAMPER_INPUT` (R429): a source counts again only after it has returned to its normal state (R430). -/
def execTamperInput (k : Nat) (s : State) : Out :=
  act (fun b => if watched b && 1 ≤ k && k ≤ 8 && !bit b.cru.tmpOpen (k - 1) then tmpLeft k b else b) s

/-- `TAMPER_INPUT_NORMAL` (R430). -/
def execTamperInputNormal (k : Nat) (s : State) : Out :=
  act (fun b => if watched b && 1 ≤ k && k ≤ 8 then tmpRead k true b else b) s

/-- `LID_MESH_BREAK` (R428). -/
def execLidMeshBreak (s : State) : Out :=
  act (fun b => if watched b then zeroise 9 0 (updCru (fun c => { c with mesh := false }) b) else b) s

/-- `GLITCH_DETECTED` (22 R610): source 10 for the supply, 11 for a clock. -/
def execGlitchDetected (clock : Bool) (s : State) : Out :=
  act (fun b => if watched b then zeroise (if clock then 11 else 10) 0 b else b) s

/-- A reading of sensor m (R429): the field at or above MAGTH for 1 s is class 2. A transaction without a valid reading
neither adds to that second nor ends it. -/
def magReading (m : Nat) (r : Option Nat) (s : Block) : Block :=
  let x := tget s.cru.mags (m - 1)
  match r with
  | none => updCru (fun c => { c with mags := tput c.mags (m - 1) { x with valid := false } }) s
  | some f =>
    let above := 10 * magTh m s ≤ f
    let since := if above && x.ovr then x.since else s.sys.mtime
    let fires := above && !x.out && since + 1000 ≤ s.sys.mtime
    let y : MagSensor := ⟨min f 65535, above, true, since, above && (x.out || fires)⟩
    let s1 := updCru (fun c => { c with mags := tput c.mags (m - 1) y }) s
    if fires then tamper 12 2 m s1 else s1

/-- `MAG_SENSOR_READ` (R429). -/
def execMagSensorRead (m : Nat) (fieldDmT : Option Nat) (s : State) : Out :=
  act (fun b => if watched b && 1 ≤ m && m ≤ 4 && magAddr m b != 0 then magReading m fieldDmT b else b) s

/-! ### Debug port (R435, R436) -/

/-- `DEBUG_PORT_ACCESS`: while closed, counted, `EV196`, and the first since the closing a class 1 event. While open, an access
to a memory of 01 R14, `blocked` with its byte address, is not performed and raises `EV016` as initiator 2. -/
def execDebugPortAccess (blocked : Option Nat) (s : State) : Out :=
  act (fun b =>
    if b.pwr.heldBy != .no then b
    else if b.cru.dbgState == 1 then
      match blocked with
      | some a => raise 16 (2 * 16777216 + a % 16777216) b
      | none => b
    else
      let b1 := raise 196 2 (updCru (fun c => { c with denied := satInc 65535 c.denied }) b)
      if b.cru.attempt || !watched b then b1 else tamper 15 1 0 (updCru (fun c => { c with attempt := true }) b1)) s

/-- Modes in which a core can be halted (R436). -/
def mHalt : List Mode := [.factory, .provision, .standby, .maintain, .commission]

/-- `DBG_CORE_HALT`: the core is halted and its heartbeat check suspended. -/
def execDbgCoreHalt (core : Nat) (s : State) : Out :=
  act (fun b =>
    if core < 4 && b.cru.dbgState == 1 && b.inMode mHalt && larkspurRuns core b then
      updCru (fun c => { c with halted := setBit c.halted core }) b
    else b) s

/-- `DBG_CORE_RESUME`. -/
def execDbgCoreResume (core : Nat) (s : State) : Out :=
  act (fun b =>
    if core < 4 && b.cru.dbgState == 1 then updCru (fun c => { c with halted := clrBit c.halted core }) b else b) s

/-! ### DRBG (R420) -/

/-- Crucible runs, and its DRBG with it. -/
def crucRuns (s : Block) : Bool := s.pwr.heldBy == .no && !s.pwr.crucDown && !s.sys.rootDisable

/-- `DRBG_RESEED`. -/
def execDrbgReseed (s : State) : Out :=
  act (fun b => if crucRuns b && b.cru.drbgOk then engOp 11 (updCru (fun c => { c with drbgAt := b.sys.mtime }) b) else b) s

/-- A failed health test: 1 repetition, 2 proportion, 3 start-up. -/
def drbgFailed (kind : Nat) (s : Block) : Block :=
  raise 197 (256 + kind % 4) (countSelfTest 11 true (updCru (fun c => { c with
    drbgOk := false, drbgFails := satInc 255 c.drbgFails, drbgFailKind := kind % 4, drbgFailAt := s.sys.mtime }) s))

/-- `DRBG_HEALTH_FAIL`. -/
def execDrbgHealthFail (kind : Nat) (s : State) : Out :=
  act (fun b => if crucRuns b && b.cru.drbgOk then drbgFailed kind b else b) s

/-- `DRBG_RETEST`, 1 s after the failure. -/
def execDrbgRetest (pass : Bool) (s : State) : Out :=
  act (fun b =>
    if !crucRuns b || b.cru.drbgOk then b
    else
      let b1 := timeAt (b.cru.drbgFailAt + 1000) b
      if pass then
        raise 197 b1.cru.drbgFailKind
          (countSelfTest 11 false (updCru (fun c => { c with drbgOk := true, drbgAt := b1.sys.mtime }) b1))
      else drbgFailed 3 b1) s

/-! ### Credentials and grants (R426, R427, 05 R139) -/

/-- KEYSEL that a TYPE takes (R426). -/
def keyselOk (type sel : Nat) : Bool :=
  match type with
  | 1 => sel ≤ 1
  | 2 => sel == 0
  | _ => sel == 1

/-- The first check of R427 that a credential fails. -/
def credFails (type : Nat) (p : List Byte) (s : Block) : Option Nat :=
  let exp := u64At p 16
  let key := if u8At p 2 == 0 then leBytes 32 (Config.romKey 0).toNat else slotKey 13 s
  if !(u8At p 0 == 1 && u8At p 1 == type && keyselOk type (u8At p 2) && u8At p 3 == 0 && u64At p 24 == 0) then some 1
  else if u64At p 8 != serialNum then some 2
  else if !(s.sys.mtime < exp && exp ≤ s.sys.mtime + 2592000000) then some 3
  else if u8At p 2 == 1 && !slotValid 13 s then some 4
  else if !edVerify key (bytesAt p 0 64) (bytesAt p 64 64) then some 5
  else none

/-- A command whose credential is checked first: a failure raises `EV201`. -/
def withCred (type : Nat) (p : List Byte) (s : Block) (f : Block → CmdRes) : CmdRes :=
  match credFails type p s with
  | none => f (engOp 2 s)
  | some k =>
    let s1 := raise 201 (u8At p 1 * 256 + k) (if k == 5 then engOp 2 s else s)
    refuse (if k == 5 then stAuthFailed else stBadParam) s1

/-- `EV194` with the two EXT entries that put GRANTID and HOLDER into the event log (R427). -/
def grantEvent (what : Nat) (g : Grant) (s : Block) : Block :=
  let rec_ := p32 g.id ++ fixLen 36 g.holder
  let ext := fun o s => logPut 194 4 (u64At rec_ o) (i64At rec_ (o + 8)) (u32At rec_ (o + 16)) s
  ext 20 (ext 0 (raise 194 (g.id % 16777216 * 256 + what) s))

/-- The grant gone: DBG closes with it (R435). -/
def grantGone (s : Block) : Block := evalRefresh (dbgClose (updCru (fun c => { c with grant := none }) s))

def specSecGrantInstall : CmdSpec where
  op := 0x0A02
  role := .mb0
  modes := mWork
  len := lenIs 128
  body := fun _ p s => withCred 1 p s fun s =>
    let g : Grant := ⟨u32At p 4, u64At p 8, u64At p 16, u8At p 2, bytesAt p 32 32⟩
    ok [] (grantEvent (if s.cru.grant.isSome then 3 else 1) g (updCru (fun c => { c with grant := some g }) s))

def specSecGrantRemove : CmdSpec where
  op := 0x0A03
  role := .mb0
  modes := mWork
  len := lenIs 0
  body := fun _ _ s => match s.cru.grant with
    | none => refuse stBadParam s
    | some g => ok [] (grantGone (grantEvent 2 g s))

/-- `GRANT_EXPIRED` (05 R139). -/
def execGrantExpired (s : State) : Out :=
  act (fun b => match b.cru.grant with
    | some g => if g.expiry ≤ b.sys.mtime then grantGone (raise 36 0 { b with cru.grant := none }) else b
    | none => b) s

/-! ### Provisioning (R422–R425) -/

def specSecProvOpen : CmdSpec where
  op := 0x0A04
  role := .mb0
  modes := [.factory]
  len := lenIs 128
  body := fun _ p s => withCred 2 p s fun s =>
    let s1 := { s with sys.provOpen := true }
    ok [] (evalRefresh (enterMode .provision 0x10 (raise 15 (sysLifecycle s1).toNat s1)))

/-- Items replaceable in FIELD, and items whose body is wrapped (Table 14-5). -/
def itemField (i : Nat) : Bool := 3 ≤ i && i ≤ 9 && i != 7
def itemWrapped (i : Nat) : Bool := i == 5 || i == 6

/-- A key injected: `EV198`. -/
def inject (k : Nat) (key : List Byte) (s : Block) : Block := raise 198 (k * 256 + 3) (slotPut k key s)

/-- TAMPER_CFG lies in the ranges of Table 14-7. -/
def tamperCfgOk (b : List Byte) : Bool :=
  ((upto 1 8).all fun k =>
    let o := 4 * (k - 1)
    u8At b o ≤ 3 && 10 ≤ u8At b (o + 1) && u8At b (o + 1) ≤ 200 && u8At b (o + 2) ≤ 1 && u8At b (o + 3) == 0) &&
  (upto 1 4).all fun m =>
    let a := u16At b (32 + 4 * (m - 1))
    let th := u16At b (34 + 4 * (m - 1))
    bits a 14 7 == 0 && 1 ≤ th && th ≤ 1000

/-- An item's plain body put in its place, with its index; `none` where a field is out of range or the length is not the
item's (Table 14-5). -/
def itemPut (i : Nat) (b : List Byte) (s : Block) : Option (Nat × Block) :=
  let x := u8At b 0
  let z3 := allZero (bytesAt b 1 3)
  match i with
  | 1 => if b.length == 32 then some (0, updCru (fun c => { c with siteId := b }) s) else none
  | 2 => if b.length == 32 then some (0, inject 13 b s) else none
  | 3 =>
    if b.length == 36 && x ≤ 3 && z3 then
      let key := b.drop 4
      let s1 := if slotKey (8 + x) s == key then s else updBil (fun y => { y with tokWin := tput y.tokWin x ⟨0, 0⟩ }) s
      some (x, inject (8 + x) key s1)
    else none
  | 4 => if b.length == 32 then some (0, inject 12 b s) else none
  | 5 => if b.length == 32 then some (0, inject 14 b s) else none
  | 6 => if b.length == 20 && x ≤ 3 && z3 then some (x, inject (20 + x) (b.drop 4) s) else none
  | 7 => if b.length == 48 && tamperCfgOk b then some (0, updCru (fun c => { c with tamperCfg := b }) s) else none
  | 8 =>
    let j := u8At b 1
    if 4 < b.length && b.length ≤ 2052 && 1 ≤ x && x ≤ 3 && j ≤ 3 && allZero (bytesAt b 2 2) then
      some (j, updCru (fun c => { c with anchors := (4 * x + j, b.drop 4) :: eraseN (4 * x + j) c.anchors }) s)
    else none
  | 9 =>
    if 4 < b.length && b.length ≤ 4004 && 16 ≤ x && x ≤ 19 && z3 && slotValid x s &&
        Config.leafKey (b.drop 4) == slotPublic x s then
      some (x, updCru (fun c => { c with chains := (x, b.drop 4) :: eraseN x c.chains }) s)
    else none
  | _ => none

/-- The body of a wrapped item, by the private key of slot 4 (R423): item header and wrapped body; none where the tag fails. -/
def itemUnwrap (key hdr w : List Byte) : Option (List Byte) :=
  let kek := hkdf512 (x25519 key (w.take 32)) (leBytes 8 Config.serial.toNat) (ascii "UAZEL-HQ6412 PROV-WRAP v1") 32
  let n := w.length - 16
  gcmOpen kek (bytesAt w 32 12) hdr (bytesAt w 44 (n - 44)) (w.drop n)

/-- A whole item past its mode: header, unwrapping, body, `EV200` (R422, R423). -/
def provItem (p : List Byte) (s : Block) : CmdRes :=
  let i := u16At p 0
  if p.length < 8 || p.length != 8 + u16At p 2 then refuse stBadLength s
  else if !(1 ≤ i && i ≤ 9) || u8At p 4 != b2n (itemWrapped i) || !allZero (bytesAt p 5 3) then refuse stBadParam s
  else if itemWrapped i && p.length < 68 then refuse stBadParam s
  else match if itemWrapped i then itemUnwrap (slotKey 4 s) (p.take 8) (p.drop 8) else some (p.drop 8) with
    | none => refuse stAuthFailed s
    | some b => match itemPut i b s with
      | none => refuse stBadParam s
      | some (x, s1) => ok [] (raise 200 (i * 256 + x) (updCru (fun c => { c with items := setBit c.items i }) s1))

def specSecProvItem : CmdSpec where
  op := 0x0A05
  role := .mb0
  modes := [.provision, .standby]
  len := fun _ => true
  body := fun _ p s =>
    let i := u16At p 0
    if s.sys.mode != .standby || p.length < 2 then provItem p s
    else if 1 ≤ i && i ≤ 9 && !itemField i then refuse stNotInMode s
    else if !grantValid s then refuse stExpert s
    else provItem p s

/-- Every required item is present (Table 14-5). -/
def provComplete (s : Block) : Bool :=
  bit s.cru.items 1 && bit s.cru.items 2 && bit s.cru.items 7 && slotValid 13 s && slotValid 8 s

def specSecProvClose : CmdSpec where
  op := 0x0A06
  role := .mb0
  modes := [.provision]
  len := lenIs 0
  body := fun _ _ s =>
    if !provComplete s then refuse stBadParam s
    else
      let s1 := { s with tag.key := some (fixLen 16 (slotKey 5 s)), sys.provDone := true }
      ok [] (evalRefresh (enterMode .standby 0x10 (dbgClose (raise 15 (sysLifecycle s1).toNat s1))))

/-- A key generated by the DRBG: it invalidates the slot's chain (R424). -/
def keygen (k : Nat) (s : Block) : Block :=
  let (n, s1) := s.draw
  raise 198 (k * 256 + 2) (updCru (fun c => { c with chains := eraseN k c.chains })
    (slotPut k (leBytes 16 (Config.random n).toNat) (engOp 11 s1)))

def specSecKeygen : CmdSpec where
  op := 0x0A07
  role := .mb0
  modes := [.provision, .standby]
  len := fun _ => true
  body := fun _ p s =>
    let k := u8At p 0
    if s.sys.mode == .standby && !grantValid s then refuse stExpert s
    else if !lenIs 4 p then refuse stBadLength s
    else if !(16 ≤ k && k ≤ 19) then refuse stBadParam s
    else if !s.cru.drbgOk then refuse stBusy s
    else
      let s1 := keygen k s
      let pk := slotPublic k s1
      ok (p16 pk.length ++ p16 0 ++ pk) s1

/-! ### Reads -/

/-- The modes of the key and certificate reads (Table 14-13). -/
def mKeys : List Mode := .provision :: mServed

def specSecStatus : CmdSpec where
  op := 0x0A00
  role := .mb0
  modes := mServed
  len := lenIs 0
  body := fun _ _ s => ok (wordBytes ((List.range 24).map fun i => secGlobal i s)) s

def specSecPubkeyRead : CmdSpec where
  op := 0x0A08
  role := .mb0
  modes := mKeys
  len := lenIs 4
  body := fun _ p s =>
    let k := u8At p 0
    if !(k < 64 && slotValid k s && 1 ≤ keyType k s && keyType k s ≤ 6) then refuse stBadParam s
    else
      let pk := slotPublic k s
      ok (p32 (tget s.cru.slots k).attr ++ p16 pk.length ++ p16 0 ++ pk) s

/-- The certificate that WHICH and INDEX name. -/
def certOf (which index : Nat) (s : Block) : Option (List Byte) :=
  match which with
  | 0 => some Config.deviceCert
  | 1 => lookupN index s.cru.chains
  | 2 => lookupN index s.cru.anchors
  | _ => none

def specSecCertRead : CmdSpec where
  op := 0x0A09
  role := .mb0
  modes := mKeys
  len := lenIs 4
  body := fun _ p s =>
    match certOf (u8At p 0) (u8At p 1) s with
    | none => refuse stBadParam s
    | some c =>
      let o := u16At p 2
      if c.length < o then refuse stBadParam s
      else
        let d := (c.drop o).take 4072
        ok (p16 c.length ++ p16 d.length ++ d) s

def tamperBytes (e : TamperEntry) : List Byte :=
  p8 e.source ++ p8 e.cls ++ p8 e.detail ++ p8 (b2n e.test) ++ p32 0 ++ p64 e.mtime ++ pi64 e.wall

def specSecTamperRead : CmdSpec where
  op := 0x0A0A
  role := .mb0
  modes := mServed
  len := lenIs 4
  body := fun _ p s =>
    let f := u8At p 0
    let n := u8At p 1
    if !(f ≤ 63 && 1 ≤ n && n ≤ 64) then refuse stBadParam s
    else
      let l := (s.cru.tamLog.drop f).take n
      ok (p16 l.length ++ p16 0 ++ l.flatMap tamperBytes) s

/-! ### Tamper commands -/

/-- A class 2 source is out of its normal state in MAINTAIN (Table 14-8): ROLE 2 inputs, sensors, balance, site relay. -/
def class2Open (s : Block) : Bool :=
  (upto 1 8).any (fun k => tmpRole k s == 2 && bit s.cru.tmpOpen (k - 1)) || s.cru.mags.any (fun m => m.out) ||
    bit s.cru.tamOut 13 || bit s.cru.tamOut 14

def specSecTamperAck : CmdSpec where
  op := 0x0A0B
  role := .mb0
  modes := [.maintain]
  len := lenIs 0
  body := fun _ _ s =>
    if class2Open s then refuse stBadParam s
    else ok [] (raise 202 0 (updCru (fun c => { c with alarm := false }) s))

def specSecDecommission : CmdSpec where
  op := 0x0A0C
  role := .mb0
  modes := [.standby, .maintain]
  len := lenIs 128
  body := fun r p s => withCred 3 p s fun s =>
    .waits (zeroise 16 0 (updCru (fun c => { c with zcmd := some r }) (respondAccepted r s)))

def specSecTamperTest : CmdSpec where
  op := 0x0A82
  role := .mb0
  modes := mCommission
  len := lenIs 4
  body := fun _ p s =>
    let c := u8At p 0
    let src := u8At p 1
    if !(1 ≤ c && c ≤ 2) then refuse stBadParam s
    else ok [] (raise 192 (2147483648 + src * 65536 + c) (tamperEntry src c 0 true s))

/-! ### Debug and erasure -/

def specSecDebug : CmdSpec where
  op := 0x0A80
  role := .mb0
  modes := mWork
  len := lenIs 4
  body := fun _ p s =>
    match u8At p 0 with
    | 1 =>
      if s.cru.dbgState == 1 then ok [] s
      else ok [] (evalRefresh (raise 196 1 (updCru (fun c => { c with dbgState := 1, dbgOpened := true }) s)))
    | 2 => ok [] (evalRefresh (dbgClose s))
    | _ => refuse stBadParam s

def specSecKeyErase : CmdSpec where
  op := 0x0A81
  role := .mb0
  modes := mStandby
  len := lenIs 4
  body := fun _ p s =>
    let k := u8At p 0
    if !(8 ≤ k && k ≤ 31 && !slotLocked k) then refuse stBadParam s
    else if slotValid k s then ok [] (raise 198 (k * 256 + 4) (slotClear k s))
    else ok [] s

/-! ### Hallmark (R438, R439) -/

/-- The payload of Table 14-11, keys 1 to 21 in order. -/
def hallmarkPayload (nonce : List Byte) (s : Block) : List Byte :=
  let c := s.cru
  let h := fun (b : List Byte) => cborBstr (sha512 b)
  let part := fun n =>
    if tget s.upd.ver n == 0 then cborArr [cborUint n, cborUint 0, cborBstr []]
    else cborArr [cborUint n, cborUint (tget s.upd.ver n).toNat, cborBstr (fixLen 64 (tget s.upd.hash n))]
  let anchor := fun k => (lookupN k c.anchors).map fun d =>
    cborArr [cborUint (k / 4), cborUint (k % 4), cborBstr (sha256 d)]
  cborMap [cborUint serialNum, cborUint sysId.toNat, cborUint (lifecycle s), cborUint s.sys.mode.code,
    cborUint s.sys.mtime, cborInt s.sys.wallOfs, cborArr ((List.range 9).map part),
    cborArr [cborUint s.asy.record.calseq, cborUint s.asy.record.calid, h (calBytes s.asy.record)],
    cborArr [cborUint (u32At s.saf.pset 4), cborUint s.saf.pstate, h s.saf.pset],
    cborArr [cborUint s.cfg.ident, h (cfgImage s)],
    cborArr ((List.range 3).map fun d => cborUint (if (s.dom d).rows.isEmpty then 0 else (s.dom d).hdr.compiler)),
    cborArr [cborUint s.split, cborUint (s.cfg32 0x0001 4 % 8)],
    cborArr (c.tamCnt.map cborUint), cborBool c.alarm, cborBool (c.evalCause == 0), cborUint c.evalCause,
    (match c.grant with
      | some g => cborArr [cborUint g.id, cborUint g.expiry]
      | none => cborNull),
    cborUint c.dbgState, cborArr [cborBstr (slotPublic 1 s), cborBstr (slotPublic 2 s)],
    cborArr ((upto 4 15).filterMap anchor), cborBstr nonce]

def specSecHallmarkGet : CmdSpec where
  op := 0x0A01
  role := .mb0
  modes := mWork
  len := fun p => 4 ≤ p.length && p.length == 4 + u8At p 0
  body := fun _ p s =>
    let n := u8At p 0
    if !(8 ≤ n && n ≤ 64) then refuse stBadParam s
    else
      let doc := coseSign1 (attKid s) (hallmarkPayload (bytesAt p 4 n) s) (slotSign 0)
      let k := inc32 s.cru.hallCnt
      ok doc (raise 199 k (engOp 2 (updCru (fun c => { c with hallCnt := k }) s)))

/-! ### Ethernet TLS (R437) -/

/-- The client's chain leads to an anchor of class 1. -/
def clientOk (chain : List Byte) (s : Block) : Bool :=
  s.cru.anchors.any fun a => a.1 / 4 == 1 && Config.chains chain a.2

/-- A ClientHello on ETH1 or ETH2 that the server takes up: it goes on to the signature with slot 19. -/
def ethTlsAccepts (port : Nat) (tls13 suiteOk : Bool) (chain : List Byte) (s : Block) : Bool :=
  (port == 1 || port == 2) && tls13 && suiteOk && served s && crucRuns s && s.cru.drbgOk &&
    s.lnk.conns.any (fun c => c.port == port && c.service == 0) && !tget s.cru.tls (port - 1) && clientOk chain s

/-- The session's traffic keys, free values of the key exchange, in slots 56 and 57 or 58 and 59. -/
def tlsKeys (port : Nat) (s : Block) : Block :=
  [54 + 2 * port, 55 + 2 * port].foldl (fun s k => sessionKey false k s) s

/-- `ETH_TLS_CLIENTHELLO`. -/
def execEthTlsClienthello (port : Nat) (tls13 suiteOk : Bool) (certChain : List Byte) (s : State) : Out :=
  act (fun b =>
    if !ethTlsAccepts port tls13 suiteOk certChain b then b
    else if !slotValid 19 b then keyMisuse 19 4 10 b
    else if (lookupN 19 b.cru.chains).isNone then b
    else tlsKeys port (engOp 4 (updCru (fun c => { c with tls := tput c.tls (port - 1) true }) b))) s

/-! ### The command rows -/

def execCmdSecStatus (h : Req) (p : List Byte) (s : State) : Out := act (runCmd specSecStatus h p) s
def execCmdSecHallmarkGet (h : Req) (p : List Byte) (s : State) : Out := act (runCmd specSecHallmarkGet h p) s
def execCmdSecGrantInstall (h : Req) (p : List Byte) (s : State) : Out := act (runCmd specSecGrantInstall h p) s
def execCmdSecGrantRemove (h : Req) (p : List Byte) (s : State) : Out := act (runCmd specSecGrantRemove h p) s
def execCmdSecProvOpen (h : Req) (p : List Byte) (s : State) : Out := act (runCmd specSecProvOpen h p) s
def execCmdSecProvItem (h : Req) (p : List Byte) (s : State) : Out := act (runCmd specSecProvItem h p) s
def execCmdSecProvClose (h : Req) (p : List Byte) (s : State) : Out := act (runCmd specSecProvClose h p) s
def execCmdSecKeygen (h : Req) (p : List Byte) (s : State) : Out := act (runCmd specSecKeygen h p) s
def execCmdSecPubkeyRead (h : Req) (p : List Byte) (s : State) : Out := act (runCmd specSecPubkeyRead h p) s
def execCmdSecCertRead (h : Req) (p : List Byte) (s : State) : Out := act (runCmd specSecCertRead h p) s
def execCmdSecTamperRead (h : Req) (p : List Byte) (s : State) : Out := act (runCmd specSecTamperRead h p) s
def execCmdSecTamperAck (h : Req) (p : List Byte) (s : State) : Out := act (runCmd specSecTamperAck h p) s
def execCmdSecDecommission (h : Req) (p : List Byte) (s : State) : Out := act (runCmd specSecDecommission h p) s
def execCmdSecDebug (h : Req) (p : List Byte) (s : State) : Out := act (runCmd specSecDebug h p) s
def execCmdSecKeyErase (h : Req) (p : List Byte) (s : State) : Out := act (runCmd specSecKeyErase h p) s
def execCmdSecTamperTest (h : Req) (p : List Byte) (s : State) : Out := act (runCmd specSecTamperTest h p) s

def specsCru : List CmdSpec :=
  [specSecStatus, specSecHallmarkGet, specSecGrantInstall, specSecGrantRemove, specSecProvOpen, specSecProvItem,
   specSecProvClose, specSecKeygen, specSecPubkeyRead, specSecCertRead, specSecTamperRead, specSecTamperAck,
   specSecDecommission, specSecDebug, specSecKeyErase, specSecTamperTest]

end Sys2Proof.Machine
end

