-- ==== Sys2Proof/Machine/Contactless.lean ====
section
/-!
DEFINITION. Contactless readers and the service tag (15): polls and antenna faults, the card transaction and the use of a
card, the whitelist, the tag's states and commands over RF and over the wired port, the CLS registers and commands.
-/

namespace Sys2Proof.Machine

def updCls (f : Cls → Cls) (s : Block) : Block := { s with cls := f s.cls }
def Block.ant (s : Block) (k : Nat) : Ant := tget s.cls.ants (k - 1)
def updAnt (k : Nat) (f : Ant → Ant) (s : Block) : Block := updCls (fun c => { c with ants := tupd c.ants (k - 1) f }) s

/-- Counters of Table 15-13: 0 READ, 1 REFUSE, 2 AUTHFAIL, 3 DUP, 4 MULTI, 5 LOCAL. -/
def clsCount (i : Nat) (s : Block) : Block := updCls (fun c => { c with cnt := tupd c.cnt i inc32 }) s

def antennas : List Nat := [1, 2, 3, 4]

/-- Fields of the contactless section (Table 15-2). -/
def cardMode (s : Block) : Bool := s.cfg8 0x000A 0 == 1
def cardKey (s : Block) : Nat := s.cfg8 0x000A 1

/-! ### Registers (R465) -/

/-- A card is held on antenna k (R453). -/
def heldOn (k : Nat) (s : Block) : Bool := (s.cls.hold.map fun h => h.ant == k).getD false

/-- `CLS_ANTk_STAT.STATE`. -/
def antState (k : Nat) (s : Block) : Nat :=
  let a := s.ant k
  if !a.held || !clsRuns s then 0
  else if a.fault != 0 then 4
  else if heldOn k s then 3
  else if (s.cls.test.map fun t => t.ant == k).getD false then 2
  else 1

/-- The antenna whose field an engine keeps on now, 0 none: a held card's or a field test's. -/
def engAnt (e : Nat) (s : Block) : Nat :=
  let mine := fun k => if (s.ant k).engine == e then k else 0
  match s.cls.test, s.cls.hold with
  | some t, _ => mine t.ant
  | none, some h => mine h.ant
  | none, none => 0

def antMask (p : Nat → Bool) : Nat := maskOf ((antennas.filter p).map fun k => k - 1)

/-- Global words of Table 15-13. -/
def clsGlobal (i : Nat) (s : Block) : Word :=
  match i with
  | 0 => reg [fld 31 31 (b2n (clsRuns s)), fld 30 30 (b2n s.tag.port), fld 29 29 (b2n s.tag.field),
              fld 28 28 (b2n s.tag.key.isSome), fld 23 20 (antMask fun k => (s.ant k).fault != 0),
              fld 15 12 (antMask fun k => (s.ant k).held && (s.ant k).engine == 1),
              fld 11 8 (antMask fun k => (s.ant k).held && (s.ant k).engine == 0),
              fld 3 0 (antMask fun k => (s.ant k).present)]
  | 1 => reg [fld 31 16 (s.cfg16 0x000A 2), fld 8 8 (b2n (cardMode s)), fld 1 0 (cardKey s)]
  | 2 => reg [fld 31 16 s.cls.gen, fld 10 0 s.cls.wl.length]
  | _ => w32 (tget s.cls.cnt (i - 3))

/-- Word `i` of one antenna's registers (Table 15-14). -/
def antReg (k i : Nat) (s : Block) : Option Word :=
  let a := s.ant k
  match i with
  | 0 => some (reg [fld 31 31 (b2n a.held), fld 30 30 a.engine, fld 29 28 (s.ant8 k 4), fld 26 24 (s.ant8 k 6),
                    fld 23 16 (s.ant8 k 5), fld 11 0 a.outmask])
  | 1 => some (reg [fld 31 29 (antState k s), fld 23 16 a.fault, fld 15 0 a.icoil])
  | 2 => some (reg [fld 31 16 a.reads, fld 15 0 a.errors])
  | _ => none

/-- Word `i` of one engine's registers. -/
def engReg (e i : Nat) (s : Block) : Option Word :=
  match i with
  | 0 => some (reg [fld 31 31 (b2n (engAnt e s != 0)), fld 30 28 (engAnt e s), fld 15 0 (tget s.cls.engs e).round])
  | 1 => some (w32 (tget s.cls.engs e).cnt)
  | _ => none

def recReg (r : TagRec) : Word := reg [fld 31 30 r.state, fld 23 0 r.seq]

/-- Blocks locked by the RF session. -/
def lockCount (s : Block) : Nat := ((List.range 128).filter (bit s.tag.locks ·)).length

/-- Tag registers (Table 15-15), by word from 0x34_0400. -/
def tagReg (i : Nat) (s : Block) : Option Word :=
  let t := s.tag
  match i with
  | 0 => some (reg [fld 31 29 t.st, fld 28 28 (b2n t.session), fld 27 27 (b2n t.pend.isSome),
                    fld 15 8 ((t.pend.map fun w => w.block).getD 0), fld 7 0 (lockCount s)])
  | 1 => some (w32 (t.vh % 65536))
  | 2 => some (w32 t.rfCnt)
  | 3 => some (reg [fld 31 16 t.wrRf, fld 15 0 t.wrWired])
  | 4 => some (w32 t.lastCC)
  | 5 => some (w32 t.toolMin)
  | 6 => some (w32 t.tool)
  | 7 => some (reg [fld 23 16 t.colStep, fld 15 0 t.colCnt])
  | 8 => some (reg [fld 23 16 t.wiredBlock, fld 7 0 t.wiredRes])
  | 9 => some (recReg t.rfrec)
  | 10 => some (recReg t.wrec)
  | 11 => some (w32 t.busyCnt)
  | 12 => some (w32 t.authFail)
  | 13 => some (w32 t.rollFwd)
  | 14 => some (w32 t.eccCnt)
  | 16 | 17 | 18 | 19 => some (w32 (t.locks / 2 ^ (32 * (i - 16))))
  | _ => none

/-- CLS block reads (R465). -/
def rdCls (a : Nat) (s : Block) : Option Word :=
  if a < 0x24 then some (clsGlobal (a / 4) s)
  else if 0x40 ≤ a && a < 0xB0 then some (tget s.cls.card ((a - 0x40) / 4))
  else if 0x100 ≤ a && a < 0x140 then antReg ((a - 0x100) / 16 + 1) (a % 16 / 4) s
  else if 0x200 ≤ a && a < 0x220 then engReg ((a - 0x200) / 16) (a % 16 / 4) s
  else if 0x400 ≤ a && a < 0x450 then tagReg ((a - 0x400) / 4) s
  else none

def wrCls (a : Nat) (s : Block) : Wr :=
  match rdCls a s with
  | none => .berr
  | some _ => .ok s

/-! ### Antenna current (R447) -/

/-- The engine polls antenna k now: claimed, readers running, no field test on it. -/
def polled (k : Nat) (s : Block) : Bool :=
  1 ≤ k && k ≤ 4 && clsRuns s && (s.ant k).held && (s.cls.test.map fun t => t.ant != k).getD true

/-- A decided UID is, or was until now, at an antenna (R450). -/
def cardSeen (uid : List Byte) (s : Block) : Block :=
  updCls (fun c => { c with decided := c.decided.map fun d => if d.uid == uid then { d with seen := s.sys.mtime } else d }) s

/-- The card has left antenna k: a hold on it ends (R453). -/
def cardLeft (k : Nat) (s : Block) : Block :=
  let a := s.ant k
  let s0 := if a.present then cardSeen a.uid s else s
  let s1 := updAnt k (fun a => { a with present := false }) s0
  if heldOn k s1 then updCls (fun c => { c with hold := none }) s1 else s1

/-- The fault cause that the current of antenna k, in mA, shows at its FIELD level, 0 inside the window (22 R608): 1 open,
2 short, 3 detuned. -/
def currentCause (k icoil : Nat) (s : Block) : Nat :=
  let i := 70 + 25 * s.ant8 k 6
  if 100 * icoil < 30 * i then 1
  else if 150 * i < 100 * icoil then 2
  else if 100 * icoil < 75 * i || 125 * i < 100 * icoil then 3 else 0

/-- The antenna current of a poll: the third poll in a row outside the window is a fault. -/
def currentSeen (k icoil : Nat) (s : Block) : Block :=
  let a := s.ant k
  let cause := currentCause k icoil s
  let bad := if cause == 0 then 0 else a.bad + 1
  let s1 := updAnt k (fun a => { a with icoil := min icoil 65535, bad }) (countSelfTest 6 (cause != 0) s)
  if bad < 3 then s1
  else cardLeft k (raise 210 (cause * 65536 + 256 + k) (updAnt k (fun a => { a with fault := cause }) s1))

/-- `ANTENNA_FAULT_CHECK` (R447): the check of a faulted antenna, every 10 s. -/
def execAntennaFaultCheck (ant icoilMA : Nat) (s : State) : Out :=
  act (fun b =>
    if !polled ant b || (b.ant ant).fault == 0 then b
    else
      let bad := currentCause ant icoilMA b != 0
      let b1 := updAnt ant (fun a => { a with icoil := min icoilMA 65535 }) (countSelfTest 6 bad b)
      if bad then b1
      else raise 210 ((b.ant ant).fault * 65536 + ant) (updAnt ant (fun a => { a with fault := 0, bad := 0 }) b1)) s

/-! ### The card transaction (R448–R450) -/

/-- SUBJECT of a card (14 R421). -/
def cardSubject (uid : List Byte) : List Byte := sha256 (1 :: uid)

/-- What a transaction has read by step 5. -/
structure CardRead where
  card    : CardData
  result  : Nat
  rndM    : List Byte
  rndC    : List Byte
  mac     : List Byte
  keyIdx  : Nat
  token   : Option (List Byte)
  deriving DecidableEq, Repr, Inhabited

/-- The identity is proven (R449). -/
def proven (r : CardRead) (s : Block) : Bool := r.result == (if cardMode s then 0 else 1)

/-- Steps 3 and 4 (R449). A stopped DRBG or a card key that cannot be used fails the authentication (14 R416, R420). -/
def cardSteps (c : CardData) (s : Block) : CardRead × Block :=
  let plain := fun r : Nat => (⟨c, r, zeros 16, zeros 16, zeros 16, 0, none⟩ : CardRead)
  let slot := 20 + cardKey s
  let token := c.token.map fun t => t
  if !cardMode s then (plain 1, s)
  else if !c.part4 || !c.app then (plain 3, s)
  else if !s.cru.drbgOk || s.pwr.crucDown then ({ plain 2 with token }, s)
  else if !slotValid slot s then ({ plain 2 with token }, keyMisuse slot 7 8 s)
  else
    let (n, s1) := s.draw
    let m := leBytes 16 (Config.random n).toNat
    let x := fixLen 16 c.rndC
    let good := cmac (slotKey slot s) (0x11 :: c.uid ++ m ++ x) == c.mac
    (⟨c, if good then 0 else 2, m, x, fixLen 16 c.mac, cardKey s, token⟩, engOp 7 s1)

/-- The card record of step 5 (Table 15-13), with `EV208` where `ev` says so. -/
def cardRecord (k use outlet : Nat) (ev : Bool) (r : CardRead) (s : Block) : Block :=
  let c := r.card
  let b := fixLen 12 c.uid
  let w0 := reg [fld 31 24 r.result, fld 23 16 use, fld 11 8 k, fld 7 4 (if c.typeB then 2 else 1), fld 3 0 c.uid.length]
  let w4 := if c.typeB then (0 : Word) else reg [fld 31 16 c.atqa, fld 15 8 c.sak]
  let ws := [w0] ++ bytesWords 3 b ++ [w4] ++ bytesWords 12 (r.rndM ++ r.rndC ++ r.mac) ++
    [lo32 s.sys.mtime, hi32 s.sys.mtime, reg [fld 15 8 r.keyIdx, fld 7 0 outlet]] ++ bytesWords 8 (cardSubject c.uid)
  let s1 := updAnt k (fun a => { a with reads := (a.reads + 1) % 65536 }) (clsCount 0 (updCls (fun x => { x with card := ws }) s))
  if ev then raise 208 (r.result * 16777216 + use * 65536 + k * 256 + outlet) s1 else s1

/-! ### The use of a card (R451–R453) -/

/-- The whitelist entry of a UID. -/
def wlFind (uid : List Byte) (s : Block) : Option (List Byte) :=
  s.cls.wl.find? fun e => u8At e 0 == uid.length && bytesAt e 4 uid.length == uid

/-- An entry permits an outlet (Table 15-5b). -/
def wlPermits (e : List Byte) (n : Nat) : Bool := u16At e 2 == 0 || bit (u16At e 2) (n - 1)

/-- TYPE of the token on the card, 0 none. -/
def tokenType (r : CardRead) : Nat := (r.token.map fun t => u8At t 1).getD 0

/-- The outlet of the antenna with a session OPEN or PARKED, the lowest SESID (order 6). -/
def openOn (mask : Nat) (s : Block) : Option Nat :=
  (outlets.filter fun n => bit mask (n - 1) && ((s.ses n).st == .open || (s.ses n).st == .parked)).foldl (fun best n =>
    match best with
    | none => some n
    | some m => if (s.ses n).sesid < (s.ses m).sesid then some n else some m) none

/-- The maintenance authorisation that a card gives (order 2; 03 Table 3-2). -/
def cardMaintain (s : Block) : Block :=
  if s.sys.trans.isSome then s
  else if s.sys.mode == .standby then enterMode .maintain 0x10 s
  else if s.inMode [.service, .degraded] then cstopBegin 3 { coreTake 0 s with sys.trans := some ⟨.maintain, 0x10, none⟩ }
  else s

/-- A type 2 token on the card for the card's own SUBJECT, which verifies (R452); one that does not is refused (R285). -/
def cardToken (r : CardRead) (s : Block) : Option (List Byte) × Block :=
  match r.token with
  | some t =>
    if u8At t 1 == 2 && bytesAt t 32 32 == cardSubject r.card.uid then
      match tokCheck t true s with
      | none => (some t, s)
      | some (why, _) => (none, tokReject 3 why t s)
    else (none, s)
  | none => (none, s)

/-- Order 6 in the module's own decision (R452): the RESULT and the block after it. -/
def cardAuthorise (n : Nat) (r : CardRead) (s0 : Block) : Nat × Block :=
  let (tok, s) := cardToken r s0
  let subject := cardSubject r.card.uid
  let entry := wlFind r.card.uid s
  let take := fun (lim : Int) (method : Nat) (s : Block) => match tok with
    | some t => if authorises n s then authoriseAny n method (i64At t 16) subject (tokTaken t s)
                else authoriseAny n method lim subject s
    | none => authoriseAny n method lim subject s
  let good := fun e => bit (u8At e 1) 0 && wlPermits e n
  if bit (s.o8 n 8) 0 && proven r s && (entry.map good).getD false then
    (r.result, take ((entry.map fun e => i64At e 16).getD 0) 1 s)
  else if bit (s.o8 n 8) 1 && tok.isSome then (r.result, take 0 2 s)
  else
    let res := if (entry.map fun e => !wlPermits e n).getD false then 5 else 4
    (res, clsCount 1 (authRefused n s))

/-- A type 2 token on a card that no session of the antenna's outlets matches, read without an authorisation, is refused with
reason 7, its TSEQ not consumed (09 R277). -/
def cardUnused (ty mask : Nat) (t : List Byte) (s : Block) : Block := if ty == 2 then (tokenArrived 3 mask t s).2 else s

/-- The card's token is for another SUBJECT than the card's own: an authorisation by the card does not take it (R452). -/
def cardStray (r : CardRead) : Bool :=
  (r.token.map fun t => u8At t 1 == 2 && bytesAt t 32 32 != cardSubject r.card.uid).getD false

/-- Order 6: by the host where split bit 2 is in force (R453), else by the module. -/
def cardOrder6 (k n : Nat) (r : CardRead) (s : Block) : Block :=
  if s.assisted 2 then
    let s1 := cardRecord k 6 n true { r with result := 9 } s
    raise 209 (k * 256 + n) (updCls (fun c => { c with hold := some ⟨k, n, s.sys.mtime⟩ }) s1)
  else
    let (res, s1) := cardAuthorise n r (if cardStray r then cardUnused 2 (s.ant k).outmask (r.token.getD []) s else s)
    cardRecord k 6 n true { r with result := res } s1

/-- The use of a card read at antenna k (Table 15-5a). -/
def cardUse (k : Nat) (r : CardRead) (s0 : Block) : Block :=
  let mask := (s0.ant k).outmask
  let ty := tokenType r
  let t := r.token.getD []
  let subject := cardSubject r.card.uid
  let s := if ty == 1 || ty == 3 then (tokenArrived 3 mask t s0).2 else s0
  let maint := proven r s && ((wlFind r.card.uid s).map fun e => bit (u8At e 1) 1).getD false
  if s.bil.button.isSome && maint then cardMaintain (cardRecord k 2 0 true r s)
  else if s.bil.pp == .reconnectAllowed && bit (s.b8 24) 0 then localAct 1 (clsCount 5 (cardRecord k 3 0 true r s))
  else
    let top := if ty == 2 then matchSession (bytesAt t 32 32) mask s else none
    let stop := if proven r s then matchSession subject mask s else none
    match top, stop, openOn mask s with
    | some n, _, _ => (tokenArrived 3 mask t (cardRecord k 4 n true r s)).2
    | none, some n, _ => stopSession n 2 (cardUnused ty mask t (cardRecord k 5 n true r s))
    | none, none, some n => cardOrder6 k n r s
    | none, none, none => cardUnused ty mask t (cardRecord k (if ty == 1 || ty == 3 then 1 else 7) 0 true r s)

/-- The use of a UID has been decided (R450). -/
def isDecided (uid : List Byte) (s : Block) : Bool := s.cls.decided.any fun d => d.uid == uid

/-- One transaction with one card: suppressed where the use of its UID has been decided (R450). -/
def cardTransaction (k : Nat) (c : CardData) (s : Block) : Block :=
  if isDecided c.uid s then
    clsCount 3 (cardRecord k 0 0 false ⟨c, 6, zeros 16, zeros 16, zeros 16, 0, none⟩ s)
  else
    let (r, s1) := cardSteps c s
    let s2 := if r.result == 2 then clsCount 2 s1 else s1
    cardUse k r (updCls (fun x => { x with decided := ⟨c.uid, s2.sys.mtime⟩ :: x.decided }) s2)

/-- No card to record: the results 7 and 8. -/
def noCard (result : Nat) : CardRead :=
  ⟨⟨[], false, 0, 0, false, false, [], [], none⟩, result, zeros 16, zeros 16, zeros 16, 0, none⟩

/-- A transaction counted on the antenna's engine. -/
def engCount (k : Nat) (s : Block) : Block :=
  updCls (fun c => { c with engs := tupd c.engs (s.ant k).engine fun e => { e with cnt := (e.cnt + 1) % 4294967296 } }) s

/-- The round of an engine's antennas, measured at its lowest one. -/
def engRound (k : Nat) (s : Block) : Block :=
  let e := (s.ant k).engine
  if antennas.any fun j => j < k && (s.ant j).held && (s.ant j).engine == e then s
  else updCls (fun c => { c with engs := tupd c.engs e fun x =>
    { x with round := min (s.sys.mtime - x.roundAt) 65535, roundAt := s.sys.mtime } }) s

/-- What a poll of antenna k finds. -/
def pollFound (k : Nat) (f : PollResult) (s : Block) : Block :=
  let here := fun uid => updAnt k (fun a => { a with present := true, uid })
  let unread := updAnt k (fun a => { a with present := true, uid := if a.present then a.uid else [] })
  match f with
  | .none => cardLeft k s
  | .card c =>
    if !bit (s.ant8 k 4) (b2n c.typeB) then cardLeft k s
    else if (s.ant k).present && (s.ant k).uid == c.uid && isDecided c.uid s then s
    else cardTransaction k c (engCount k (here c.uid (cardLeft k s)))
  | .many => clsCount 4 (cardRecord k 0 0 true (noCard 7) (engCount k (unread s)))
  | .error =>
    cardRecord k 0 0 true (noCard 8)
      (updAnt k (fun a => { a with errors := satInc 65535 a.errors }) (engCount k (unread s)))

/-- `READER_POLL` (R443, R447, R448), with the B-SES of a session that it opens. A shorted antenna reaches the current limit,
which ends the poll (22 R608): nothing is found. -/
def execReaderPoll (ant icoilMA : Nat) (found : PollResult) (s : State) : Out :=
  act (fun b =>
    if !polled ant b || (b.ant ant).fault != 0 then b
    else
      let b1 := engRound ant (currentSeen ant icoilMA b)
      if (b1.ant ant).fault != 0 || currentCause ant icoilMA b == 2 then b1 else drainSes (pollFound ant found b1)) s

/-- `CARD_DEBOUNCE_EXPIRY` (R450). -/
def execCardDebounceExpiry (uid : List Byte) (s : State) : Out :=
  act (fun b =>
    match b.cls.decided.find? fun d => d.uid == uid with
    | some d =>
      if antennas.any fun k => (b.ant k).present && (b.ant k).uid == uid then b
      else updCls (fun c => { c with decided := c.decided.filter fun d => d.uid != uid })
        (timeAt (d.seen + b.cfg16 0x000A 2) b)
    | none => b) s

/-- `CARD_HOLD_EXPIRY` (R453). -/
def execCardHoldExpiry (s : State) : Out :=
  act (fun b => match b.cls.hold with
    | some h => updCls (fun c => { c with hold := none }) (timeAt (h.since + 2000) b)
    | none => b) s

/-! ### Reader commands -/

def specClsStatus : CmdSpec where
  op := 0x0B00
  role := .general
  modes := mServed
  len := lenIs 0
  body := fun _ _ s => ok (wordBytes ((List.range 9).map fun i => clsGlobal i s)) s

def specClsCardRead : CmdSpec where
  op := 0x0B01
  role := .general
  modes := mServed
  len := lenIs 0
  body := fun _ _ s => ok (wordBytes s.cls.card) s

/-- A whitelist entry lies in the ranges of Table 15-5b. -/
def wlOk (e : List Byte) : Bool :=
  let n := u8At e 0
  (n == 4 || n == 7 || n == 10) && u8At e 1 ≤ 3 && allZero (bytesAt e (4 + n) (10 - n)) && u16At e 14 == 0 && 0 ≤ i64At e 16

/-- An entry added in place of the one with its UID. -/
def wlPut (e : List Byte) (l : List (List Byte)) : List (List Byte) :=
  let same := fun x => u8At x 0 == u8At e 0 && bytesAt x 4 10 == bytesAt e 4 10
  if l.any same then l.map fun x => if same x then e else x else l ++ [e]

/-- A changed whitelist: GEN, `EV211`, and the response of the two commands (R452). -/
def wlChanged (l : List (List Byte)) (s : Block) : CmdRes :=
  let g := if l == s.cls.wl then s.cls.gen else (s.cls.gen + 1) % 65536
  let s1 := updCls (fun c => { c with wl := l, gen := g }) s
  ok (p16 g ++ p16 l.length) (if l == s.cls.wl then s1 else raise 211 g s1)

def specClsWlAdd : CmdSpec where
  op := 0x0B02
  role := .general
  modes := mWork
  len := fun p => 4 ≤ p.length && p.length == 4 + 24 * u16At p 0
  body := fun _ p s =>
    let n := u16At p 0
    let es := (List.range n).map fun i => bytesAt p (4 + 24 * i) 24
    let l := es.foldl (fun l e => wlPut e l) s.cls.wl
    if !(1 ≤ n && n ≤ 160 && es.all wlOk) || 1024 < l.length then refuse stBadParam s else
      let g := (s.cls.gen + 1) % 65536
      ok (p16 g ++ p16 l.length) (raise 211 g (updCls (fun c => { c with wl := l, gen := g }) s))

/-- Entries deleted in turn; `none` where a UID is not listed. -/
def wlDrop : List (List Byte) → List (List Byte) → Option (List (List Byte))
  | [], l => some l
  | d :: r, l =>
    let same := fun x => u8At x 0 == u8At d 0 && bytesAt x 4 10 == bytesAt d 2 10
    if l.any same then wlDrop r (l.filter fun x => !same x) else none

def specClsWlDelete : CmdSpec where
  op := 0x0B03
  role := .general
  modes := mWork
  len := fun p => 4 ≤ p.length && p.length == 4 + 12 * u16At p 2
  body := fun _ p s =>
    let n := u16At p 2
    if 300 < n then refuse stBadParam s
    else if bit (u8At p 0) 0 then wlChanged [] s
    else match wlDrop ((List.range n).map fun i => bytesAt p (4 + 12 * i) 12) s.cls.wl with
      | none => refuse stBadParam s
      | some l => wlChanged l s

def specClsWlRead : CmdSpec where
  op := 0x0B04
  role := .general
  modes := mServed
  len := lenIs 4
  body := fun _ p s =>
    let n := u16At p 2
    if !(1 ≤ n && n ≤ 169) then refuse stBadParam s
    else
      let l := (s.cls.wl.drop (u16At p 0)).take n
      ok (p16 l.length ++ p16 s.cls.gen ++ l.flatten) s

/-- A card transaction or a field test keeps antenna k. -/
def antBusy (k : Nat) (s : Block) : Bool :=
  heldOn k s || (s.cls.test.map fun t => t.ant == k).getD false

/-- Antenna k claimed for an engine, or released (op 0): `EV212` where the claim changes. -/
def antClaim (k op mask : Nat) (s : Block) : Block :=
  let a := s.ant k
  let was := if a.held then a.engine + 1 else 0
  let s1 := updAnt k (fun a => { a with
    held := op != 0, engine := if op == 0 then a.engine else op - 1, outmask := if op == 0 then a.outmask else mask
    present := a.present && op != 0 }) { s with pin.holder := tput s.pin.holder (5 + k) (if op == 0 then 0 else 6 + op) }
  if was == op then s1 else raise 212 (op * 256 + k) s1

def specClsAntAssign : CmdSpec where
  op := 0x0B05
  role := .general
  modes := mWork
  len := lenIs 4
  body := fun _ p s =>
    let k := u8At p 0
    let o := u8At p 1
    let m := u16At p 2
    if !(1 ≤ k && k ≤ 4 && o ≤ 2) || m ≥ 4096 || !((outlets.all fun n => !bit m (n - 1) || s.fitted n)) ||
        (o != 0 && s.ant8 k 4 == 0) then refuse stBadParam s
    else if antBusy k s then refuse stBusy s
    else if o == 0 then ok [] (antClaim k 0 m s)
    else match claim (5 + k) (6 + o) s with
      | (false, s1) => refuse stResourceHeld s1
      | (true, _) => ok [] (antClaim k o m s)

def specClsApdu : CmdSpec where
  op := 0x0B06
  role := .general
  modes := [.service, .degraded, .maintain]
  len := fun p => 4 ≤ p.length && p.length == 4 + u16At p 2
  body := fun _ p s =>
    let n := u16At p 2
    if !(4 ≤ n && n ≤ 261 && bit s.split 2 && heldOn (u8At p 0) s) then refuse stBadParam s
    else
      let (i, s1) := s.draw
      let d := (Config.apdu i (bytesAt p 4 n)).take 4076
      ok (p16 d.length ++ p16 0 ++ d) s1

def specClsFieldTest : CmdSpec where
  op := 0x0B82
  role := .general
  modes := mCommission
  len := lenIs 4
  body := fun r p s =>
    let k := u8At p 0
    let f := u8At p 1
    let d := u16At p 2
    if !(1 ≤ k && k ≤ 4 && f ≤ 7 && 100 ≤ d && d ≤ 60000 && (s.ant k).held) then refuse stBadParam s
    else if s.cls.test.isSome || antBusy k s then refuse stBusy s
    else .accepted (updCls (fun c => { c with test := some ⟨k, f, s.sys.mtime + d, r⟩ }) s)

/-- `CLS_FIELD_TEST_END`. -/
def execClsFieldTestEnd (icoilMA : Nat) (s : State) : Out :=
  act (fun b => match b.cls.test with
    | some t => complete t.cmd stOk (p16 (min icoilMA 65535) ++ p16 0) (updCls (fun c => { c with test := none }) (timeAt t.ends b))
    | none => b) s

/-! ### The tag over RF (R454–R459, R462) -/

/-- An answer over RF: data, then the status word. The data of a session is kept here before its encryption. -/
def tagSay (data : List Byte) (sw : Nat) (s : Block) : Block :=
  updTag (fun t => { t with tx := data ++ [BitVec.ofNat 8 (sw / 256), BitVec.ofNat 8 sw] }) s

/-- `TAG_FIELD_ON` (R454, R455): the roll-forward comes before any answer. -/
def execTagFieldOn (vhMV : Nat) (s : State) : Out :=
  act (fun b => if b.tag.field then b
    else rollForward (tagRaise 213 256 (updTag (fun t => { t with field := true, vh := vhMV, st := 1, rats := false }) b))) s

/-- A collapse with a write pending (Table 15-9): before W4 the write is abandoned; W4 completes from the module's supply,
and without one either image stands; after W4 the new data stands. -/
def collapse (w : RfWrite) (s : Block) : Block :=
  let s1 := tagRaise 216 (w.block * 256 + w.step) (updTag (fun t => { t with
    colCnt := satInc 65535 t.colCnt, colStep := w.step }) s)
  if w.step < 4 then updTag (fun t => { t with pend := none }) s1
  else if hasSupply s1 then (if s1.tag.rfrec.state == 1 then rfApply w s1 else rollForward (rfCommit w s1))
  else if s1.tag.rfrec.state == 1 then s1
  else
    let (n, s2) := s1.draw
    if Config.freeBit n then rfCommit w s2 else updTag (fun t => { t with pend := none }) s2

/-- `TAG_FIELD_LOST` (R455). -/
def execTagFieldLost (s : State) : Out :=
  act (fun b =>
    if !b.tag.field then b
    else
      let b1 := match b.tag.pend with
        | some w => collapse w b
        | none => b
      tagRaise 213 0 (tagSessionEnd (updTag (fun t => { t with field := false, vh := 0, st := 0, rats := false }) b1))) s

/-- READY with a new random UID (Table 15-1). -/
def tagReady (s : Block) : Block :=
  let (n, s1) := s.draw
  updTag (fun t => { t with st := 2, uid := 0x08 :: leBytes 3 (Config.random n).toNat }) s1

/-- `TAG_REQA`: REQA, or WUPA (Table 15-6). -/
def execTagReqa (wupa : Bool) (s : State) : Out :=
  act (fun b => match b.tag.st with
    | 1 => tagReady b
    | 2 => updTag (fun t => { t with st := 1 }) b
    | 4 => if wupa then updTag (fun t => { t with st := 2 }) b else b
    | _ => b) s

/-- `TAG_SELECT`. -/
def execTagSelect (uid : List Byte) (s : State) : Out :=
  act (fun b =>
    if b.tag.st != 2 then b
    else if uid == b.tag.uid then updTag (fun t => { t with st := 3, rats := false, rfCnt := inc32 t.rfCnt }) b
    else updTag (fun t => { t with st := 1 }) b) s

/-- `TAG_OTHER_FRAME`. -/
def execTagOtherFrame (s : State) : Out :=
  act (fun b => if b.tag.st == 2 then updTag (fun t => { t with st := 1 }) b else b) s

/-- `TAG_RATS` (R444): the ATS with FSCI 8, FWI 8, SFGI 0, no CID, no NAD; its bytes are those of ISO/IEC 14443-4
(PRESUMED). -/
def execTagRats (s : State) : Out :=
  act (fun b => if b.tag.st == 3 && !b.tag.rats then
      updTag (fun t => { t with rats := true, tx := [0x04, 0x68, 0x80, 0x00] }) b
    else b) s

/-- `TAG_HALT`: HLTA before RATS, or S(DESELECT). -/
def execTagHalt (deselect : Bool) (s : State) : Out :=
  act (fun b =>
    if b.tag.st == 3 && deselect == b.tag.rats then
      tagSessionEnd (updTag (fun t => { t with st := 4, rats := false }) (rfFinish b))
    else if b.tag.st == 2 then updTag (fun t => { t with st := 1 }) b
    else b) s

/-- A tag command of Table 15-8: the tag is ACTIVE in ISO/IEC 14443-4 operation; a write that the tool left pending has ended
before the next command; within a session SSC rises. -/
def tagCmd (f : List Host.Cell → Block → Block) (m : List Host.Cell) (b : Block) : Block :=
  if b.tag.st != 3 || !b.tag.rats then b
  else
    let b1 := rfFinish b
    f (applyWrites b1.tag.out m) (if b1.tag.session then updTag (fun t => { t with ssc := (t.ssc + 1) % 4294967296 }) b1 else b1)

/-- A command whose CCM tag is wrong ends the session with 6988 (R458). -/
def inSession (ccmOk : Bool) (f : Block → Block) (s : Block) : Block :=
  if s.tag.session && !ccmOk then tagSay [] 0x6988 (tagSessionEnd s) else f s

/-- `TAG_GET_INFO`. -/
def execTagGetInfo (s : State) : Out :=
  lift (tagCmd fun _ b => tagSay (p8 1 ++ p8 (b2n b.tag.key.isSome)) 0x9000 b) s

/-- K_t of a tool (R458). -/
def toolKey (key : List Byte) (tool : Nat) : List Byte :=
  aesEnc key ([0x55, 0x5A, 0x54, 0x4C] ++ p32 tool ++ zeros 8)

def tagMac (kt : List Byte) (pre : Byte) (a b : List Byte) : List Byte := cmac kt (pre :: a ++ b)

/-- AUTH1 (R458): refused without a key, below TOOLMIN, or within 1 s of a failure; a session that runs ends. -/
def tagAuth1 (tool : Nat) (rndT : List Byte) (s : Block) : Block :=
  match s.tag.key with
  | none => tagSay [] 0x6983 s
  | some key =>
    if tool < s.tag.toolMin || s.tag.blocked then tagSay [] 0x6983 s
    else
      let (n, s1) := (tagSessionEnd s).draw
      let g := leBytes 16 (Config.random n).toNat
      let t := fixLen 16 rndT
      tagSay (g ++ tagMac (toolKey key tool) 1 t g) 0x9000
        (updTag (fun x => { x with auth1 := some tool, rndT := t, rndG := g }) s1)

/-- `TAG_AUTH1`. -/
def execTagAuth1 (toolId : Nat) (rndT : List Byte) (s : State) : Out := lift (tagCmd fun _ b => tagAuth1 toolId rndT b) s

/-- AUTH2 (R458): the session, or 6983 with the counter, `EV214`, and AUTH1 refused for 1 s. -/
def tagAuth2 (macT : List Byte) (s : Block) : Block :=
  match s.tag.auth1, s.tag.key with
  | some tool, some key =>
    if tagMac (toolKey key tool) 2 s.tag.rndG s.tag.rndT == macT then
      tagRaise 214 (tool % 65536 * 65536 + 256) (tagSay (p32 s.tag.lastCC ++ p32 s.tag.toolMin) 0x9000
        (updTag (fun t => { t with session := true, auth1 := none, tool, ssc := 0 }) s))
    else
      tagRaise 214 (tool % 65536 * 65536) (tagSay [] 0x6983
        (updTag (fun t => { t with auth1 := none, blocked := true, blockedAt := s.sys.mtime, authFail := inc32 t.authFail }) s))
  | _, _ => tagSay [] 0x6983 s

/-- `TAG_AUTH2`. -/
def execTagAuth2 (macT : List Byte) (s : State) : Out := lift (tagCmd fun _ b => tagAuth2 macT b) s

/-- `TAG_AUTH_BLOCK_END` (R458). -/
def execTagAuthBlockEnd (s : State) : Out :=
  act (fun b => if b.tag.blocked then updTag (fun t => { t with blocked := false }) (timeAt (b.tag.blockedAt + 1000) b) else b) s

/-- Access to a block over RF (Table 15-7): 0 none, 1 read without a session, 2 read in a session. -/
def rfAccess (k : Nat) : Nat :=
  if k == 0 || (8 ≤ k && k ≤ 15) || (48 ≤ k && k ≤ 51) then 1
  else if (16 ≤ k && k ≤ 47) || (64 ≤ k && k ≤ 255) then 2 else 0

/-- READ (Table 15-8). A block that cannot be read (21 Table 21-3) is answered with a status word that the spec does not
give: a free value. -/
def tagRead (block : Nat) (m : List Host.Cell) (s : Block) : Block :=
  if 256 ≤ block then tagSay [] 0x6A82 s
  else if rfAccess block == 0 || (rfAccess block == 2 && !s.tag.session) then tagSay [] 0x6982 s
  else if s.tag.bad.contains block then
    let (n, s1) := s.draw
    tagSay [] ((Config.freeWord n).toNat % 65536) s1
  else tagSay (memBytes (128 * block) 128 m) 0x9000 s

/-- `TAG_READ`. -/
def execTagRead (block : Nat) (ccmOk : Bool) (s : State) : Out :=
  lift (tagCmd fun m b => inSession ccmOk (tagRead block m) b) s

/-- WRITE (R459): the checks, then the steps of Table 15-9 as far as `step`, 6 for its end. -/
def tagWrite (block cc : Nat) (data : List Byte) (step : Nat) (s : Block) : Block :=
  let w : RfWrite := ⟨block, cc, fixLen 128 data, step⟩
  let r := s.tag.rfrec
  if 256 ≤ block then tagSay [] 0x6A82 s
  else if !(64 ≤ block && block ≤ 127) || !s.tag.session then tagSay [] 0x6982 s
  else if s.tag.lastCC < cc then
    if step ≤ 4 then updTag (fun t => { t with pend := some w, tx := [] }) s
    else
      let s1 := tagSay [] 0x9000 (rfCommit w (updTag (fun t => { t with pend := some w }) s))
      if step == 5 then s1 else rfApply w s1
  else if cc == s.tag.lastCC && r.state != 0 && r.block == block && r.crc == crc32 w.data then tagSay [] 0x6310 s
  else tagSay [] 0x6985 s

/-- `TAG_WRITE`. -/
def execTagWrite (block cc : Nat) (data : List Byte) (ccmOk : Bool) (step : Nat) (s : State) : Out :=
  lift (tagCmd fun _ b => inSession ccmOk (tagWrite block cc data step) b) s

/-- LOCK and UNLOCK (R462): `EV217`. -/
def tagLocks (first count : Nat) (on : Bool) (s : Block) : Block :=
  if count == 0 || 256 < first + count then tagSay [] 0x6A82 s
  else if first < 128 || !s.tag.session then tagSay [] 0x6982 s
  else
    let l := (upto (first - 128) (first - 129 + count)).foldl (fun l j => putBit l j on) s.tag.locks
    tagRaise 217 (b2n on * 65536 + first * 256 + count) (tagSay [] 0x9000 (updTag (fun t => { t with locks := l }) s))

/-- `TAG_LOCK`. -/
def execTagLock (first count : Nat) (ccmOk : Bool) (s : State) : Out :=
  lift (tagCmd fun _ b => inSession ccmOk (tagLocks first count true) b) s

/-- `TAG_UNLOCK`. -/
def execTagUnlock (first count : Nat) (ccmOk : Bool) (s : State) : Out :=
  lift (tagCmd fun _ b => inSession ccmOk (tagLocks first count false) b) s

/-! ### The wired port (R457, R460, R461) -/

/-- `TAG_PORT_RETRY`: the session set up again from the key of slot 5, or still faulted. -/
def execTagPortRetry (pass : Bool) (s : State) : Out :=
  act (fun b =>
    if b.tag.port || b.tag.key.isNone || !crucRuns b || !slotValid 5 b then b
    else if !pass then raise 220 256 b
    else
      let (n, b1) := b.draw
      raise 220 0 (updTag (fun t => { t with port := true }) (slotPut 62 (leBytes 16 (Config.random n).toNat) b1))) s

/-- A wired access recorded: 0 done, 2 locked, 3 port fault. -/
def wiredDone (block res : Nat) (s : Block) : Block := updTag (fun t => { t with wiredBlock := block, wiredRes := res }) s

/-- A pending RF write of a block in a range ends before a wired access to it (Table 15-10). -/
def wiredMeets (first count : Nat) (s : Block) : Block :=
  match s.tag.pend with
  | some w => if first ≤ w.block && w.block < first + count then rfFinish s else s
  | none => s

/-- The wired access to blocks that no one reads is refused. -/
def wiredReads (first count : Nat) : Bool :=
  1 ≤ count && count ≤ 31 && first + count ≤ 256 &&
    (upto first (first + count - 1)).all fun k => !(1 ≤ k && k ≤ 7) && !(52 ≤ k && k ≤ 63)

/-- `CMD_CLS_TAG_READ` with the tag's memory. -/
def specClsTagRead (m : List Host.Cell) : CmdSpec where
  op := 0x0B10
  role := .general
  modes := .zeroised :: mServed
  len := lenIs 4
  body := fun _ p s =>
    let k := u8At p 0
    let n := u8At p 1
    if !wiredReads k n then refuse stBadParam s
    else if !wiredOk s then refuse stInternal (wiredDone k 3 s)
    else
      let s1 := wiredMeets k n s
      if (upto k (k + n - 1)).any (fun j => s1.tag.bad.contains j && !s1.tag.out.any (covers j)) then
        refuse stInternal (wiredDone k 0 s1)
      else ok (memBytes (128 * k) (128 * n) (applyWrites s1.tag.out m)) (wiredDone k 0 (if s1.tag.port then engOp 8 s1 else s1))

def specClsTagWrite : CmdSpec where
  op := 0x0B11
  role := .general
  modes := mWork
  len := fun p => 4 ≤ p.length && p.length == 4 + 128 * u8At p 1
  body := fun _ p s =>
    let k := u8At p 0
    let n := u8At p 1
    let d := p.drop 4
    if !(128 ≤ k && 1 ≤ n && n ≤ 3 && k + n ≤ 256) then refuse stBadParam s
    else if !wiredOk s then refuse stInternal (wiredDone k 3 s)
    else match (upto k (k + n - 1)).filter fun j => bit s.tag.locks (j - 128) with
      | j :: _ =>
        .done (raise 218 (j * 256 + 2) (wiredDone k 2 (updTag (fun t => { t with busyCnt := inc32 t.busyCnt }) s))) stBusy (p8 2)
      | [] =>
        ok [] (wiredDone k 0 (updTag (fun t => { t with
          out := t.out ++ [(128 * k, d)], wrWired := (t.wrWired + 1) % 65536
          wrec := ⟨2, (t.wrec.seq + 1) % 4294967296, k, n, 0, crc32 d⟩ }) (if s.tag.port then engOp 8 s else s)))

def specClsToolkeyIssue : CmdSpec where
  op := 0x0B80
  role := .general
  modes := [.standby, .maintain, .commission]
  len := lenIs 4
  body := fun _ p s =>
    match s.tag.key with
    | none => refuse stInternal s
    | some key =>
      if u32At p 0 < s.tag.toolMin then refuse stBadParam s
      else if !s.tag.port then refuse stInternal (wiredDone 3 3 s)
      else ok (toolKey key (u32At p 0)) (wiredDone 3 0 (engOp 8 s))

def specClsToolminSet : CmdSpec where
  op := 0x0B81
  role := .general
  modes := mWork
  len := lenIs 4
  body := fun _ p s =>
    if u32At p 0 < s.tag.toolMin then refuse stBadParam s
    else if !wiredOk s then refuse stInternal (wiredDone 3 3 s)
    else ok [] (wiredDone 3 0 (updTag (fun t => { t with toolMin := u32At p 0 }) s))

/-! ### The command rows -/

def execCmdClsStatus (h : Req) (p : List Byte) (s : State) : Out := act (runCmd specClsStatus h p) s
def execCmdClsCardRead (h : Req) (p : List Byte) (s : State) : Out := act (runCmd specClsCardRead h p) s
def execCmdClsWlAdd (h : Req) (p : List Byte) (s : State) : Out := act (runCmd specClsWlAdd h p) s
def execCmdClsWlDelete (h : Req) (p : List Byte) (s : State) : Out := act (runCmd specClsWlDelete h p) s
def execCmdClsWlRead (h : Req) (p : List Byte) (s : State) : Out := act (runCmd specClsWlRead h p) s
def execCmdClsAntAssign (h : Req) (p : List Byte) (s : State) : Out := act (runCmd specClsAntAssign h p) s
def execCmdClsApdu (h : Req) (p : List Byte) (s : State) : Out := act (runCmd specClsApdu h p) s
def execCmdClsFieldTest (h : Req) (p : List Byte) (s : State) : Out := act (runCmd specClsFieldTest h p) s
def execCmdClsTagRead (h : Req) (p : List Byte) (s : State) : Out := lift (fun m => runCmd (specClsTagRead m) h p) s
def execCmdClsTagWrite (h : Req) (p : List Byte) (s : State) : Out := act (runCmd specClsTagWrite h p) s
def execCmdClsToolkeyIssue (h : Req) (p : List Byte) (s : State) : Out := act (runCmd specClsToolkeyIssue h p) s
def execCmdClsToolminSet (h : Req) (p : List Byte) (s : State) : Out := act (runCmd specClsToolminSet h p) s

/-- The contactless commands; one of them reads the tag's memory. -/
def specsCls (m : List Host.Cell) : List CmdSpec :=
  [specClsStatus, specClsCardRead, specClsWlAdd, specClsWlDelete, specClsWlRead, specClsAntAssign, specClsApdu,
   specClsTagRead m, specClsTagWrite, specClsToolkeyIssue, specClsToolminSet, specClsFieldTest]

end Sys2Proof.Machine
end

