-- ==== Sys2Proof/Machine/Update.lean ====
section
/-!
DEFINITION. Firmware update (19): frames and host commands of the update session, erasure, verification, schedule, the two
ways an activation runs, the modem images, and the UPD registers.
-/

namespace Sys2Proof.Machine

/-- Bylith serves the update session. -/
def updRuns (s : Block) : Bool :=
  s.pwr.heldBy == .no && !bylithDown s && !s.inMode [.outage, .zeroised, .selftest]

/-! ### Frames of the mains link (R540–R542) -/

/-- OPEN from a head-end (R541, R538). -/
def updOpenFrame (src updid : Nat) (s : Block) : Block :=
  if s.upd.st != .idle then (if updid == s.upd.updid then updReport src s else updRefused 8 1 s)
  else match claim 5 5 s with
    | (false, s1) => updRefused 8 1 s1
    | (true, s1) => updOpen 1 updid s1

/-- A header that fails: the refusal, and the end of the session (R535). -/
def updHeaderRefused (reason : Nat) (s : Block) : Block := updEnd (updRefused reason s.upd.transport s)

/-- Every unit is received: VERIFYING, over the mains link (Table 19-4). -/
def updAllHere (s : Block) : Block :=
  if s.upd.st == .receiving && s.upd.transport == 1 && firstMissing s == 0xFFFFFFFF then updGo .verifying s else s

/-- Pieces 0 to 2 are held in RAM until the header can be checked. -/
def updHeadPiece (k : Nat) (d : List Byte) (s : Block) : Block :=
  if (lookupN k s.upd.head).isSome then updCount 1 s
  else
    let s1 := updUpd (fun u => { u with head := (k, d) :: u.head }) s
    match lookupN 0 s1.upd.head, lookupN 1 s1.upd.head, lookupN 2 s1.upd.head with
    | some a, some b, some c =>
      let h := (a ++ b ++ c).take 512
      match headerFails h s1 with
      | some (why, _) => updHeaderRefused why s1
      | none => headerAccepted h (engOp 2 s1)
    | _, _, _ => s1

/-- A unit programmed: its bit in the received map, and the counter. -/
def updUnit (k : Nat) (d : List Byte) (s : Block) : Block :=
  updCount 0 (updUpd (fun u => { u with units := (k, d) :: u.units }) s)

/-- A piece (R541). -/
def updPiece (updid k : Nat) (d : List Byte) (s : Block) : Block :=
  if s.upd.st == .idle || s.upd.transport != 1 || updid != s.upd.updid then updCount 2 s
  else match s.upd.st with
    | .header => if k ≤ 2 then updHeadPiece k (fixLen 192 d) s else updCount 2 s
    | .erasing => updCount 2 s
    | _ =>
      if s.upd.total ≤ k then updCount 2 s
      else if unitHeld k s then updCount 1 s
      else if s.upd.st == .receiving then updAllHere (updUnit k (fixLen 192 d) s)
      else updCount 2 s

/-- A schedule names a staged session and lies in the ranges of R540. -/
def schedNamed (updid m : Nat) (s : Block) : Bool :=
  (s.upd.st == .staged || s.upd.st == .scheduled) && updid == s.upd.updid && 1 ≤ m && m ≤ 10080

/-- SCHEDULE: refused with reason 10 where ACTWALL lies more than the window in the past (R545). -/
def updScheduleFrame (updid m : Nat) (w : Int) (s : Block) : Block :=
  if !schedNamed updid m s then s
  else if schedOk updid m w s then updSchedule m w s
  else updRefused 10 1 s

/-- A session may be cancelled: any state but ACTIVATING. -/
def updCancels (updid : Nat) (s : Block) : Bool := s.upd.st != .idle && s.upd.st != .activating && updid == s.upd.updid

def updCancelFrame (updid : Nat) (s : Block) : Block := if updCancels updid s then updEnd s else s

/-! ### Erasure and verification (R539, R544) -/

/-- `UPD_ERASE_DONE`: RECEIVING; the pieces held in RAM are staged; `CMD_UPD_OPEN` completes. -/
def execUpdEraseDone (s : State) : Out :=
  act (fun b =>
    if b.upd.st != .erasing || !updRuns b then b
    else
      let b1 := updGo .receiving (b.upd.head.reverse.foldl (fun s x => updUnit x.1 x.2 s) { b with upd.units := [] })
      updAllHere (completeOpt b.upd.cmd stOk [] { b1 with upd.head := [], upd.cmd := none })) s

/-- `UPD_VERIFY_DONE` (R544). -/
def execUpdVerifyDone (s : State) : Out :=
  act (fun b => if b.upd.st == .verifying && updRuns b then updVerified b else b) s

/-! ### Activation (R545–R551) -/

/-- A hitless activation up to the Larkspur reset of step 3 (Table 19-5). -/
def activateHitless (s : Block) : Block :=
  let s1 := larkspurReset (handRecords (dueCompleted s))
  { s1 with upd.act := .trial s1.sys.mtime, sys.bankB := !s1.sys.bankB }

/-- `UPD_ACTIVATION_DUE` (R545, R546, R551). -/
def execUpdActivationDue (s : State) : Out :=
  act (fun b =>
    if b.upd.st == .scheduled && updRuns b && b.inMode [.standby, .service, .degraded] && b.sys.trans.isNone &&
        updDue b ≤ b.sys.mtime && b.sys.mtime ≤ updWindowEnd b then
      let b1 := updGo .activating (enterMode .activate 0x11 { b with sys.preActivate := b.sys.mode })
      if updStopping b1 then cstopBegin 9 { b1 with upd.act := .stopping } else activateHitless b1
    else b) s

/-- `UPD_WINDOW_LAPSE` (Table 19-4). -/
def execUpdWindowLapse (s : State) : Out :=
  act (fun b =>
    if b.upd.st == .scheduled && updWindowEnd b ≤ b.sys.mtime && b.pwr.heldBy == .no then
      updUnschedule (updLast 4 0 0xFF b)
    else b) s

/-- `UPD_COMMIT_POINT` (Table 19-5 steps 4 and 5). A changed ASSAY that its log cannot take fails check 3 (21 R579).
A Bylith that has not resumed by t_h + 7.0 s fails check 1. An interrupted activation has no commit point (Table 19-7). -/
def execUpdCommitPoint (s : State) : Out :=
  act (fun b =>
    if b.sys.mode != .activate then b
    else match b.upd.act with
      | .trial t =>
        if b.pwr.larkspurDown && t + 7000 < b.sys.mtime then activateOver (revertPoint 1 0xFF (larkspurReset b))
        else
          let b1 := if b.pwr.larkspurDown then bylithUp b else b
          match assayChange b1 with
          | some b2 => handClear (activateOver (commitPoint b2))
          | none => activateOver (revertPoint 3 2 (larkspurReset b1))
      | _ => b) s

/-- `UPD_REVERT` (R549). -/
def execUpdRevert (code part : Nat) (s : State) : Out :=
  act (fun b => match b.upd.act with
    | .trial _ => activateOver (revertPoint code part (larkspurReset b))
    | _ => b) s

/-- `UPD_STOPPING_RESET` (R551 step 2). -/
def execUpdStoppingReset (s : State) : Out :=
  act (fun b =>
    if b.upd.st == .activating && b.upd.act == .stopping && outletsOpen b && b.pwr.heldBy == .no && b.sys.mode != .outage then
      let b1 := dueCompleted (cstopCheck b)
      let b2 := wholeReset 4 .ready (if metering b1 then commit comFull b1 else b1)
      { b2 with upd.act := .trialStop, sys.bankB := !b2.sys.bankB }
    else b) s

/-! ### Modem images (R550) -/

/-- An outlet has no session. -/
def noSession (n : Nat) (s : Block) : Bool := (s.ses n).st == .idle || (s.ses n).st == .parked

/-- `UPD_GPM_LOAD`: ascending outlet order among the outlets without a session. -/
def execUpdGpmLoad (outlet : Nat) (s : State) : Out :=
  act (fun b =>
    if outletOk outlet && b.upd.gpmLoad == 0 && updRuns b && bit b.upd.gpmPend (outlet - 1) && noSession outlet b &&
        (upto 1 (outlet - 1)).all (fun k => !bit b.upd.gpmPend (k - 1) || !noSession k b) then
      { b with upd.gpmLoad := outlet }
    else b) s

/-- `GPM_LOAD_DONE`: `EV251`. -/
def execGpmLoadDone (outlet : Nat) (failed : Bool) (s : State) : Out :=
  act (fun b =>
    if outletOk outlet && b.upd.gpmLoad == outlet then
      raise 251 (b2n failed * 256 + outlet) (updUpd (fun u => { u with
        gpmLoad := 0, gpmPend := clrBit u.gpmPend (outlet - 1), gpmFail := putBit u.gpmFail (outlet - 1) failed }) b)
    else b) s

/-! ### Registers (R555) -/

/-- The 22 global words (Table 19-10). -/
def updGlobal (i : Nat) (s : Block) : Word :=
  let u := s.upd
  match i with
  | 0 => reg [fld 31 28 u.st.code, fld 27 26 u.transport, fld 25 25 (b2n (bit s.split 8)), fld 24 24 (b2n (onTrial s)),
              fld 15 8 u.reason, fld 7 0 u.vfail]
  | 1 => w32 u.updid
  | 2 => reg [fld 31 24 (hdrParts u.header), fld 23 16 (hdrKeysel u.header), fld 15 8 (hdrRollback u.header)]
  | 3 => w32 u.rollFuse
  | 4 => w32 u.total
  | 5 => w32 u.units.length
  | 6 => w32 (firstMissing s)
  | 7 => lo32 (updDue s)
  | 8 => hi32 (updDue s)
  | 9 => lo32 ((u.sched.map fun x => tc 64 x.1).getD 0)
  | 10 => hi32 ((u.sched.map fun x => tc 64 x.1).getD 0)
  | 11 => w32 ((u.sched.map fun x => x.2).getD 0)
  | 12 => reg [fld 31 24 u.outcome, fld 23 16 u.check, fld 15 8 u.failPart]
  | 13 => w32 u.assayCnt
  | 14 => w32 (b2n (bankRec s))
  | 15 => reg [fld 27 16 u.gpmFail, fld 11 0 u.gpmPend]
  | _ => w32 (tget u.cnt (i - 16))

/-- UPD block reads (R555). -/
def rdUpd (a : Nat) (s : Block) : Option Word :=
  if a < 0x58 then some (updGlobal (a / 4) s)
  else if 0x100 ≤ a && a < 0x148 then
    let x := tget s.upd.parts ((a - 0x100) / 8)
    if a % 8 == 0 then some x.ver
    else some (reg [fld 31 31 (b2n x.carried), fld 30 30 (b2n x.verified), fld 29 29 (b2n x.changed), fld 28 28 (b2n x.integ)])
  else none

def wrUpd (a : Nat) (s : Block) : Wr :=
  match rdUpd a s with
  | none => .berr
  | some _ => .ok s

/-! ### Host commands (R543, R554) -/

def specUpdStatus : CmdSpec where
  op := 0x0F00
  role := .general
  modes := .activate :: mServed
  len := lenIs 0
  body := fun _ _ s => ok (wordBytes ((List.range 22).map fun i => updGlobal i s)) s

def specUpdOpen : CmdSpec where
  op := 0x0F01
  role := .general
  modes := mWork
  len := lenIs 512
  body := fun r p s =>
    if s.upd.st != .idle then refuse stResourceHeld (updRefused 8 2 s)
    else match claim 5 6 s with
      | (false, s1) => refuse stResourceHeld (updRefused 8 2 s1)
      | (true, s1) =>
        let s2 := updOpen 2 (u32At p 8) s1
        match headerFails p s2 with
        | some (why, st) => refuse st (updHeaderRefused why s2)
        | none => .accepted { headerAccepted p (engOp 2 s2) with upd.cmd := some r }

/-- The first half of a block waits; both make the unit (R543). -/
def updHalf (k h : Nat) (d : List Byte) (s : Block) : Block :=
  let other := s.upd.halves.find? fun x => x.1 == (k, 1 - h)
  match other with
  | some x =>
    let img := if h == 0 then d ++ x.2 else x.2 ++ d
    updUnit k img (updUpd (fun u => { u with halves := u.halves.filter fun y => y.1.1 != k }) s)
  | none => updUpd (fun u => { u with halves := ((k, h), d) :: u.halves }) s

def specUpdBlock : CmdSpec where
  op := 0x0F02
  role := .general
  modes := mWork
  len := lenIs 2056
  body := fun _ p s =>
    let k := u32At p 0
    let h := u8At p 4
    if s.upd.st == .idle || s.upd.transport != 2 || s.upd.total ≤ k || 1 < h then refuse stBadParam s
    else if s.upd.st == .erasing then refuse stBusy s
    else if unitHeld k s || s.upd.halves.any (fun x => x.1 == (k, h)) || s.upd.st != .receiving then ok [] s
    else ok [] (updHalf k h (p.drop 8) s)

def specUpdFinish : CmdSpec where
  op := 0x0F03
  role := .general
  modes := mWork
  len := lenIs 0
  body := fun r _ s =>
    if s.upd.st == .receiving && s.upd.transport == 2 && firstMissing s == 0xFFFFFFFF then
      .accepted (updGo .verifying { s with upd.cmd := some r })
    else refuse stBadParam s

def specUpdSchedule : CmdSpec where
  op := 0x0F04
  role := .general
  modes := mWork
  len := lenIs 16
  body := fun _ p s =>
    let id := u32At p 0
    let m := u32At p 4
    let w := i64At p 8
    if !schedNamed id m s then refuse stBadParam s
    else if schedOk id m w s then
      let s1 := updSchedule m w s
      ok (p64 (updDue s1)) s1
    else refuse stBadParam (updRefused 10 2 s)

def specUpdCancel : CmdSpec where
  op := 0x0F05
  role := .general
  modes := mWork
  len := lenIs 8
  body := fun _ p s =>
    let id := u32At p 0
    match u8At p 4 with
    | 1 => if s.upd.st == .scheduled && id == s.upd.updid then ok [] (updUnschedule s) else refuse stBadParam s
    | 2 => if updCancels id s then ok [] (updEnd s) else refuse stBadParam s
    | _ => refuse stBadParam s

/-- Bits packed into bytes, the lowest bit first. -/
def packBits (f : Nat → Bool) (n : Nat) : List Byte :=
  (List.range ((n + 7) / 8)).map fun i =>
    BitVec.ofNat 8 (maskOf ((List.range 8).filter fun j => 8 * i + j < n && f (8 * i + j)))

def specUpdMapRead : CmdSpec where
  op := 0x0F06
  role := .general
  modes := mServed
  len := lenIs 8
  body := fun _ p s =>
    let a := u32At p 0
    let c := u16At p 4
    if !(1 ≤ c && c ≤ 32608) then refuse stBadParam s
    else
      let n := min c (s.upd.total - a)
      ok (p16 n ++ p16 0 ++ packBits (fun i => unitHeld (a + i) s) n) s

def execCmdUpdStatus (h : Req) (p : List Byte) (s : State) : Out := act (runCmd specUpdStatus h p) s
def execCmdUpdOpen (h : Req) (p : List Byte) (s : State) : Out := act (runCmd specUpdOpen h p) s
def execCmdUpdBlock (h : Req) (p : List Byte) (s : State) : Out := act (runCmd specUpdBlock h p) s
def execCmdUpdFinish (h : Req) (p : List Byte) (s : State) : Out := act (runCmd specUpdFinish h p) s
def execCmdUpdSchedule (h : Req) (p : List Byte) (s : State) : Out := act (runCmd specUpdSchedule h p) s
def execCmdUpdCancel (h : Req) (p : List Byte) (s : State) : Out := act (runCmd specUpdCancel h p) s
def execCmdUpdMapRead (h : Req) (p : List Byte) (s : State) : Out := act (runCmd specUpdMapRead h p) s

def specsUpd : List CmdSpec :=
  [specUpdStatus, specUpdOpen, specUpdBlock, specUpdFinish, specUpdSchedule, specUpdCancel, specUpdMapRead]

end Sys2Proof.Machine
end

