-- ==== Sys2Proof/Machine/MainsLink.lean ====
section
/-!
DEFINITION. Mains link (16): windows and blocks, receive checks and what accepted frames do, acknowledgement and repeats,
couplings, commands, and the MLK registers. The rows of update frames act by the functions of Update.
-/

namespace Sys2Proof.Machine

def updMlk (f : Mlk → Mlk) (s : Block) : Block := { s with mlk := f s.mlk }

/-- A counter of Table 16-9: 0 BLK_RX, 1 BLK_FAIL, 2 FRM_RX, 3 FRM_DROP, 4 REPEAT, 5 DUP, 6 DEFER, 7 TXFAIL, 8 ERASED,
9 TXBLK. -/
def mlkCount (k : Nat) (s : Block) : Block := updMlk (fun m => { m with cnt := tupd m.cnt k inc32 }) s

/-! ### Registers (R490) -/

/-- `MLK_STAT` to `MLK_TONE3` by word index; the couplings follow. -/
def mlkGlobal (i : Nat) (s : Block) : Word :=
  let m := s.mlk
  let c := fun o => u8At m.cfg o
  match i with
  | 0 => reg [fld 31 29 m.st, fld 28 28 (b2n m.lock), fld 27 26 m.ph, fld 25 25 (b2n (bit s.split 5)),
              fld 24 24 (b2n (slotValid 14 s))]
  | 1 => reg [fld 31 31 (c 0), fld 30 28 (c 1), fld 27 26 (c 2), fld 25 23 (c 3), fld 21 20 (c 27), fld 15 8 (c 26),
              fld 7 0 (c 25)]
  | 2 => w32 (mlkAddr s)
  | 3 => w32 (u32At m.cfg 8)
  | 4 => w32 (u32At m.cfg 12)
  | 5 => w32 (u32At m.cfg 16)
  | 6 => w32 (u32At m.cfg 20)
  | 7 => reg [fld 31 16 m.bseqRx, fld 15 0 m.bseqTx]
  | 8 => w32 m.fcntTx
  | 9 => reg [fld 23 16 m.txq.length, fld 7 0 m.hostq.length]
  | 20 => reg [fld 23 16 m.lastType, fld 15 8 m.lastPct, fld 7 0 m.lastSrc]
  | 21 => lo32 m.lastAt
  | 22 => hi32 m.lastAt
  | 23 => w32 (tc 32 m.tstep)
  | _ =>
    if i < 20 then w32 (tget m.cnt (i - 10))
    else if i < 32 then
      let h := tget m.heads ((i - 24) / 2)
      if i % 2 == 0 then reg [fld 7 0 h.addr] else w32 h.high
    else if i < 36 then reg [fld 15 0 (tget m.tones (i - 32))]
    else 0

def mlkCp (c i : Nat) (s : Block) : Word :=
  let x := tget s.mlk.cps (c - 1)
  match i with
  | 0 => reg [fld 31 31 (b2n x.fault), fld 30 30 (b2n (bit (s.m8 1) (c - 1))), fld 15 0 x.itx]
  | 1 => reg [fld 15 0 x.noise]
  | 2 => reg [fld 15 0 (tc 16 x.snr)]
  | _ => w32 x.erase

def rdMlk (a : Nat) (s : Block) : Option Word :=
  if a < 0x90 then some (mlkGlobal (a / 4) s)
  else if 0xC0 ≤ a && a < 0xE0 then some (w32 (tget s.mlk.emap ((a - 0xC0) / 4)))
  else if 0x100 ≤ a && a < 0x130 then some (mlkCp ((a - 0x100) / 16 + 1) (a % 16 / 4) s)
  else none

def wrMlk (a : Nat) (s : Block) : Wr :=
  match rdMlk a s with
  | none => .berr
  | some _ => .ok s

/-! ### Frames received (R475–R477) -/

/-- LEN, FLAGS bit, DST, SRC and FCNT of a frame (Table 16-3). -/
def frLen (f : List Byte) : Nat := u16At f 0
def frType (f : List Byte) : Nat := u8At f 2
def frFlag (k : Nat) (f : List Byte) : Bool := bit (u8At f 3) k
def frSrc (f : List Byte) : Nat := u32At f 8
def frFcnt (f : List Byte) : Nat := u32At f 12

/-- BODY. -/
def frBody (f : List Byte) : List Byte := (f.drop 16).take (frLen f - (if frFlag 0 f then 36 else 20))

/-- Length and CRC-32 of a frame are right (check 1). -/
def frCrcOk (f : List Byte) : Bool :=
  let n := frLen f
  (if frFlag 0 f then 36 else 20) ≤ n && n ≤ 256 && f.length == n && crc32 (f.take (n - 4)) == u32At f (n - 4)

/-- The erased fraction in % (R473), rounded down. -/
def frPct (f : RxFrame) : Nat := min 100 (f.erased * 100 / (8 * max (frLen f.raw) 1))

/-- The frame is for this module (check 3). -/
def frMine (f : List Byte) (s : Block) : Bool :=
  let d := u32At f 4
  d == 0xFFFFFFFF || d == mlkAddr s || (d != 0 && [8, 12, 16, 20].any fun o => u32At s.mlk.cfg o == d)

def isHead (a : Nat) : Bool := 1 ≤ a && a ≤ 254

/-- The receive window of a head-end; a head-end without one has every FCNT from 1 unused (R486). -/
def headWin (a : Nat) (s : Block) : TokWin :=
  match s.mlk.heads.find? (fun h => h.addr == a) with
  | some h => ⟨h.high, h.map⟩
  | none => ⟨0, 0⟩

/-- An FCNT used: in the head-end's window, or in the one least recently used, which it replaces (R486). -/
def headUse (a q : Nat) (s : Block) : Block :=
  let w := tokUse (headWin a s) q
  let h : HeadWin := ⟨a, w.high, w.map, s.mlk.useCnt + 1⟩
  let k := match s.mlk.heads.findIdx? (fun h => h.addr == a) with
    | some k => k
    | none => (List.range 4).foldl (fun m i =>
        if (tget s.mlk.heads i).used < (tget s.mlk.heads m).used then i else m) 0
  updMlk (fun m => { m with heads := tput m.heads k h, useCnt := m.useCnt + 1 }) s

/-- The frame's MAC verifies with slot 14 (Crucible requester 12). -/
def frMacOk (f : List Byte) (s : Block) : Bool :=
  let n := frLen f
  slotValid 14 s && !s.pwr.crucDown &&
    (f.drop (n - 20)).take 16 == (hmac256 (tget s.cru.slots 14).key (f.take (n - 20))).take 16

/-- A type requires a MAC (Table 16-5). -/
def macNeeded (t : Nat) : Bool := [3, 4, 6, 9, 10].contains t

/-- What the checks of Table 16-4 decide of a frame. -/
inductive Verdict where
  | crc | erased | ignored | dup | mac | type | toHost | ok
  deriving DecidableEq, Repr

/-- Frames of a type go to the host queue after check 4 (R484, 19 R542). -/
def hostTakes (t : Nat) (s : Block) : Bool := if t == 5 || t == 6 then bit s.split 8 else s.assisted 5

/-- The checks in order; `located` false after a failed codeword or a wrong CRC before it (R477). -/
def verdict (located : Bool) (f : RxFrame) (s : Block) : Verdict :=
  let r := f.raw
  if !located || !frCrcOk r then .crc
  else if f.erased > 2 * frLen r then .erased
  else if !frMine r s || !isHead (frSrc r) then .ignored
  else if hostTakes (frType r) s then .toHost
  else if !tokFresh (headWin (frSrc r) s) (frFcnt r) then .dup
  else if (macNeeded (frType r) && !frFlag 0 r) || (frFlag 0 r && !frMacOk r s) then .mac
  else if frType r == 0 || frType r == 9 || frType r > 11 then .type
  else .ok

/-- `EV225` with its counter (R477). -/
def frDrop (reason idx : Nat) (f : RxFrame) (s : Block) : Block :=
  raise 225 (reason * 65536 + frPct f * 256 + idx) (mlkCount 3 s)

/-- A frame for the host: `EV230`, with OVF and a drop of reason 6 where the queue of 32 is full (R484). -/
def hostTake (idx : Nat) (f : RxFrame) (s : Block) : Block :=
  if s.mlk.hostq.length ≥ 32 then raise 230 (256 + 32) (frDrop 6 idx f s)
  else
    let s1 := updMlk (fun m => { m with hostq := m.hostq ++ [⟨s.sys.mtime, frPct f, f.raw⟩] }) s
    raise 230 s1.mlk.hostq.length s1

/-! ### What frames do (R478–R484) -/

/-- TIME (R481): the offset it states falls due at the next B-SEC. -/
def timeFrame (body : List Byte) (sinceMs : Nat) (s : Block) : Block :=
  let ofs := i64At body 0 - ((s.sys.mtime : Int) - sinceMs)
  if (ofs - s.sys.wallOfs).natAbs ≥ u16At s.mlk.cfg 28 then { s with sys.wallDue := s.sys.wallDue ++ [(ofs, true)] } else s

/-- LOAD_LIMIT (R482, 11 R331). -/
def loadLimitFrame (b : List Byte) (s : Block) : Block :=
  if u32At b 8 == 0 then { s with alc := { s.alc with util := Limit4.off, utilExp := 0, capWhy := 3 } }
  else { s with alc := { s.alc with
    util := ⟨u16At b 0, u16At b 2, u16At b 4, u16At b 6⟩, utilExp := s.sys.mtime + u32At b 8 * 1000, capWhy := 3 } }

/-- UPDATE_CTRL (19 R540). -/
def updateCtrl (src : Nat) (b : List Byte) (s : Block) : Block :=
  match u8At b 0 with
  | 1 => updOpenFrame src (u32At b 4) s
  | 2 => updScheduleFrame (u32At b 4) (u32At b 16) (i64At b 8) s
  | 3 => updCancelFrame (u32At b 4) s
  | 4 => updReport src s
  | _ => s

/-- A frame of the module's own with REPEAT set: MAC and CRC follow (R478, Table 16-3). -/
def asRepeat (f : TxFrame) (s : Block) : TxFrame :=
  let n := frLen f.raw
  let r := putBytes f.raw 3 (p8 (setBit (u8At f.raw 3) 2))
  let r := if frFlag 0 r then
      putBytes r (n - 20) ((hmac256 (tget s.cru.slots 14).key (r.take (n - 20))).take 16) else r
  { f with raw := putBytes r (n - 4) (p32 (crc32 (r.take (n - 4)))), cls := 3 }

/-- Frames that join the queue while it has room for them. -/
def requeue (l : List TxFrame) (s : Block) : Block :=
  updMlk (fun m => { m with txq := m.txq ++ l.take (16 - m.txq.length - m.out.length) }) s

/-- REPEAT_REQ for one of the last 8 blocks sent (R478). -/
def repeatReq (b : List Byte) (s : Block) : Block :=
  match lookupN (u16At b 0) s.mlk.sent with
  | none => s
  | some fs =>
    requeue (((List.range fs.length).filter (bit (u32At b 4))).map fun i => asRepeat (tget fs i) s) s

/-- ACK (R479): the frames named are acknowledged. -/
def ackFrame (b : List Byte) (s : Block) : Block :=
  let q := (List.range (min 16 (u16At b 0))).map fun i => u32At b (4 + 4 * i)
  let open' := fun (f : TxFrame) => !q.contains (frFcnt f.raw)
  updMlk (fun m => { m with await := m.await.filter open', txq := m.txq.filter fun f => f.cls != 3 || open' f }) s

/-- An accepted frame acts (Table 16-5). -/
def frameActs (idx sinceMs : Nat) (f : RxFrame) (s : Block) : Block :=
  let b := frBody f.raw
  let src := frSrc f.raw
  match frType f.raw with
  | 1 => (tokenArrived 2 0xFFF b s).2
  | 2 => (tokenArrived 2 0xFFF b s).2
  | 3 => timeFrame b sinceMs s
  | 4 => loadLimitFrame b s
  | 5 => updPiece (u32At b 0) (u32At b 4) (bytesAt b 8 192) s
  | 6 => updateCtrl src b s
  | 7 => repeatReq b s
  | 8 => ackFrame b s
  | 10 => mlkStatus src s
  | _ => hostTake idx f s

/-- A frame that passed every check: its FCNT used, `EV224`, and what it does. -/
def frAccept (idx sinceMs : Nat) (f : RxFrame) (s : Block) : Block :=
  let r := f.raw
  let s1 := mlkCount 2 (headUse (frSrc r) (frFcnt r) s)
  let s2 := updMlk (fun m => { m with
    lastType := frType r, lastPct := frPct f, lastSrc := frSrc r % 256, lastAt := s.sys.mtime }) s1
  frameActs idx sinceMs f (raise 224 (frType r * 256 + frSrc r % 256) s2)

/-- The MAC operation of check 6, with slot 14 (R477; 14 R416). -/
def macOp (f : RxFrame) (v : Verdict) (s : Block) : Block :=
  if !frFlag 0 f.raw || !(v == .mac || v == .type || v == .ok) then s
  else if slotValid 14 s then engOp 9 s else keyMisuse 14 9 12 s

/-- A verdict carried out. -/
def frOutcome (idx sinceMs : Nat) (f : RxFrame) (v : Verdict) (s0 : Block) : Block :=
  let s := macOp f v s0
  match v with
  | .crc => frDrop 1 idx f s
  | .erased => frDrop 2 idx f s
  | .ignored => s
  | .dup => frDrop 3 idx f (mlkCount 5 s)
  | .mac => frDrop 4 idx f s
  | .type => frDrop 5 idx f s
  | .toHost => hostTake idx f s
  | .ok => frAccept idx sinceMs f s

/-- The module acknowledges the frame: ACKREQ, and accepted, taken for the host, or a duplicate (R479, R484). -/
def acked (v : Verdict) (f : RxFrame) (s : Block) : Bool :=
  frFlag 1 f.raw && (match v with
    | .ok => !(frType f.raw == 11 && s.mlk.hostq.length ≥ 32)
    | .dup => true
    | .toHost => s.mlk.hostq.length < 32
    | _ => false)

/-- An ACK for FCNTs of one head-end, at most 16 in each frame. -/
def sendAck (src : Nat) (q : List Nat) (s : Block) : Block :=
  (List.range ((q.length + 15) / 16)).foldl (fun s i =>
    let l := (q.drop (16 * i)).take 16
    mlkSend 8 0 src 1 (p16 l.length ++ p16 0 ++ l.flatMap p32) s) s

/-- The acknowledgements of a block, by head-end. -/
def sendAcks (l : List (Nat × Nat)) (s : Block) : Block :=
  ((l.map (·.1)).eraseDups).foldl (fun s a => sendAck a ((l.filter fun p => p.1 == a).map (·.2)) s) s

/-- The frames of a block one after the other. -/
structure BlockPass where
  s      : Block
  good   : Bool
  fails  : Nat
  again  : Bool
  acks   : List (Nat × Nat)

def passFrame (sinceMs : Nat) (p : BlockPass) (x : Nat × RxFrame) : BlockPass :=
  let v := verdict p.good x.2 p.s
  let r := x.2.raw
  { s := frOutcome x.1 sinceMs x.2 v p.s
    good := p.good && v != .crc
    fails := if v == .crc || v == .erased then setBit p.fails x.1 else p.fails
    again := p.again || (v == .erased && frFlag 2 r)
    acks := if acked v x.2 p.s then p.acks ++ [(frSrc r, frFcnt r)] else p.acks }

/-- The repeat request of a block with failed frames (R478): `again` where they are repeats that failed. -/
def askRepeat (src bseq map : Nat) (again : Bool) (s : Block) : Block :=
  let k := if (again || s.mlk.rqFor == bseq) && s.mlk.rqCnt != 0 then s.mlk.rqCnt + 1 else 1
  if k > s.m8 27 then s
  else
    let s1 := updMlk (fun m => { m with rqFor := bseq, rqCnt := k }) s
    raise 226 (bseq * 65536 + k)
      (mlkCount 4 (mlkSend 7 0 (if isHead src then src else headEnd s) 2 (p16 bseq ++ p16 0 ++ p32 map) s1))

/-- The link can receive now. -/
def mlkHears (s : Block) : Bool := s.mlk.st != 0 && s.mlk.st != 4 && s.mlk.test.isNone

/-- A value measured on each coupling that takes part; the spec gives no number for it. -/
def cpMeasure (f : Nat → Coupling → Coupling) (s : Block) : Block :=
  (upto 1 3).foldl (fun s c =>
    if cpOn c s then
      let (k, s1) := s.draw
      updMlk (fun m => { m with cps := tupd m.cps (c - 1) (f (Config.freeWord k).toNat) }) s1
    else s) s

/-- What a whole block of 512 data windows says: codewords, header, frames (R470, R472, R477). DEDUCED: the header is readable
where the codewords of BSEQ and NFRM decode and NFRM is at most 31. DESIGN CHOICE: an unreadable header gives the BSEQ of a
repeat request as the inner decoder left it. -/
structure RxHead where
  bseq   : Nat
  hdrOk  : Bool
  codeOk : Bool
  frames : List RxFrame
  src    : Nat

def blockHead (b : RxBlock) (rx : List (List RxSym)) : RxHead :=
  let okc := (List.range 4).map (codewordOk rx b.bytes (blockOf b.data))
  let byte := blockByte okc b.bytes b.data
  let n := byte 2
  let codeOk := okc.all id
  let hdrOk := (okc.take 3).all id && n ≤ 31
  let frames := if !hdrOk then [] else if codeOk then cutFrames rx b.data 4 n else List.replicate n ⟨[], 0⟩
  { bseq := byte 0 + 256 * byte 1, hdrOk, codeOk, frames
    src := ((frames.takeWhile fun f => frCrcOk f.raw).map fun f => frSrc f.raw).headD 0 }

/-- A block received: its registers, its frames in order, the acknowledgements and the repeat request (R477, R478). The mean
SNR over a block is free: the spec does not say what is averaged. -/
def blockTaken (sinceMs : Nat) (h : RxHead) (x : Block) : Block :=
  let x1 := cpMeasure (fun v c => { c with snr := sgn 16 v }) (mlkCount 0 x)
  let x2 := updMlk (fun m => { m with
    emap := erasureMap m.rx, rx := []
    bseqRx := if h.hdrOk && isHead h.src then h.bseq else m.bseqRx }) x1
  let x3 := if h.codeOk then x2 else mlkCount 1 x2
  if !h.hdrOk then askRepeat h.src h.bseq 0xFFFFFFFF false x3
  else
    let p := ((List.range h.frames.length).zip h.frames).foldl (passFrame sinceMs) ⟨x3, h.codeOk, 0, false, []⟩
    let x4 := sendAcks p.acks p.s
    if p.fails == 0 then x4 else askRepeat h.src h.bseq p.fails p.again x4

/-- `MLK_BLOCK_RECEIVED` (R477, R478): the 512 data windows received are a block. -/
def execMlkBlockReceived (b : RxBlock) (s : State) : Out :=
  act (fun x => if mlkHears x && x.mlk.rx.length == 512 then blockTaken b.sinceMs (blockHead b x.mlk.rx) x else x) s

/-- One frame of a type, checked and acted on as a block's only frame. -/
def oneFrame (is : List Byte → Bool) (f : RxFrame) (sinceMs : Nat) (s : Block) : Block :=
  let v := verdict true f s
  if !mlkHears s || !is f.raw || v == .crc || v == .erased then s
  else
    let s1 := frOutcome 0 sinceMs f v s
    if acked v f s then sendAck (frSrc f.raw) [frFcnt f.raw] s1 else s1

def ofType (t : Nat) (f : List Byte) : Bool := frType f == t
def ofCtrl (op : Nat) (f : List Byte) : Bool := frType f == 6 && u8At (frBody f) 0 == op

/-- `MLK_TOKEN_FRAME` (R480, 09 R285). -/
def execMlkTokenFrame (f : RxFrame) (s : State) : Out := act (oneFrame (ofType 1) f 0) s

/-- `MLK_TARIFF_FRAME` (R480, 09 R257). -/
def execMlkTariffFrame (f : RxFrame) (s : State) : Out := act (oneFrame (ofType 2) f 0) s

/-- `MLK_TIME_FRAME` (R481): ms since the first symbol of the block's preamble. -/
def execMlkTimeFrame (f : RxFrame) (sinceMs : Nat) (s : State) : Out := act (oneFrame (ofType 3) f sinceMs) s

/-- `MLK_LOAD_LIMIT_FRAME` (R482). -/
def execMlkLoadLimitFrame (f : RxFrame) (s : State) : Out := act (oneFrame (ofType 4) f 0) s

/-- `MLK_UPDATE_PIECE` (19 R541). -/
def execMlkUpdatePiece (f : RxFrame) (s : State) : Out := act (oneFrame (ofType 5) f 0) s

/-- `MLK_UPDATE_OPEN` (19 R541). -/
def execMlkUpdateOpen (f : RxFrame) (s : State) : Out := act (oneFrame (ofCtrl 1) f 0) s

/-- `MLK_UPDATE_SCHEDULE` (19 R545). -/
def execMlkUpdateSchedule (f : RxFrame) (s : State) : Out := act (oneFrame (ofCtrl 2) f 0) s

/-- `MLK_UPDATE_CANCEL` (19 R539). -/
def execMlkUpdateCancel (f : RxFrame) (s : State) : Out := act (oneFrame (ofCtrl 3) f 0) s

/-- `MLK_UPDATE_REPORT_REQ` (19 R540). -/
def execMlkUpdateReportReq (f : RxFrame) (s : State) : Out := act (oneFrame (ofCtrl 4) f 0) s

/-- `MLK_REPEAT_REQ` (R478). -/
def execMlkRepeatReq (f : RxFrame) (s : State) : Out := act (oneFrame (ofType 7) f 0) s

/-- `MLK_ACK` (R479). -/
def execMlkAck (f : RxFrame) (s : State) : Out := act (oneFrame (ofType 8) f 0) s

/-- `MLK_STATUS_REQ` (R483). -/
def execMlkStatusReq (f : RxFrame) (s : State) : Out := act (oneFrame (ofType 10) f 0) s

/-- `MLK_RAW_FRAME` (R480). -/
def execMlkRawFrame (f : RxFrame) (s : State) : Out := act (oneFrame (ofType 11) f 0) s

/-! ### Windows and blocks (R467, R468, R470, R474, R479) -/

/-- The lock on the reference phase (R468): while its windows come from crossings the link is locked to a phase that is chosen;
while they come from the timer the lock is lost. -/
def mlkFollow (timer : Bool) (s : Block) : Block :=
  let m := s.mlk
  if timer && m.lock then raise 229 m.ph (updMlk (fun m => { m with lock := false, searchAt := s.sys.mtime }) s)
  else if !timer && !m.lock && m.found then raise 229 (256 + m.ph) (updMlk (fun m => { m with lock := true }) s)
  else s

/-- A preamble decoded: the search ends on this phase, and reception begins (R468, R470). -/
def preambleHeard (w : RxWin) (timer : Bool) (s : Block) : Block :=
  updMlk (fun m => { m with
    st := 2, win := 1, clear := 0, wait := none, rx := []
    tones := (preambleLevels w s).map (min 65535) }) (mlkFollow timer (updMlk (fun m => { m with found := true }) s))

/-- A data window of the block being received: its symbols are kept and those erased are counted (R470, R472). DESIGN CHOICE: the
counters of erased symbols count data windows only. -/
def windowReceived (w : RxWin) (s : Block) : Block :=
  if s.mlk.rx.length ≥ 512 then s
  else
    let l := combined w s
    updMlk (fun m => { m with
      win := m.win + 1, rx := m.rx ++ [l]
      cnt := tupd m.cnt 8 fun n => (n + (l.filter (·.erased)).length) % 4294967296 }) (erasedNoted w s)

/-- A window of the block being sent: its 16 tones on every coupling taking part, and their transmit current (R466, R469). -/
def windowSent (s : Block) : Block :=
  cpMeasure (fun v c => { c with itx := v % 65536 })
    (updMlk (fun m => { m with burst := if m.win ≤ 512 then windowTones m.blk m.win else [], win := m.win + 1 }) s)

/-- A window before which frames wait: clear windows and the drawn wait, or a deferral (R474). -/
def windowWaits (clear : Bool) (s : Block) : Block :=
  let m := s.mlk
  if m.txq.isEmpty then s
  else if !clear then
    let s1 := if m.defer == 0 then mlkCount 6 s else s
    let d := m.defer + 1
    let s2 := updMlk (fun m => { m with st := 3, clear := 0, wait := none, defer := d, warned := m.warned || d > 100 }) s1
    if d > 100 && !m.warned then raise 227 (min d 65535) s2 else s2
  else match m.wait with
    | some k => updMlk (fun m => { m with wait := some (k - 1) }) s
    | none =>
      if m.clear + 1 < 2 || !s.cru.drbgOk then updMlk (fun m => { m with clear := min 2 (m.clear + 1) }) s
      else
        let (k, s1) := s.draw
        updMlk (fun m => { m with clear := 2, wait := some ((Config.freeWord k).toNat % 16) }) s1

/-- A window of the running link: sent, received, searched for a preamble, or waited through. -/
def windowOf (w : RxWin) (timer : Bool) (b : Block) : Block :=
  if b.mlk.test.isSome then b
  else if b.mlk.st == 4 then windowSent b
  else if b.mlk.st == 2 then windowReceived w (noiseNoted w b)
  else if preambleIn w b then preambleHeard w timer (noiseNoted w b)
  else windowWaits (windowClear w b) (noiseNoted w b)

/-- `MLK_WINDOW` (R467, R468): one window, as the couplings receive it, at a crossing of the reference phase or where the timer
stands in for it (06 R153). -/
def execMlkWindow (w : RxWin) (timer : Bool) (s : State) : Out :=
  act (fun b => if b.mlk.st == 0 then b else windowOf w timer (mlkFollow timer b)) s

/-- Frames in the order of R479, those that fit in the 760 bytes of a block, at most 31. -/
def packOrder (q : List TxFrame) : List TxFrame := (upto 1 5).flatMap fun c => q.filter fun f => f.cls == c

/-- The frames of the next block, and those that wait for another. -/
def pack (room left : Nat) : List TxFrame → List TxFrame × List TxFrame
  | [] => ([], [])
  | f :: l =>
    if f.raw.length ≤ room && left != 0 then
      let r := pack (room - f.raw.length) (left - 1) l
      (f :: r.1, r.2)
    else
      let r := pack room left l
      (r.1, f :: r.2)

/-- `MLK_TX_BLOCK_START` (R474, R479). -/
def execMlkTxBlockStart (s : State) : Out :=
  act (fun b =>
    let m := b.mlk
    if (m.st == 1 || m.st == 3) && m.test.isNone && !m.txq.isEmpty && m.wait == some 0 then
      let r := pack 760 31 (packOrder m.txq)
      updMlk (fun m => { m with
        st := 4, win := 0, clear := 0, wait := none, defer := 0, warned := false
        out := r.1, txq := r.2, bseqTx := (m.bseqTx + 1) % 65536
        blk := blockOf (blockData ((m.bseqTx + 1) % 65536) r.2.isEmpty r.1) }) b
    else b) s

/-- A changed section 0x000B applies: no block is in progress (R487). -/
def mlkApply (s : Block) : Block :=
  if s.mlk.cfg == s.secBody 0x000B || s.mlk.st == 2 || s.mlk.st == 4 then s
  else
    let old := s.mlk.cfg
    let s1 := { s with mlk.cfg := s.secBody 0x000B }
    if s1.mlk.st == 0 then mlkSync s1
    else if !mlkRuns s1 then mlkOff s1
    else if u8At old 2 == s1.m8 2 then s1
    else mlkSeek s1

/-- `MLK_BLOCK_END` (R479, R487; 01 R29). -/
def execMlkBlockEnd (s : State) : Out :=
  act (fun b =>
    if b.mlk.st == 0 then b
    else
      let b1 := if b.mlk.st == 4 then
          mlkCount 9 (updMlk (fun m => { m with
            st := 1, win := 0, out := [], blk := [], burst := []
            sent := ((m.bseqTx, m.out) :: m.sent).take 8
            await := m.await ++ (m.out.filter fun f => frFlag 1 f.raw).map fun f => { f with sentAt := b.sys.mtime } }) b)
        else if b.mlk.st == 2 then updMlk (fun m => { m with st := 1, win := 0, rx := [] }) b
        else b
      mlkApply (hostReturn 5 b1)) s

/-- `MLK_PHASE_SEARCH_TIMEOUT` (R468): with REFPH auto, 60 s without a preamble move the search to the next phase, and 60 s
without the lock start it again. -/
def execMlkPhaseSearchTimeout (s : State) : Out :=
  act (fun b =>
    let m := b.mlk
    if m.st == 0 || m.lock || b.m8 2 != 3 then b
    else
      let b1 := timeAt (m.searchAt + 60000) b
      if m.found then mlkSeek b1
      else updMlk (fun m => { m with ph := (m.ph + 1) % 3, searchAt := b1.sys.mtime }) b1) s

/-- `MLK_ACK_TIMEOUT` (R479): the frame is sent again unchanged, or given up after RETRY repeats. -/
def execMlkAckTimeout (fcnt : Nat) (s : State) : Out :=
  act (fun b =>
    match b.mlk.await.find? (fun f => frFcnt f.raw == fcnt) with
    | none => b
    | some f =>
      let rest := b.mlk.await.filter fun g => frFcnt g.raw != fcnt
      let b1 := timeAt (f.sentAt + u16At b.mlk.cfg 30 * 1000) b
      if f.tries ≥ b.m8 32 then raise 228 fcnt (mlkCount 7 (updMlk (fun m => { m with await := rest }) b1))
      else if b.mlk.txq.length + b.mlk.out.length ≥ 16 then b1
      else updMlk (fun m => { m with await := rest, txq := m.txq ++ [{ f with cls := 3, tries := f.tries + 1 }] }) b1) s

/-- `MLK_STATUS_TIMER` (R483). -/
def execMlkStatusTimer (s : State) : Out :=
  act (fun b =>
    if b.mlk.st == 0 || u16At b.mlk.cfg 34 == 0 then b
    else
      let b1 := timeAt (b.mlk.statAt + u16At b.mlk.cfg 34 * 60000) b
      mlkStatus (headEnd b1) (updMlk (fun m => { m with statAt := b1.sys.mtime }) b1)) s

/-! ### Couplings (R469) -/

/-- `MLK_COUPLING_FAULT`. -/
def execMlkCouplingFault (coupling : Nat) (s : State) : Out :=
  act (fun b =>
    if 1 ≤ coupling && coupling ≤ 3 && b.mlk.st != 0 && cpOn coupling b then
      raise 231 (256 + coupling) (updMlk (fun m => { m with
        cps := tupd m.cps (coupling - 1) fun c => { c with fault := true, bad := 3 } }) b)
    else b) s

/-- `MLK_COUPLING_CHECK`: a self-test of Table 21-7. -/
def execMlkCouplingCheck (coupling : Nat) (pass : Bool) (s : State) : Out :=
  act (fun b =>
    if 1 ≤ coupling && coupling ≤ 3 && b.mlk.st != 0 && (tget b.mlk.cps (coupling - 1)).fault then
      let b1 := countSelfTest 7 (!pass) b
      if pass then raise 231 coupling (updMlk (fun m => { m with
        cps := tupd m.cps (coupling - 1) fun c => { c with fault := false, bad := 0 } }) b1)
      else b1
    else b) s

/-! ### Commands (R489) -/

def specMlkStatus : CmdSpec where
  op := 0x0C00
  role := .general
  modes := mServed
  len := lenIs 0
  body := fun _ _ s => ok (wordBytes ((List.range 36).map fun i => mlkGlobal i s)) s

/-- `CMD_MLK_STATUS`. -/
def execCmdMlkStatus (h : Req) (p : List Byte) (s : State) : Out := act (runCmd specMlkStatus h p) s

def hostEntry (e : HostFrame) : List Byte :=
  p64 e.mtime ++ p16 e.raw.length ++ p8 e.pct ++ p8 0 ++ e.raw ++ zeros ((4 - e.raw.length % 4) % 4)

def specMlkRxRead : CmdSpec where
  op := 0x0C01
  role := .general
  modes := mServed
  len := lenIs 4
  body := fun _ p s =>
    let k := u8At p 0
    if !(1 ≤ k && k ≤ 14) then refuse stBadParam s
    else
      let l := s.mlk.hostq.take k
      ok (p16 l.length ++ p16 0 ++ l.flatMap hostEntry) (updMlk (fun m => { m with hostq := m.hostq.drop k }) s)

/-- `CMD_MLK_RX_READ` (R484). -/
def execCmdMlkRxRead (h : Req) (p : List Byte) (s : State) : Out := act (runCmd specMlkRxRead h p) s

def specMlkSend : CmdSpec where
  op := 0x0C02
  role := .general
  modes := mWork
  len := fun p => 8 ≤ p.length && p.length == 8 + u16At p 2
  body := fun _ p s =>
    let ty := u8At p 0
    let fl := u8At p 1 % 4
    let n := u16At p 2
    if !([6, 9, 11].contains ty && n ≤ (if bit fl 0 then 220 else 236) && !(bit fl 0 && !slotValid 14 s) &&
        s.m8 0 == 1 && isHead (u32At p 4)) then refuse stBadParam s
    else if s.mlk.txq.length + s.mlk.out.length ≥ 16 then refuse stBusy s
    else
      let s1 := mlkSend ty fl (u32At p 4) (if ty == 9 then 4 else 5) (p.drop 8) s
      ok (p32 s1.mlk.fcntTx) s1

/-- `CMD_MLK_SEND`. -/
def execCmdMlkSend (h : Req) (p : List Byte) (s : State) : Out := act (runCmd specMlkSend h p) s

def specMlkTxTest : CmdSpec where
  op := 0x0C80
  role := .general
  modes := mCommission
  len := lenIs 4
  body := fun r p s =>
    let c := u8At p 0
    let t := u8At p 1
    let d := u16At p 2
    if !(1 ≤ c && c ≤ 3 && t ≤ 3 && 100 ≤ d && d ≤ 10000) then refuse stBadParam s
    else if s.mlk.st == 2 || s.mlk.st == 4 || s.mlk.test.isSome then refuse stBusy s
    else .accepted (updMlk (fun m => { m with test := some (c, t, s.sys.mtime + d, r) }) s)

/-- `CMD_MLK_TX_TEST`. -/
def execCmdMlkTxTest (h : Req) (p : List Byte) (s : State) : Out := act (runCmd specMlkTxTest h p) s

/-- `MLK_TX_TEST_END`: the transmit current measured, in mA. -/
def execMlkTxTestEnd (itxMA : Nat) (s : State) : Out :=
  act (fun b => match b.mlk.test with
    | some t =>
      complete t.2.2.2 stOk (p16 (min itxMA 65535) ++ p16 0) (updMlk (fun m => { m with test := none }) (timeAt t.2.2.1 b))
    | none => b) s

def specsMlk : List CmdSpec := [specMlkStatus, specMlkRxRead, specMlkSend, specMlkTxTest]

end Sys2Proof.Machine
end

