-- ==== Sys2Proof/Machine/Links.lean ====
section
/-!
DEFINITION. External links (20): the Ethernet switch, TCP services, the Modbus gateway and the serial bridges.
-/

namespace Sys2Proof.Machine

def updLnk (f : Lnk → Lnk) (s : Block) : Block := { s with lnk := f s.lnk }

/-! ### Switch (R562, R563) -/

/-- A port forwards (R563). -/
def forwards (port : Nat) (s : Block) : Bool :=
  (port == 1 || port == 2) && s.pwr.heldBy == .no && !s.lnk.stopped &&
    (tget s.lnk.direct (port - 1) || (s.lnk.phyRst && tget s.lnk.linkUp (port - 1)))

/-- `ETH_LINK_CHANGE` (R563): a PHY held in reset reports nothing. -/
def execEthLinkChange (port : Nat) (up direct : Bool) (s : State) : Out :=
  act (fun b =>
    if (port == 1 || port == 2) && (direct || b.lnk.phyRst) then
      updLnk (fun l => { l with linkUp := tput l.linkUp (port - 1) up, direct := tput l.direct (port - 1) direct }) b
    else b) s

/-- The module's own MAC address (R563). -/
def ownMac : Nat := 0x02 * 2 ^ 40 + serialNum % 2 ^ 40

/-- A group address: the lowest bit of the first byte. -/
def macGroup (m : Nat) : Bool := bit m 40

/-- A source address learned, while the table of 1,024 has room for it (R563). -/
def macLearn (mac port : Nat) (s : Block) : Block :=
  if macGroup mac then s
  else updLnk (fun l =>
    let rest := l.macs.filter fun e => e.mac != mac
    if rest.length ≥ 1024 then l else { l with macs := ⟨mac, port, s.sys.mtime⟩ :: rest }) s

/-- Where a frame from a port goes: bit 1 ETH1, bit 2 ETH2, bit 0 the module itself. -/
def switchTo (port dst : Nat) (s : Block) : Nat :=
  let other := if forwards (3 - port) s then maskOf [3 - port] else 0
  if dst == ownMac then 1
  else if macGroup dst then other + 1
  else match s.lnk.macs.find? (fun e => e.mac == dst) with
    | some e => if e.port == port then 0 else other
    | none => other

/-- `ETH_FRAME_FORWARD` (R563). -/
def execEthFrameForward (port dst src : Nat) (frame : List Byte) (s : State) : Out :=
  act (fun b =>
    if forwards port b then
      let b1 := macLearn (src % 2 ^ 48) port b
      updLnk (fun l => { l with fwdMask := switchTo port (dst % 2 ^ 48) b1, fwd := frame }) b1
    else b) s

/-! ### TCP services (R564, Table 20-5) -/

def Block.lk8 (s : Block) (o : Nat) : Nat := s.cfg8 0x000E o

/-- The services are offered (R564). -/
def tcpOffered (s : Block) : Bool := served s && !s.inMode [.outage, .zeroised] && s.lk8 0 != 0

/-- A client may use the gateway and the bridges: HOSTADDR, or any address in the subnet where HOSTADDR is 0. -/
def clientHere (client : Nat) (s : Block) : Bool :=
  let host := s.cfg32 0x000E 16
  let net := if s.lk8 0 == 2 then Config.lease else (s.cfg32 0x000E 4, s.cfg32 0x000E 8)
  if host != 0 then client == host else Nat.land client net.2 == Nat.land net.1 net.2

/-- Record of serial link i: 1 to 6 BUS1 to BUS6, 7 to 10 UART1 to UART4 (Table 20-6). -/
def serRec (i o : Nat) (s : Block) : Nat := s.lk8 (24 + 8 * (i - 1) + o)

/-- The link is a Modbus RTU master. -/
def isModbus (i : Nat) (s : Block) : Bool := serRec i 0 s == (if i ≤ 6 then 1 else 2)

/-- UARTk is a bridge. -/
def isBridge (k : Nat) (s : Block) : Bool := 1 ≤ k && k ≤ 4 && serRec (6 + k) 0 s == 1

/-- The service of a TCP port and its limit: service, most connections, restricted to `clientHere`. -/
def serviceAt (tcpPort : Nat) (s : Block) : Option (Nat × Nat × Bool) :=
  let br := s.cfg16 0x000E 22
  if tcpPort == s.cfg16 0x000E 2 then some (0, 1, false)
  else if tcpPort == 502 && s.lk8 20 == 1 then some (1, 4, true)
  else if br < tcpPort && tcpPort ≤ br + 4 && isBridge (tcpPort - br) s then some (1 + (tcpPort - br), 1, true)
  else none

/-- A connection is accepted: its service. -/
def tcpAccepts (port client tcpPort : Nat) (s : Block) : Option Nat :=
  match serviceAt tcpPort s with
  | none => none
  | some (v, most, restricted) =>
    let n := (s.lnk.conns.filter fun c => c.service == v && (v != 0 || c.port == port)).length
    if n < most && (!restricted || clientHere client s) then some v else none

/-- `TCP_CONNECT` (R564): accepted, or refused with a reset. -/
def execTcpConnect (port client tcpPort : Nat) (s : State) : Out :=
  act (fun b =>
    if !(port == 1 || port == 2) || !tcpOffered b then b
    else match tcpAccepts port client tcpPort b with
      | some v => updLnk (fun l => { l with
          conns := l.conns ++ [⟨l.nextConn, port, client, v⟩], nextConn := l.nextConn + 1 }) b
      | none => updLnk (fun l => { l with refused := client }) b) s

/-- A connection gone: a mailbox connection takes its TLS session with it, requests that wait are dropped. -/
def connGone (conn : Nat) (s : Block) : Block :=
  match s.lnk.conns.find? (fun c => c.id == conn) with
  | none => s
  | some c =>
    let s1 := updLnk (fun l => { l with
      conns := l.conns.filter fun x => x.id != conn
      serial := l.serial.map fun x => { x with queue := x.queue.filter fun r => r.conn != conn } }) s
    if c.service == 0 then tlsEnd c.port s1 else s1

/-- `TCP_CONNECTION_CLOSE`. -/
def execTcpConnectionClose (conn : Nat) (s : State) : Out := act (connGone conn) s

/-! ### Modbus gateway (R567) -/

/-- CRC-16 of Modbus RTU: polynomial 0xA001 reflected, initial value 0xFFFF, of the Modbus serial standard. -/
def modbusCrc (l : List Byte) : Nat :=
  l.foldl (fun c b => (List.range 8).foldl (fun c _ => if c % 2 == 1 then Nat.xor (c / 2) 0xA001 else c / 2)
    (Nat.xor c b.toNat)) 0xFFFF

/-- A number as two bytes, most significant first. -/
def be16 (n : Nat) : List Byte := p8 (n / 256) ++ p8 n

/-- Bytes sent to a client that is still connected. -/
def tcpSend (conn : Nat) (d : List Byte) (s : Block) : Block :=
  if s.lnk.conns.any (fun c => c.id == conn) then updLnk (fun l => { l with
    tcpTx := l.tcpTx.drop (l.tcpTx.length - 63) ++ [(conn, d)] }) s else s

/-- A response with its MBAP header. -/
def mbapSend (r : MbReq) (pdu : List Byte) (s : Block) : Block :=
  tcpSend r.conn (be16 r.tid ++ be16 0 ++ be16 (pdu.length + 1) ++ p8 r.unit ++ pdu) s

/-- An exception answer: function with bit 7 set, then the code. -/
def mbException (code : Nat) (r : MbReq) (s : Block) : Block := mbapSend r (p8 (setBit (u8At r.pdu 0) 7) ++ p8 code) s

def updSer (i : Nat) (f : Serial → Serial) (s : Block) : Block := updLnk (fun l => { l with serial := tupd l.serial (i - 1) f }) s
def Block.ser (s : Block) (i : Nat) : Serial := tget s.lnk.serial (i - 1)

/-- Time of `n` characters on link i in ms, rounded up: start bit, 8 data bits, parity, stop bits (Table 20-6). -/
def lineMs (i n : Nat) (s : Block) : Nat :=
  let f := serRec i 2 s
  let bits := 10 + (if f % 4 == 0 then 0 else 1) + b2n (bit f 2)
  let baud := [9600, 19200, 38400, 57600, 115200, 230400, 460800].getD (serRec i 1 s) 9600
  (n * bits * 1000 + baud - 1) / baud

/-- A request goes out on the line of link i; its response is due TIMEOUT after its last stop bit. -/
def rtuSend (i : Nat) (r : MbReq) (s : Block) : Block :=
  let f := p8 r.unit ++ r.pdu
  updSer i (fun l => { l with
    cur := some r, tx := f ++ p16 (modbusCrc f), due := s.sys.mtime + lineMs i (f.length + 2) s + 10 * serRec i 3 s }) s

/-- The link whose units include one (Table 20-6). -/
def linkOf (unit : Nat) (s : Block) : Option Nat :=
  (upto 1 10).find? fun i => isModbus i s && serRec i 4 s ≤ unit && unit ≤ serRec i 5 s && unit != 0

/-- `MODBUS_TCP_REQUEST` (R567). -/
def execModbusTcpRequest (conn tid unit : Nat) (pdu : List Byte) (s : State) : Out :=
  act (fun b =>
    if !tcpOffered b || !(b.lnk.conns.any fun c => c.id == conn && c.service == 1) then b
    else
      let r : MbReq := ⟨conn, tid % 65536, unit % 256, pdu⟩
      match linkOf r.unit b with
      | none => mbException 0x0A r b
      | some i =>
        if (b.ser i).cur.isNone then rtuSend i r b
        else if (b.ser i).queue.length ≥ 16 then mbException 0x06 r b
        else updSer i (fun l => { l with queue := l.queue ++ [r] }) b) s

/-- The transaction on link i is over; the next request goes out. -/
def rtuNext (i : Nat) (s : Block) : Block :=
  match (s.ser i).queue with
  | [] => updSer i (fun l => { l with cur := none }) s
  | r :: q => rtuSend i r (updSer i (fun l => { l with queue := q }) s)

/-- `MODBUS_RTU_RESPONSE` (R567): the request's unit and function, its exception form included, and a correct CRC. -/
def execModbusRtuResponse (link unit : Nat) (pdu : List Byte) (crcOk : Bool) (s : State) : Out :=
  act (fun b =>
    if !(1 ≤ link && link ≤ 10) then b
    else match (b.ser link).cur with
      | none => b
      | some r =>
        if crcOk && unit == r.unit && u8At pdu 0 % 128 == u8At r.pdu 0 % 128 then rtuNext link (mbapSend r pdu b) else b) s

/-! ### Serial bridges (R568) -/

def bridgeConn (k : Nat) (s : Block) : Option TcpConn := s.lnk.conns.find? fun c => c.service == 1 + k

/-- `BRIDGE_TCP_DATA`: the client's bytes go out on the UART unchanged. -/
def execBridgeTcpData (uart : Nat) (data : List Byte) (s : State) : Out :=
  act (fun b =>
    if isBridge uart b && (bridgeConn uart b).isSome then updSer (6 + uart) (fun l => { l with tx := data }) b else b) s

/-- `BRIDGE_UART_RX`: bytes beyond the 4 KiB buffer stay with the sender under flow control, and are lost without it. -/
def execBridgeUartRx (uart : Nat) (data : List Byte) (s : State) : Out :=
  act (fun b =>
    match isBridge uart b, bridgeConn uart b with
    | true, some c =>
      let b1 := tcpSend c.id (data.take 4096) b
      if bit (serRec (6 + uart) 2 b) 3 then b1
      else updSer (6 + uart) (fun l => { l with lost := l.lost + (data.length - 4096) }) b1
    | _, _ => b) s

/-! ### The links section applied (R566) -/

/-- Link i restarted: exception 0x0B to what it served, its bridge connection closed. -/
def serRestart (i : Nat) (s : Block) : Block :=
  let rs := (s.ser i).cur.toList ++ (s.ser i).queue
  let s1 := updSer i (fun l => { l with cur := none, queue := [] }) (rs.foldl (fun s r => mbException 0x0B r s) s)
  if i ≤ 6 then s1
  else match bridgeConn (i - 6) s1 with
    | some c => connGone c.id s1
    | none => s1

/-- The section `old` replaced by the one in force. -/
def linksConfigured (old : List Byte) (s : Block) : Block :=
  let s1 := (upto 1 10).foldl (fun s i =>
    if bytesAt old (24 + 8 * (i - 1)) 8 == bytesAt (s.secBody 0x000E) (24 + 8 * (i - 1)) 8 then s else serRestart i s) s
  if u32At old 4 == s1.cfg32 0x000E 4 then s1
  else (s1.lnk.conns.filter fun c => c.service == 0).foldl (fun s c => connGone c.id s) s1

end Sys2Proof.Machine
end

