-- ==== Sys2Proof/Machine/Sections.lean ====
section
/-!
DEFINITION. Site configuration (05 R150–R152): the image and its sections, each section's ranges and rules, the claims a
commit makes, and what an applied commit changes.
-/

namespace Sys2Proof.Machine

def rng (lo hi v : Nat) : Bool := lo ≤ v && v ≤ hi

/-- The bytes from `o` are 0. -/
def zeroAt (b : List Byte) (o n : Nat) : Bool := allZero (bytesAt b o n)

/-! ### Ranges and rules of the sections, `s` with every section as it will be after the commit -/

/-- Table 5-18, R27. -/
def okSystem (b : List Byte) : Bool :=
  u32At b 0 < 512 && u32At b 4 < 8 && u8At b 8 ≤ 1 && rng 1 60 (u8At b 9) && u8At b 10 ≤ 1 && u8At b 11 == 0 &&
    u16At b 12 < 4096 && u16At b 14 == 0

/-- A point record (R198). -/
def okPoint (p : Nat) (s : Block) : Bool :=
  let a := 8 + 24 * p
  let f8 := fun o => s.cfg8 0x0003 (a + o)
  let t := f8 0
  let i := f8 2
  let x := f8 3
  let pga := s.cfg16 0x0003 (a + 4)
  let u := s.cfg16 0x0003 (a + 6)
  t ≤ 3 && sourceFitted (f8 1) s && pga < 4096 && ((List.range 4).all fun k => bits pga (3 * k + 2) (3 * k) ≤ 4) &&
    ((List.range 4).all fun k => bits i (2 * k + 1) (2 * k) ≤ 2) && x ≤ 3 &&
    (if p == 0 then t == 1 || t == 2
     else (t != 0) == s.fitted p && (!s.fitted p || ((t == 3) == s.isDc p))) &&
    (match t with
     | 0 => true
     | 3 => i == 0 && x == 1 && s.cfg32 0x0003 (a + 12) != 0 && s.cfg32 0x0003 (a + 16) != 0 && rng 500 15000 u
     | _ =>
       (if t == 1 then [0, 1, 2].all fun k => bits i (2 * k + 1) (2 * k) != 0
        else bits i 1 0 != 0 && bits i 5 2 == 0) &&
       x != 1 && s.cfg32 0x0003 (a + 8) != 0 && s.cfg32 0x0003 (a + 12) != 0 &&
       (x == 0 || s.cfg32 0x0003 (a + 16) != 0) && rng 1000 10000 u)

/-- R198: a section that differs from the one in force needs a valid grant. -/
def okMetrology (old : List Byte) (s : Block) : Bool :=
  let b := s.secBody 0x0003
  (u8At b 0 == 50 || u8At b 0 == 60) && rng 1 3600 (u16At b 2) && ((List.range 13).all fun p => okPoint p s) &&
    (b == old || grantValid s)

/-- A pulse output (Table 8-5, R237): of a disabled one, whose factory value is 0, a field may also be 0. -/
def okPulse (k : Nat) (s : Block) : Bool :=
  let a := 96 + 8 * (k - 1)
  let q := s.cfg8 0x0004 a
  let p := s.cfg8 0x0004 (a + 1)
  let least := b2n (bit q 7)
  bits q 6 4 == 0 && q % 16 ≤ 9 && p ≤ 12 && rng least 100 (s.cfg8 0x0004 (a + 2)) && s.cfg8 0x0004 (a + 3) ≤ 1 &&
    rng least 100000 (s.cfg32 0x0004 (a + 4)) && (!bit q 7 || (s.cfgType p != 0 && (q % 16 < 2 || s.cfgType p != 3)))

/-- R237, R238. -/
def okEnergy (s : Block) : Bool :=
  let b := s.secBody 0x0004
  let l := u8At b 0 * 60 / u8At b 1
  [1, 2, 3, 4, 5, 6, 10, 12, 15, 20, 30, 60].contains (u8At b 0) && rng 1 15 (u8At b 1) &&
    u8At b 0 * 60 % u8At b 1 == 0 && 3600 % l == 0 && 1 ≤ u16At b 2 && rng 500 990 (u16At b 4) &&
    rng 1010 1500 (u16At b 6) && rng 10 500 (u16At b 8) && rng 5 100 (u16At b 10) && u8At b 12 ≤ 1 && u8At b 13 == 0 &&
    rng 1 10000 (u16At b 14) && rng 10 1000 (u16At b 16) && u16At b 18 == 0 && u32At b 20 ≤ 100000 &&
    ((List.range 12).all fun k => u16At b (24 + 2 * k) ≤ 200 && u16At b (48 + 4 * k) ≤ 2000 && u16At b (50 + 4 * k) ≤ 1000) &&
    ((upto 1 8).all fun k => okPulse k s)

/-- The used switch points of a day profile ascend, each with its tariff. -/
def okProfileFrom (b : List Byte) (o : Nat) (after : Int) : Nat → Bool
  | 0 => true
  | k + 1 =>
    let m := u16At b o
    u8At b (o + 3) == 0 &&
      (if m == 0xFFFF then u8At b (o + 2) == 0 && okProfileFrom b (o + 4) after k
       else m ≤ 1439 && (m : Int) > after && rng 1 8 (u8At b (o + 2)) && okProfileFrom b (o + 4) m k)

/-- Profile p has a used switch point. -/
def profileUsed (b : List Byte) (p : Nat) : Bool := (List.range 16).any fun i => u16At b (168 + 64 * p + 4 * i) != 0xFFFF

/-- R289. -/
def okBilling (s : Block) : Bool :=
  let b := s.secBody 0x0005
  let cal := u8At b 2
  let day := u8At b 3
  u8At b 0 ≤ 1 && u8At b 1 ≤ 3 && cal ≤ 3 && (if cal == 3 then rng 1 28 day else if cal == 2 then day ≤ 6 else cal != 1 || day == 0) &&
    u16At b 4 ≤ 1439 && -720 ≤ i16At b 6 && i16At b 6 ≤ 840 && i32At b 12 ≤ i32At b 8 && u8At b 24 ≤ 3 && u8At b 25 ≤ 120 &&
    zeroAt b 26 6 &&
    ((List.range 16).all fun i => let st := u32At b (32 + 8 * i); let en := u32At b (36 + 8 * i); st < en || (st == 0 && en == 0)) &&
    ((List.range 7).all fun d => u8At b (160 + d) ≤ 3 && profileUsed b (u8At b (160 + d))) && u8At b 167 == 0 &&
    ((List.range 4).all fun p => okProfileFrom b (168 + 64 * p) (-1) 16) &&
    ((List.range 32).all fun j =>
      let o := 424 + 4 * j
      u8At b (o + 2) ≤ 3 && u8At b (o + 3) ≤ 1 && (u16At b o == 0 || profileUsed b (u8At b (o + 2)))) &&
    ((List.range 4).all fun w => u8At b (556 + 8 * w) < 128 && zeroAt b (557 + 8 * w) 3) &&
    ((List.range 32).all fun i =>
      let o := 584 + 4 * i
      u8At b o ≤ 0x0C && u8At b (o + 2) ≤ 60 && u8At b (o + 3) ≤ 3) &&
    !(u8At b 24 == 0 && u8At b 0 == 1)

/-- One outlet record (R294). -/
def okOutlet (n : Nat) (s : Block) : Bool :=
  let a := 16 + 32 * (n - 1)
  let b := s.secBody 0x0006
  let f := fun o => u8At b (a + o)
  let w := fun o => u16At b (a + o)
  let dc := f 0 == 2
  let t := s.cfgType n
  rng 1 2 (f 0) && f 1 ≤ 1 && rng 1 7 (f 2) && f 3 ≤ 2 &&
    (if f 3 == 1 then w 4 == 0 && !dc else if dc then rng 10 5000 (w 4) else rng 60 800 (w 4)) &&
    rng 1 15 (f 6) && !(!dc && bit (f 6) 0) && !(dc && bit (f 6) 3) && f 7 ≤ 1 && rng 1 15 (f 8) && f 9 ≤ 7 &&
    (if dc then rng 150 1000 (w 10) && rng 150 (w 10) (w 12) && rng 1 6000 (w 14) else w 10 == 0 && w 12 == 0 && w 14 == 0) &&
    zeroAt b (a + 16) 16 && !(f 1 == 1 && !bit (f 6) 2) && (!s.fitted n || (if dc then t == 3 else t == 1 || t == 2)) &&
    (dc || !(t == 2 && !([1, 2, 4].contains (f 2))) && !(t == 1 && f 2 != 7))

/-- R294. -/
def okOutletSec (s : Block) : Bool :=
  let b := s.secBody 0x0006
  rng 20 50 (u8At b 0) && rng 10 255 (u8At b 1) && u16At b 2 ≤ 3600 && zeroAt b 4 12 && ((upto 1 12).all fun n => okOutlet n s)

/-- R295: ASCII, NUL-padded. -/
def okEvseIds (s : Block) : Bool :=
  (List.range 12).all fun i =>
    let e := bytesAt (s.secBody 0x0007) (40 * i) 40
    (e.all fun c => c.toNat < 128) && allZero (e.dropWhile (· != 0))

/-- One outlet record of the allocation section (Table 11-2). -/
def okAllocOutlet (n : Nat) (s : Block) : Bool :=
  let a := 40 + 16 * (n - 1)
  let b := s.secBody 0x0008
  let f := fun o => u8At b (a + o)
  let w := fun o => u16At b (a + o)
  f 4 ≤ 3 && zeroAt b (a + 10) 6 &&
    (if s.isDc n then
      rng 10 5000 (w 0) && rng 1 2000 (w 2) && rng 1 4 (f 5) && rng 1 15 (f 6) && rng 1 4 (f 7) && f 6 + f 7 - 1 ≤ 15 &&
        rng 1 1000 (w 8) && u8At b (232 + 8 * (f 5 - 1)) == 1
     else rng 60 800 (w 0) && w 2 == 0 && f 5 == 0 && f 6 == 0 && f 7 == 0 && w 8 == 0)

/-- The node ranges of DC outlets m and n overlap on one link (R335). -/
def nodesClash (m n : Nat) (s : Block) : Bool :=
  let b := s.secBody 0x0008
  let f := fun k o => u8At b (40 + 16 * (k - 1) + o)
  m != n && s.isDc m && s.isDc n && f m 5 == f n 5 && f m 6 < f n 6 + f n 7 && f n 6 < f m 6 + f m 7

/-- R335. -/
def okAllocation (s : Block) : Bool :=
  let b := s.secBody 0x0008
  let w := u16At b
  w 0 ≤ 60000 && w 2 ≤ 60000 && ((List.range 6).all fun k => w (4 + 2 * k) ≤ 20000) && w 16 ≤ 10000 && rng 200 4096 (w 18) &&
    rng 20 500 (w 20) && rng 20 500 (w 22) && rng 100 5000 (w 24) && rng 50 500 (w 26) && rng 2 50 (u8At b 28) &&
    rng 20 100 (u8At b 29) && u8At b 32 ≤ 1 && zeroAt b 33 7 && ((upto 1 12).all fun n => okAllocOutlet n s) &&
    ((List.range 4).all fun j =>
      let o := 232 + 8 * j
      u8At b o ≤ 1 && u8At b (o + 1) ≤ 1 && u8At b (o + 2) ≤ 1 && zeroAt b (o + 3) 5) &&
    !((upto 1 12).any fun m => (upto 1 12).any fun n => nodesClash m n s) && w 18 ≥ s.lag + 100

/-- R384. -/
def okProtection (s : Block) : Bool :=
  let b := s.secBody 0x0009
  rng 500 2000 (u16At b 0) && rng 100 500 (u16At b 2) && u16At b 2 < u16At b 0 && zeroAt b 4 12 &&
    (List.range 12).all fun i =>
      let w := fun o => u16At b (16 + 12 * i + o)
      rng 30 50 (w 0) && rng 300 500 (w 2) && rng 1000 1500 (w 4) && rng 150 250 (w 6) && rng 500 2000 (w 8) && w 10 == 0

/-- R445. -/
def okContactless (s : Block) : Bool :=
  let b := s.secBody 0x000A
  u8At b 0 ≤ 1 && u8At b 1 ≤ 3 && rng 500 10000 (u16At b 2) && zeroAt b 4 12 &&
    ((List.range 4).all fun i =>
      let f := fun o => u8At b (16 + 8 * i + o)
      let m := u16At b (18 + 8 * i)
      f 0 ≤ 1 && f 1 ≤ 1 && m < 4096 && f 4 ≤ 3 && rng 5 50 (f 5) && f 6 ≤ 7 && f 7 == 0 && !(f 0 == 1 && f 4 == 0) &&
        (upto 1 12).all fun n => !bit m (n - 1) || s.fitted n) &&
    !(u8At b 0 == 1 && !slotValid (20 + u8At b 1) s)

/-- R487. -/
def okMainsLink (s : Block) : Bool :=
  let b := s.secBody 0x000B
  let a := u32At b 4
  u8At b 0 ≤ 1 && u8At b 1 ≤ 7 && u8At b 2 ≤ 3 && u8At b 3 ≤ 7 && (a == 0 || rng 0x100 0xFFFFFFFE a) &&
    ([8, 12, 16, 20].all fun o => u32At b o == 0 || rng 0x100 0xFFFFFFFE (u32At b o)) && rng 1 254 (u8At b 24) &&
    rng 40 100 (u8At b 25) && rng 6 30 (u8At b 26) && u8At b 27 ≤ 3 && u16At b 28 ≤ 60000 && rng 20 300 (u16At b 30) &&
    u8At b 32 ≤ 5 && u8At b 33 == 0 && u16At b 34 ≤ 1440 && zeroAt b 36 12 && !(u8At b 1 == 0 && u8At b 0 == 1)

/-- Bands of map m; none where the map is unused. -/
def mapBands (b : List Byte) (m : Nat) : Option (Nat × Nat) :=
  if u8At b (4 + 2 * m) == 0xFF && u8At b (5 + 2 * m) == 0xFF then none else some (u8At b (4 + 2 * m), u8At b (5 + 2 * m))

/-- R512. -/
def okDisplay (s : Block) : Bool :=
  let b := s.secBody 0x000C
  u8At b 0 ≤ 1 && u8At b 1 ≤ u8At b 2 && u8At b 2 ≤ 63 && sourceFitted (u8At b 3) s && u8At b 12 ≤ 1 &&
    rng 5 38 (u8At b 13) && rng 1000 60000 (u16At b 14) && zeroAt b 16 16 &&
    (List.range 4).all fun m => match mapBands b m with
      | none => true
      | some (lo, hi) => lo ≤ hi && hi ≤ 15 && (List.range 4).all fun k => match mapBands b k with
          | none => true
          | some (lo', hi') => k == m || hi < lo' || hi' < lo

/-- One entry of the load-switch schedule (Table 18-5). -/
def okEntry (j : Nat) (s : Block) : Bool :=
  let b := s.secBody 0x000D
  let o := 160 + 8 * j
  let t := u8At b o
  let m := u16At b (o + 2)
  t ≤ 3 && (if t == 1 then rng 1 2 (u8At b (o + 1)) else u8At b (o + 1) == 0) && m < 4096 &&
    ((upto 1 12).all fun k => !bit m (k - 1) || u8At b (16 + 12 * (k - 1)) == 1) &&
    (match t with
     | 1 => u16At b (o + 4) ≤ 1439 && u8At b (o + 6) < 128 && u8At b (o + 7) == 0
     | 2 => sourceFitted (u8At b (o + 4)) s && i8At b (o + 6) < i8At b (o + 5) && u8At b (o + 7) == 0
     | 3 => u16At b (o + 4) < 4096 && u16At b (o + 6) == 0
     | _ => true)

/-- R529. -/
def okLoadSwitch (s : Block) : Bool :=
  let b := s.secBody 0x000D
  u16At b 0 ≤ 3600 && u16At b 2 == 0 && u32At b 12 == 0 &&
    ((List.range 4).all fun g => u16At b (4 + 2 * g) == 0 || rng 10 25000 (u16At b (4 + 2 * g))) &&
    ((List.range 12).all fun i =>
      let o := 16 + 12 * i
      let g := u8At b (o + 2)
      u8At b o ≤ 1 && rng 1 9 (u8At b (o + 1)) && !(profileOf (u8At b (o + 1)) s).isEmpty &&
        (g == 0 || (g ≤ 4 && u16At b (4 + 2 * (g - 1)) != 0)) && rng 1 256 (u16At b (o + 4)) && u8At b (o + 6) ≤ 3 &&
        u8At b (o + 7) ≤ 1 && u32At b (o + 8) == 0) &&
    (List.range 16).all fun j => okEntry j s

/-- A serial link's record (Table 20-6). -/
def okSerial (i : Nat) (s : Block) : Bool :=
  let f := fun o => serRec i o s
  let bus := i ≤ 6
  let bridge := !bus && f 0 == 1
  f 0 == 0 ||
    (f 0 ≤ (if bus then 1 else 2) && f 1 ≤ (if bus then 4 else 6) && f 2 % 4 ≤ 2 && f 2 < 16 && (!bit (f 2) 3 || bridge) &&
      f 6 == 0 && f 7 == 0 &&
      (if bridge then f 3 == 0 && f 4 == 0 && f 5 == 0
       else rng 5 250 (f 3) && rng 1 247 (f 4) && rng (f 4) 247 (f 5)))

/-- The unit ranges of two Modbus links overlap. -/
def unitsClash (i j : Nat) (s : Block) : Bool :=
  i != j && isModbus i s && isModbus j s && serRec i 4 s ≤ serRec j 5 s && serRec j 4 s ≤ serRec i 5 s

/-- R566. -/
def okLinks (s : Block) : Bool :=
  let b := s.secBody 0x000E
  let inv := 0xFFFFFFFF - u32At b 8
  let br := u16At b 22
  u8At b 0 ≤ 2 && u8At b 1 == 0 && 1024 ≤ u16At b 2 && Nat.land inv (inv + 1) == 0 && u8At b 20 ≤ 1 && u8At b 21 == 0 &&
    rng 1024 65531 br && ((upto 1 10).all fun i => okSerial i s) && u8At b 104 ≤ 3 && zeroAt b 105 3 &&
    !(u8At b 0 == 1 && (u32At b 4 == 0 || u32At b 8 == 0)) && u16At b 2 != 502 && !(br < u16At b 2 && u16At b 2 ≤ br + 4) &&
    !((upto 1 10).any fun i => (upto 1 10).any fun j => unitsClash i j s) &&
    (u8At b 20 == 1 || !((upto 1 10).any fun i => isModbus i s))

/-- R578. -/
def okDiagnostics (s : Block) : Bool :=
  let b := s.secBody 0x000F
  1 ≤ u16At b 32 && rng 10 3600 (u16At b 34) && u32At b 36 == 0

/-- A section carried by the commit meets its chapter's rules; `old` is its body before. -/
def sectionOk (id : Nat) (old : List Byte) (s : Block) : Bool :=
  match id with
  | 0x0001 => okSystem (s.secBody 0x0001)
  | 0x0003 => okMetrology old s
  | 0x0004 => okEnergy s
  | 0x0005 => okBilling s
  | 0x0006 => okOutletSec s
  | 0x0007 => okEvseIds s
  | 0x0008 => okAllocation s
  | 0x0009 => okProtection s
  | 0x000A => okContactless s
  | 0x000B => okMainsLink s
  | 0x000C => okDisplay s
  | 0x000D => okLoadSwitch s
  | 0x000E => okLinks s
  | 0x000F => okDiagnostics s
  | _ => false

/-! ### The image (R151) -/

/-- The sections of an image's bytes, at most `n` of them; none where they do not fill the bytes exactly. -/
def parseSections : Nat → List Byte → Option (List (Nat × List Byte))
  | 0, b => if b.isEmpty then some [] else none
  | n + 1, b =>
    let len := u16At b 2
    let whole := 4 + len + (4 - len % 4) % 4
    if b.length < 4 || b.length < whole || !zeroAt b (4 + len) (whole - 4 - len) then none
    else (parseSections n (b.drop whole)).map fun l => (u16At b 0, bytesAt b 4 len) :: l

/-- Every ID is known, with its body's length, and none appears twice. -/
def sectionsKnown (l : List (Nat × List Byte)) : Bool :=
  (l.all fun x => match lookupN x.1 factorySections with
    | some f => f.length == x.2.length
    | none => false) && l.length == ((l.map (·.1)).eraseDups).length

/-- The sections of a staged image whose header, CRC-32 and sections are right (R151). -/
def imageSections (total : Nat) (staged : List Byte) : Option (List (Nat × List Byte)) :=
  let b := bytesAt staged 0 total
  if !(16 ≤ total && total ≤ 65536) || u16At b 0 != 0x0304 || u32At b 4 != total || crc32 (b.drop 16) != u32At b 8 then none
  else match parseSections (u16At b 2) (b.drop 16) with
    | some l => if sectionsKnown l then some l else none
    | none => none

/-! ### Claims of a commit (04 R115, R116) -/

/-- Holders that the features of the new configuration keep; resource 5 is the update session's. -/
def holdersKept (wanted : List (Nat × Nat)) (s : Block) : List Nat :=
  (List.range 10).map fun r =>
    let h := tget s.pin.holder r
    if r == 5 || wanted.contains (h, r) then h else 0

/-- The claims made in ascending resource index, all or nothing; a refusal is recorded. -/
def claimConfig (new : Block) : Bool × Block :=
  let wanted := (claimsWanted new).filter fun c => c.2 != 5
  wanted.foldl (fun r c =>
    if r.1 then claim c.2 c.1 r.2 else r) (true, { new with pin.holder := holdersKept wanted new })

/-! ### What an applied commit changes -/

/-- The changes of section 0x0004 that the ASSAY event log records, each with its offset, old and new value: DEMLEN, DEMSUBS
and the pulse outputs' QTY, POINT and CONST (R237). -/
def energyChanges (old new : List Byte) : List (List Nat) :=
  let v := fun (b : List Byte) (f : Nat × Nat) => if f.2 == 4 then u32At b f.1 else u8At b f.1
  let fields := [(0, 1), (1, 1)] ++ (List.range 8).flatMap fun k => [(96 + 8 * k, 1), (97 + 8 * k, 1), (100 + 8 * k, 4)]
  (fields.filter fun f => v old f != v new f).map fun f => [f.1, v old f, v new f]

/-- Records of the ASSAY event log that the commit needs (R199, R237). -/
def recordsNeeded (s new : Block) : Nat :=
  b2n (s.secBody 0x0003 != new.secBody 0x0003) + (energyChanges (s.secBody 0x0004) (new.secBody 0x0004)).length

/-- Split, styles and fitted outlets (R26, R37, R152; 06 Table 6-11 cause 8). -/
def systemApplied (was s : Block) : Block :=
  let s1 := { s with mbx.fallback := Nat.land s.mbx.fallback s.split }
  let s2 := [0, 1, 2].foldl (fun s d =>
    if was.transactional d && !s.transactional d then abortGroups 8 (fun g => g.acts.any fun a => actDom a == d) s
    else if !was.transactional d && s.transactional d then dropPlan d .idle (dropStaging d s)
    else s) s1
  (upto 1 12).foldl (fun s n =>
    if was.fitted n == s.fitted n then s else svcGo n (if s.fitted n then 2 else 0) s) s2

/-- DEMLEN, DEMSUBS and the balance (08 R237, R242, R251). -/
def energyApplied (old : List Byte) (s : Block) : Block :=
  let new := s.secBody 0x0004
  let s1 := (energyChanges old new).foldl (fun s c => (asyRecord 4 c s).getD s) s
  let s2 := if bytesAt old 0 2 == bytesAt new 0 2 then s1 else demandRestart s1.sys.mtime s1
  balConfigured s2

/-- Prepayment and the period calendar (09 R269, Table 9-8). -/
def billingApplied (old : List Byte) (s : Block) : Block :=
  let new := s.secBody 0x0005
  let cal := fun b => bytesAt b 2 6 ++ bytesAt b 25 1 ++ bytesAt b 32 128
  let s1 := if cal old == cal new then s else markBoundary s
  if u8At new 0 == 0 then ppOff s1 else s1

/-- The scroll sequence restarts at item 0 (09 R288). -/
def scrollRestart (s : Block) : Block :=
  let s1 := scrollTake (updBil (fun b => { b with scroll := 0, scrollAt := s.sys.mtime }) s)
  if scrollValid 0 s1 then bsdCheck s1 else scrollNext s1

/-- The antennas as the configuration gives them (04 R116, 15 R445). -/
def antennasApplied (s : Block) : Block :=
  antConfigured ((upto 1 4).foldl (fun s k =>
    antClaim k (if s.ant8 k 0 == 1 then s.ant8 k 1 + 1 else 0) (s.ant16 k 2) s) s)

/-- A commit applied: `was` the state before it, `ids` the sections it carries. -/
def commitApplied (was : Block) (ids : List Nat) (s : Block) : Block :=
  let on := fun id (f : List Byte → Block → Block) s => if ids.contains id then f (was.secBody id) s else s
  let s1 := on 0x0001 (fun _ => systemApplied was) s
  let s2 := on 0x0004 energyApplied (on 0x0003 asyConfigured s1)
  let s3 := on 0x0008 (fun _ s => canStandby { s with alc.capWhy := 1 }) (on 0x0005 billingApplied s2)
  let s4 := bsdSync (on 0x000C (fun _ => disConfigured) (mlkApply (antennasApplied s3)))
  replan (scrollRestart (on 0x000E linksConfigured (lsConfigured s4)))

/-- `CMD_SYS_CONFIG_COMMIT` on a staged image: the status, and the state (R151). -/
def configCommit (total : Nat) (staged : List Byte) (s : Block) : Nat × Block :=
  match imageSections total staged with
  | none => (stBadParam, s)
  | some l =>
    let new := { s with cfg := { s.cfg with
      secs := s.cfg.secs.map fun x => (x.1, (lookupN x.1 l).getD x.2)
      ident := u32At staged 12, given := l.foldl (fun g x => setBit g x.1) s.cfg.given } }
    if !(l.all fun x => sectionOk x.1 (s.secBody x.1) new) then (stBadParam, s)
    else match claimConfig new with
      | (false, r) => (stResourceHeld, { s with pin := { r.pin with holder := s.pin.holder } })
      | (true, r) =>
        if s.dbg.alog.length + recordsNeeded s new > 4096 then (stStorageFault, s)
        else (stOk, commitApplied s (l.map (·.1)) { new with pin := { r.pin with
          holder := (List.range 10).map fun k => tget (if 6 ≤ k then s.pin.holder else r.pin.holder) k } })

end Sys2Proof.Machine
end

