-- ==== Sys2Proof/Machine/Registers.lean ====
section
/-!
DEFINITION. The register window (04 R93–R94, R98–R105): which block answers an address, what a mode lets through, bus errors,
mailbox ports, and accesses of several words.
-/

namespace Sys2Proof.Machine

/-! ### OUT block (10 R329) -/

def outGlobal (i : Nat) (s : Block) : Word :=
  let m := fun (p : Nat → Bool) => maskOf ((outlets.filter p).map (· - 1))
  match i with
  | 0 => reg [fld 23 12 (m fun n => (s.ses n).proto ≥ 2), fld 11 0 (m fun n => 1 ≤ (s.ol n).cp && (s.ol n).cp ≤ 3)]
  | 1 => w32 s.out.sesseq
  | 2 => reg [fld 31 16 s.out.exiErr, fld 15 0 s.out.exiMsg]
  | 3 => reg [fld 23 12 (m fun n => (s.ses n).tls), fld 3 0 s.out.hs]
  | 4 => reg [fld 23 12 (m fun n => (s.ol n).slac.result == 2), fld 11 0 (m fun n => (s.ol n).slac.result == 1)]
  | 5 => w32 s.out.cntSession
  | _ => w32 s.out.cntFail

/-- `OUT_TRIMn`. -/
def trimAddr (n : Nat) : Nat := 0x200154 + (n - 1) * 0x100

/-- OUT block reads, by offset from 0x20_0000. -/
def rdOut (a : Nat) (s : Block) : Option Word :=
  if a < 0x1C then some (outGlobal (a / 4) s)
  else if a == 0xFC then some (w32 (maskOf (outlets.filter fun n => shadowAny (· == trimAddr n) s)))
  else if 0x100 ≤ a && a < 0xD00 && a % 0x100 < 0x60 then some (outWord (a / 0x100) (a % 0x100 / 4) s)
  else none

/-- OUT writes: W1C of `OUT_FAULTn` and `OUT_PEND`; `OUT_TRIMn` only in STANDBY or COMMISSION with a grant. -/
def wrOut (a v : Nat) (s : Block) : Wr :=
  match rdOut a s with
  | none => .berr
  | some _ =>
    let n := a / 0x100
    if a == 0xFC then .ok (shadowDrop (fun x => outlets.any fun n => bit v n && x == trimAddr n) s)
    else if a < 0x100 then .ok s
    else if a % 0x100 == 0x40 then .ok (updOl n (fun o => { o with fault := o.fault - Nat.land o.fault (v % 128) }) s)
    else if a % 0x100 == 0x54 then
      (if s.inMode [.standby, .commission] && grantValid s then .ok (shadowPut (trimAddr n) v s) else .notPerf)
    else .ok s

/-- A block whose registers are all RO. -/
def wrRo (rd : Nat → Block → Option Word) (a : Nat) (s : Block) : Wr :=
  match rd a s with
  | none => .berr
  | some _ => .ok s

/-! ### The window (Table 4-1) -/

/-- Read of a register at a byte address; none where no register is named there (R93). -/
def regRead (a : Nat) (s : Block) : Option Word :=
  if a < 0x010000 then rdSys a s
  else if a < 0x020000 then rdHst (a - 0x010000) s
  else if a < 0x030000 then rdMbx (a - 0x020000) s
  else if a < 0x040000 then rdEvt (a - 0x030000) s
  else if a < 0x050000 then rdCkp (a - 0x040000) s
  else if a < 0x060000 then rdPln (a - 0x050000) s
  else if a < 0x100000 then none
  else if a < 0x180000 then rdAsy (a - 0x100000) s
  else if a < 0x1C0000 then rdNrg (a - 0x180000) s
  else if a < 0x200000 then rdBil (a - 0x1C0000) s
  else if a < 0x240000 then rdOut (a - 0x200000) s
  else if a < 0x280000 then rdAlc (a - 0x240000) s
  else if a < 0x2C0000 then rdRcm (a - 0x280000) s
  else if a < 0x300000 then rdSaf (a - 0x2C0000) s
  else if a < 0x340000 then rdSec (a - 0x300000) s
  else if a < 0x380000 then rdCls (a - 0x340000) s
  else if a < 0x3C0000 then rdMlk (a - 0x380000) s
  else if a < 0x400000 then rdDis (a - 0x3C0000) s
  else if a < 0x440000 then rdLsw (a - 0x400000) s
  else if a < 0x480000 then rdUpd (a - 0x440000) s
  else if a < 0x4C0000 then rdDbg (a - 0x480000) s
  else if a < 0x500000 then rdPin (a - 0x4C0000) s
  else none

/-- Write of a register by the rules of its block. -/
def regWrite (a v : Nat) (s : Block) : Wr :=
  if a < 0x010000 then wrSys a v s
  else if a < 0x020000 then wrHst (a - 0x010000) v s
  else if a < 0x030000 then wrMbx (a - 0x020000) s
  else if a < 0x040000 then wrEvt (a - 0x030000) v s
  else if a < 0x050000 then wrCkp (a - 0x040000) v s
  else if a < 0x060000 then wrPln (a - 0x050000) v s
  else if a < 0x100000 then .berr
  else if a < 0x180000 then wrAsy (a - 0x100000) v s
  else if a < 0x1C0000 then wrRo rdNrg (a - 0x180000) s
  else if a < 0x200000 then wrBil (a - 0x1C0000) s
  else if a < 0x240000 then wrOut (a - 0x200000) v s
  else if a < 0x280000 then wrAlc (a - 0x240000) v s
  else if a < 0x2C0000 then wrRcm (a - 0x280000) v s
  else if a < 0x300000 then wrRo rdSaf (a - 0x2C0000) s
  else if a < 0x340000 then wrSec (a - 0x300000) s
  else if a < 0x380000 then wrCls (a - 0x340000) s
  else if a < 0x3C0000 then wrMlk (a - 0x380000) s
  else if a < 0x400000 then wrDis (a - 0x3C0000) v s
  else if a < 0x440000 then wrLsw (a - 0x400000) v s
  else if a < 0x480000 then wrUpd (a - 0x440000) s
  else if a < 0x4C0000 then wrDbg (a - 0x480000) s
  else if a < 0x500000 then wrPin (a - 0x4C0000) s
  else .berr

/-- Blocks that ZEROISED still serves: SYS, HST, MBX, NRG (Table 4-5). -/
def zeroReads (a : Nat) : Bool := a < 0x030000 || (0x180000 ≤ a && a < 0x1C0000)

/-- Registers written in every mode: `HST_STATUS`, `SYS_SCRATCH`, `SYS_FLAGS` and MBX (Table 4-5). -/
def alwaysWrites (a : Nat) : Bool := a == 0x010000 || a == 0x00003C || a == 0x000024 || (0x020000 ≤ a && a < 0x030000)

/-- A word at an aligned address exists for a read in this mode (R102, R104). -/
def readable (a : Nat) (s : Block) : Bool :=
  ((portOf a).isSome || (regRead a s).isSome) && (s.sys.mode != .zeroised || zeroReads a)

/-- A write of one word in this mode, ports aside (R102–R104). -/
def winWrite (a v : Nat) (s : Block) : Wr :=
  if s.sys.mode == .zeroised && !alwaysWrites a then .berr
  else if s.inMode mRun || alwaysWrites a then regWrite a v s
  else match regRead a s with
    | none => .berr
    | some _ => .notPerf

/-- A bus error recorded: `path` 1 for a tunnelled access (R104, Table 4-22). -/
def busError (path wr a : Nat) (s : Block) : Block :=
  { s with hst := { s.hst with
      berr := true, berrCnt := inc32 s.hst.berrCnt, berrAddr := reg [fld 31 31 path, fld 30 30 wr, fld 23 0 a] } }

/-! ### Mailbox ports over HSPI (05 R124, R133) -/

/-- Words of a request whose first words are `l`: 4 until LENGTH is known (R124). -/
def reqWords (l : List Word) : Nat :=
  match l with
  | _ :: w :: _ => let n := w.toNat / 65536; if n > 4080 then 4 else 4 + (n + 3) / 4
  | _ => 4

/-- A word written to a mailbox's port: performed or not, whether it completes a request, the state. The first word of a request
is not performed while the mailbox is bound elsewhere (R124), a SYNC request included (DESIGN CHOICE: R127 lets one rebind, but
its FLAGS are not known at that word); a request that another transport has bound meanwhile is not performed (R127). -/
def portWrite (mb v : Nat) (s : Block) : Bool × Bool × Block :=
  let b := s.box mb
  if b.asm.isEmpty && (b.free == 0 || b.bind > 1) then (false, false, s)
  else
    let l := b.asm ++ [w32 v]
    if l.length < 4 || l.length < reqWords l then
      (true, false, updBox mb (fun b => { b with asm := l, asmAt := s.sys.mtime }) s)
    else if !bindOk b 1 (parseRequest (wordBytes l)).flags then (false, false, updBox mb (fun b => { b with asm := [] }) s)
    else (true, true, arrive mb 1 (parseRequest (wordBytes l)) (updBox mb (fun b => { b with asm := [] }) s))

/-- The next word of the head response, and whether it was its last; the entry of a final response is then free
(R120, R133). -/
def portRead (mb : Nat) (s : Block) : Word × Bool × Block :=
  match (s.box mb).rsps with
  | [] => (0, false, s)
  | r :: rest =>
    match r.words with
    | [] => (0, true, updBox mb (fun b => { b with rsps := rest }) s)
    | [w] => (w, true, updBox mb (fun b => { b with
        rsps := rest, entries := if r.frees then b.entries.filter fun e => e.id != r.id else b.entries }) s)
    | w :: ws => (w, false, updBox mb (fun b => { b with rsps := { r with words := ws } :: rest }) s)

/-! ### Accesses of several words (R98, R104) -/

/-- An access under way: state, mailboxes that completed a request or whose head response ended in it, a bus error, a write
not performed, words read. -/
structure Access where
  s    : Block
  ends : List Nat
  berr : Bool
  np   : Bool
  rd   : List Word

/-- One word read; `bad` where every word of the frame raises a bus error. -/
def readWord (path : Nat) (bad : Bool) (x : Access) (a : Nat) : Access :=
  if bad || a ≥ 0x1000000 || !readable a x.s then
    { x with s := busError path 0 a x.s, berr := true, rd := x.rd ++ [0] }
  else match portOf a with
    | none => { x with rd := x.rd ++ [(regRead a x.s).getD 0] }
    | some mb =>
      if path == 1 || x.ends.contains mb then { x with rd := x.rd ++ [0] }
      else
        let r := portRead mb x.s
        { x with s := r.2.2, ends := if r.2.1 then mb :: x.ends else x.ends, rd := x.rd ++ [r.1] }

/-- One word written. -/
def writeWord (path : Nat) (bad : Bool) (x : Access) (w : Nat × Nat) : Access :=
  let a := w.1
  let err := { x with s := busError path 1 a x.s, berr := true }
  let no := { x with np := true, s := { x.s with hst := { x.s.hst with notperf := true } } }
  if bad || a ≥ 0x1000000 then err
  else match portOf a with
    | some mb =>
      if path == 1 || x.ends.contains mb then no
      else
        let r := portWrite mb w.2 x.s
        if !r.1 then no else { x with s := r.2.2, ends := if r.2.1 then mb :: x.ends else x.ends }
    | none => match winWrite a w.2 x.s with
      | .berr => err
      | .notPerf => no
      | .ok s => { x with s }

/-- The addresses of n words. -/
def wordAddrs (a n : Nat) : List Nat := (List.range n).map fun k => a + 4 * k

def readMany (path : Nat) (bad : Bool) (a n : Nat) (s : Block) : Access :=
  (wordAddrs a n).foldl (readWord path bad) ⟨s, [], false, false, []⟩

/-- The one write that changes the mode: a test warning. The words of an access land in one CLK_BUS cycle (R98), so its effect
comes after the other words, which the mode at the access judges. -/
def warnWord (s : Block) (w : Nat × Nat) : Bool := s.sys.mode == .commission && w.1 == 0x040010

def writeMany (path : Nat) (bad : Bool) (a : Nat) (ws : List Word) (s : Block) : Access :=
  let l := (wordAddrs a ws.length).zip (ws.map (·.toNat))
  ((l.filter fun w => !warnWord s w) ++ l.filter (warnWord s)).foldl (writeWord path bad) ⟨s, [], false, false, []⟩

/-- The transport status byte (Table 4-4): bus error, wrong CRC, write not performed, and the state its other bits are sampled
in. -/
def tsb (berr crc np prev : Bool) (s : Block) : Nat :=
  128 + 64 * b2n berr + 32 * b2n crc + 16 * b2n s.pwr.pfw + 8 * b2n ((List.range 4).any (irqLine s)) +
    4 * b2n (s.mbx.boxes.any fun b => !b.rsps.isEmpty) + 2 * b2n prev + b2n np

end Sys2Proof.Machine
end

