-- ==== Sys2Proof/Machine/Diag.lean ====
section
/-!
DEFINITION. Diagnostics and the fatal dump (21): memory errors, the fatal error, the dump's sections and header, the online
self-tests of the memories, the tag's STATUS blocks, the diagnostic commands; and Bylith's resume (02 R57).
-/

namespace Sys2Proof.Machine

def updDbg (f : Dbg → Dbg) (s : Block) : Block := { s with dbg := f s.dbg }

/-! ### Sections of a dump (Table 21-7) -/

/-- First and last addresses of the register blocks as far as registers go (Table 4-1). -/
def regRanges : List (Nat × Nat) :=
  [(0x000000, 0x000060), (0x010000, 0x010014), (0x020000, 0x02173C), (0x030000, 0x032024), (0x040000, 0x040014),
   (0x050000, 0x05075C), (0x100000, 0x10D1F8), (0x180000, 0x181C6C), (0x1C0000, 0x1C0574), (0x200000, 0x200C5C),
   (0x240000, 0x24063C), (0x280000, 0x28027C), (0x2C0000, 0x2C027C), (0x300000, 0x30022C), (0x340000, 0x34044C),
   (0x380000, 0x38012C), (0x3C0000, 0x3C05BC), (0x400000, 0x40027C), (0x440000, 0x440144), (0x480000, 0x48022C),
   (0x4C0000, 0x4C0124)]

/-- Section 3: every implemented register with its value, the ports as 0, in address order. -/
def dumpRegs (s : Block) : List Byte :=
  (regRanges.flatMap fun r => (List.range ((r.2 - r.1) / 4 + 1)).map fun k => r.1 + 4 * k).flatMap fun a =>
    if (portOf a).isSome then p32 a ++ p32 0
    else match regRead a s with
      | some w => p32 a ++ p32 w.toNat
      | none => []

/-- An occupied entry: its request header with CHK, and 240 bytes of its payload. -/
def dumpEntry (e : Entry) : List Byte :=
  let h := header14 e.opcode e.tag e.flags e.len e.seq 0
  h ++ p16 (frameChk h e.payload) ++ fixLen 240 e.payload

/-- Section 4: entries, then queued responses, mailbox by mailbox. -/
def dumpBoxes (s : Block) : List Byte :=
  s.mbx.boxes.flatMap fun b => b.entries.flatMap dumpEntry ++ b.rsps.flatMap fun r => fixLen 256 (wordBytes r.words)

/-- Sections 2 to 6. The spec gives sections 2 and 5 no values, or no layout: free values. -/
def dumpSections (s : Block) : List (List Byte) × Block :=
  let (k, s1) := s.draw
  ([fixLen 1024 (Config.dumpBytes 2 k), (dumpRegs s).take 24800, (dumpBoxes s).take 98304,
    (Config.dumpBytes 5 k).take 98304, (newestLog 1024 s).take (32 * s.dbg.log.length)], s1)

/-- Offset and length of sections 2 to 6, then of section 7, which runs to the end of the 64 MiB area. -/
def dumpSpans : List (List Byte) → Nat → List (Nat × Nat)
  | [], o => [(o, 67108864 - o)]
  | x :: l, o => (o, x.length) :: dumpSpans l (o + x.length)

/-- The header's bytes 16 to 255. -/
def dumpTail (d : Dump) : List Byte :=
  p64 d.mtime ++ pi64 d.wallOfs ++ p64 serialNum ++ fixLen 36 (wordBytes d.vers) ++ p8 d.mode ++ p8 d.core ++ p16 0 ++
    p64 d.detail ++ p32 d.detail2 ++ p32 0 ++ ((0, 256) :: dumpSpans d.secs 256).flatMap (fun x => p32 x.1 ++ p32 x.2) ++
    zeros 104

/-- The 256-byte header (Table 21-6). -/
def dumpHeader (s : Block) (d : Dump) : List Byte :=
  p32 0x504D5544 ++ p16 0x0100 ++ p8 d.cause ++ p8 (dumpFlags s d) ++ p32 d.dseq ++
    p32 (crc32 (dumpTail d ++ d.secs.flatten)) ++ dumpTail d

/-- Sections 1 to 6. -/
def dumpData (s : Block) (d : Dump) : List Byte := dumpHeader s d ++ d.secs.flatten

/-! ### The fatal error (R582–R585) -/

/-- A dump is held that keeps a later one from being made: the DRAM dump, until it is acknowledged (R584, R585). -/
def dumpKept (s : Block) : Bool :=
  match s.dbg.dram with
  | none => false
  | some d => !(s.acked && (s.flash.map fun f => f.dseq == d.dseq).getD false)

/-- Bylith stops, Anvil begins the controlled stop; in OUTAGE every driver is off already. -/
def bylithStops (s : Block) : Block :=
  if s.inMode [.outage, .zeroised] then s else cstopBegin 6 s

/-- SAFESTOP once hold-over and the controlled stop have ended. -/
def safestopWanted (s : Block) : Block :=
  if s.inMode [.zeroised, .safestop] then s else safestopCheck { s with sys.safestopDue := true }

/-- Step 1 of Table 21-5; the sections are those of t0. Links, readers and displays stand still with Bylith. -/
def dumpBegin (cause core detail detail2 : Nat) (s : Block) : Block :=
  let (secs, s1) := dumpSections s
  let q := (s1.dbg.dseq + 1) % 4294967296
  let d : Dump := { cause, core, dseq := q, mtime := s.sys.mtime, detail, detail2, mode := s.sys.mode.code, truncated := false
                    wallOfs := s.sys.wallOfs, vers := s.upd.ver, secs }
  bsdSync (disSync (clsSync (mlkSync (bylithStops (updDbg (fun x => { x with writing := some d, dseq := q }) s1)))))

/-- A fatal error of Table 21-4. During a dump it only sets TRUNCATED; while a dump is held it makes no new one (R584). -/
def fatal (cause core detail detail2 : Nat) (s : Block) : Block :=
  let s1 := updDbg (fun x => { x with fatalCnt := inc32 x.fatalCnt }) s
  match s1.dbg.writing with
  | some d => updDbg (fun x => { x with writing := some { d with truncated := true } }) s1
  | none => if dumpKept s1 then safestopWanted (larkspurLost (bylithStops s1)) else dumpBegin cause core detail detail2 s1

/-- Bylith may fail: it runs (R582). -/
def fatalRow (cause core detail detail2 : Nat) (s : Block) : Block :=
  if s.pwr.heldBy != .no || s.pwr.larkspurDown then s else fatal cause core detail detail2 s

/-- `FATAL_ERROR`, of cause 1 to 4. -/
def execFatalError (cause core detail detail2 : Nat) (s : State) : Out := act (fatalRow cause core detail detail2) s

/-- The DUMP blocks of the tag (R588). -/
def dumpTagBytes (s : Block) (d : Dump) : List Byte :=
  dumpHeader s d ++ fixLen 1024 (d.secs.headD []) ++ newestLog 88 s

/-- Steps 2 to 5 of Table 21-5: the DRAM copy, the flash copy unless an unacknowledged one is kept (R585), the Larkspur
reset, `EV253`, the tag's blocks, SAFESTOP once the controlled stop has ended. -/
def dumpDone (d : Dump) (s : Block) : Block :=
  let keep := s.flash.isSome && !s.acked
  let s1 := updDbg (fun x => { x with
    writing := none, dram := some d
    parts := if keep then x.parts else tput x.parts (b2n s.sys.bankB) (some d)
    acks := if keep then x.acks else tput x.acks (b2n s.sys.bankB) false }) s
  let s2 := bylithUp (larkspurLost s1)
  let s3 := raise 253 (d.cause * 16777216 + d.dseq % 65536 * 256 + b2n (!keep)) s2
  safestopWanted (statusWrite (tagPut 16 (dumpTagBytes s3 d) s3))

/-- `BYLITH_RESUME`: Bylith's resume after a Larkspur reset (02 R57), or the end of a dump (Table 21-5). A dump does not go
on while the power-fail warning is latched (R584). -/
def execBylithResume (s : State) : Out :=
  act (fun b =>
    if b.pwr.heldBy != .no then b
    else match b.dbg.writing with
      | some d => if b.pwr.pfw then b else dumpDone d b
      | none => if b.pwr.larkspurDown then safestopCheck (bylithUp b) else b) s

/-! ### Memory errors (R580, R581) -/

/-- A corrected word: counted; `EV252` when the memory's count of the MTIME hour reaches ECCTH (R581). -/
def eccCorrected (mem : Nat) (s : Block) : Block :=
  let h := s.sys.mtime / 3600000
  let old := if s.dbg.hour == h then s.dbg.ceHour else List.replicate 9 0
  let n := tget old mem + 1
  let s1 := updDbg (fun x => { x with ce := tupd x.ce mem inc32, hour := h, ceHour := tput old mem n }) s
  let s2 := if mem == 8 then updTag (fun t => { t with eccCnt := inc32 t.eccCnt }) s1 else s1
  if n == s.cfg16 0x000F 32 then raise 252 mem s2 else s2

/-- Bytes of a plan buffer in plan SRAM. DESIGN CHOICE: domain after domain, buffer after buffer, row after row. -/
def planBuf : Nat := 4096 * 56

/-- An uncorrectable word of plan SRAM: a row of the active buffer plays as R167 says, one of a staging buffer that has not
been validated counts as not loaded. -/
def eccPlan (addr : Nat) (s : Block) : Block :=
  let d := addr / (2 * planBuf)
  let row := addr % planBuf / 56
  if d > 2 then s
  else if addr / planBuf % 2 == (s.dom d).actBuf then updDom d (fun x => { x with ecc := row :: x.ecc }) s
  else if (s.dom d).staging.stage == .armed then
    updDom d (fun x => { x with staging := { x.staging with ecc := row :: x.staging.ecc } }) s
  else updDom d (fun x => { x with staging := { x.staging with rows := x.staging.rows.filter fun r => r.1 != row } }) s

/-- A tag block holds its data in a shadow too: it is the block of a commit record (15 R459, R460). -/
def shadowed (k : Nat) (s : Block) : Bool :=
  let hit := fun (r : TagRec) => r.state != 0 && r.block ≤ k && k < r.block + r.count
  hit s.tag.rfrec || hit s.tag.wrec || (s.tag.pend.map fun w => w.block == k).getD false

/-- An uncorrectable word of tag memory: the block is read from its shadow, or not at all until it is written. -/
def eccTag (addr : Nat) (s : Block) : Block :=
  let k := addr / 128
  if 256 ≤ k || shadowed k s || s.tag.bad.contains k then s else updTag (fun t => { t with bad := k :: t.bad }) s

/-- The consequence of an uncorrectable word (Table 21-3). The copies of MRAM and the parts of flash are voted or checked
where they are read; in the group journal the next SUBMITTED record fails (06 R172). -/
def eccConsequence (mem addr core : Nat) (s : Block) : Block :=
  match mem with
  | 0 => if Config.dumpArea addr then s else fatalRow 1 core addr 0 s
  | 1 => fatalRow 1 core addr 1 s
  | 2 => if s.sys.mode == .zeroised then s else anvilReset s
  | 3 => if s.sys.mode == .zeroised then s else assayReset s
  | 4 => if s.sys.mode == .zeroised then s else crucibleReset s
  | 5 => eccPlan addr s
  | 6 => if Config.journalWord addr then { s with pln.jrnBad := true } else s
  | 8 => eccTag addr s
  | _ => s

/-- An uncorrectable word: counted, `EV252`, its consequence (R580). -/
def eccUncorrectable (mem addr core : Nat) (s : Block) : Block :=
  eccConsequence mem addr core (raise 252 (0x80000000 + mem) (updDbg (fun x => { x with ue := tupd x.ue mem inc32 }) s))

/-- `MEMORY_ECC_ERROR`: memory code 0 to 8, the byte address of the word, the first bad symbol, and the core that faults. -/
def execMemoryEccError (mem : Nat) (uncorrectable : Bool) (addr symbol core : Nat) (s : State) : Out :=
  act (fun b =>
    if b.pwr.heldBy != .no || mem > 8 then b
    else
      let b1 := updDbg (fun x => { x with
        eccLast := reg [fld 31 31 (b2n uncorrectable), fld 11 8 mem, fld 5 0 symbol], eccAddr := addr }) b
      if uncorrectable then eccUncorrectable mem addr core b1 else eccCorrected mem b1) s

/-! ### Self-tests of the memories (R581, R589) -/

/-- `MEMORY_SCRUB`: a full pass. -/
def execMemoryScrub (s : State) : Out :=
  act (fun b => if b.pwr.heldBy != .no then b
    else countSelfTest 8 false (updDbg (fun x => { x with scrubs := (x.scrubs + 1) % 65536, scrubAge := 0 }) b)) s

/-- `RECORD_COPY_CHECK`: a copy that fails is rewritten from the other. -/
def execRecordCopyCheck (failed : Bool) (s : State) : Out :=
  act (fun b => if b.pwr.heldBy != .no then b else countSelfTest 9 failed b) s

/-- `FLASH_HASH_CHECK`: a mismatch raises `EV252` with memory 7. -/
def execFlashHashCheck (mismatch : Bool) (s : State) : Out :=
  act (fun b =>
    if b.pwr.heldBy != .no then b
    else
      let b1 := countSelfTest 10 mismatch b
      if mismatch then raise 252 0x80000007 b1 else b1) s

/-- `TAG_STATUS_REFRESH` (R587). -/
def execTagStatusRefresh (s : State) : Out := act statusWrite s

/-! ### Commands (Table 21-10) -/

/-- Entries from a sequence number on, oldest first: `l` holds them newest first. -/
def entriesFrom {α : Type} (seq : α → Nat) (first n : Nat) (l : List α) : List α :=
  ((l.reverse).filter fun e => first ≤ seq e).take n

def specDiagLogRead : CmdSpec where
  op := 0x1000
  role := .general
  modes := .zeroised :: mServed
  len := lenIs 8
  body := fun _ p s =>
    let n := u16At p 4
    if n == 0 || n > 127 then refuse stBadParam s
    else
      let es := entriesFrom (fun e : LogEntry => e.lseq) (u32At p 0) n s.dbg.log
      ok (p16 es.length ++ p16 0 ++ es.flatMap fun e => e.bytes) s

/-- `CMD_DIAG_LOG_READ`. -/
def execCmdDiagLogRead (h : Req) (p : List Byte) (s : State) : Out := act (runCmd specDiagLogRead h p) s

/-- An ASSAY event-log entry as its 128 bytes, signed with slot 2 (R579). -/
def ALogEntry.bytes (e : ALogEntry) : List Byte :=
  let b := p32 e.aseq ++ p16 e.kind ++ p16 0 ++ p64 e.mtime ++ fixLen 48 e.detail
  b ++ slotSign 2 b

def specDiagAlogRead : CmdSpec where
  op := 0x1001
  role := .general
  modes := .zeroised :: mServed
  len := lenIs 8
  body := fun _ p s =>
    let n := u16At p 4
    if n == 0 || n > 31 then refuse stBadParam s
    else
      let es := entriesFrom (fun e : ALogEntry => e.aseq) (u32At p 0) n s.dbg.alog
      ok (p16 es.length ++ p16 0 ++ es.flatMap fun e => e.bytes) s

/-- `CMD_DIAG_ALOG_READ`. -/
def execCmdDiagAlogRead (h : Req) (p : List Byte) (s : State) : Out := act (runCmd specDiagAlogRead h p) s

/-- The dump of SOURCE 0 DRAM, 1 flash. -/
def dumpOf (source : Nat) (s : Block) : Option Dump :=
  if source == 0 then s.dbg.dram else if source == 1 then s.flash else none

def specDiagDumpInfo : CmdSpec where
  op := 0x1002
  role := .general
  modes := mServed
  len := lenIs 4
  body := fun _ p s => match dumpOf (u8At p 0) s with
    | some d => ok (dumpHeader s d) s
    | none => refuse stBadParam s

/-- `CMD_DIAG_DUMP_INFO`. -/
def execCmdDiagDumpInfo (h : Req) (p : List Byte) (s : State) : Out := act (runCmd specDiagDumpInfo h p) s

def specDiagDumpRead : CmdSpec where
  op := 0x1003
  role := .general
  modes := mServed
  len := lenIs 8
  body := fun _ p s =>
    let n := u16At p 2
    let o := u32At p 4
    match dumpOf (u8At p 0) s with
    | none => refuse stBadParam s
    | some d =>
      let b := dumpData s d
      if n == 0 || n > 4072 || b.length < o + n then refuse stBadParam s else ok (bytesAt b o n) s

/-- `CMD_DIAG_DUMP_READ`. -/
def execCmdDiagDumpRead (h : Req) (p : List Byte) (s : State) : Out := act (runCmd specDiagDumpRead h p) s

def specDiagDumpAck : CmdSpec where
  op := 0x1004
  role := .general
  modes := mServed
  len := lenIs 4
  body := fun _ p s =>
    let q := u32At p 0
    if (s.flash.map fun f => f.dseq == q).getD false then
      ok [] (updDbg (fun x => { x with acks := tput x.acks (b2n s.sys.bankB) true }) s)
    else if (s.dbg.dram.map fun f => f.dseq == q).getD false then ok [] (updDbg (fun x => { x with dram := none }) s)
    else refuse stBadParam s

/-- `CMD_DIAG_DUMP_ACK`: the flash dump acknowledged; a dump held in DRAM only is given up. -/
def execCmdDiagDumpAck (h : Req) (p : List Byte) (s : State) : Out := act (runCmd specDiagDumpAck h p) s

/-- `ACCEPTED`, and the fatal error follows it (Table 21-4 cause 4). -/
def specDiagDumpForce : CmdSpec where
  op := 0x1080
  role := .general
  modes := mCommission
  len := lenIs 4
  body := fun r _ s => .waits (fatal 4 0xFF 0 0 (respondAccepted r s))

/-- `CMD_DIAG_DUMP_FORCE`. -/
def execCmdDiagDumpForce (h : Req) (p : List Byte) (s : State) : Out := act (runCmd specDiagDumpForce h p) s

/-- Bytes of a dump at any offset of its area; section 7 holds memory contents: free values. -/
def dumpBytesAt (s : Block) (d : Dump) (o n : Nat) : List Byte :=
  let b := dumpData s d
  (List.range n).map fun i =>
    if o + i < b.length then b.getD (o + i) 0 else (Config.dumpBytes 7 (d.dseq * 67108864 + o + i)).headD 0

/-- The bytes of a SOURCE: the 64 MiB DRAM area, the 4 MiB dump partition of the active bank (01 R13). -/
def dumpSpace (source : Nat) : Nat := if source == 1 then 4194304 else 67108864

def specDiagDumpFull : CmdSpec where
  op := 0x1081
  role := .general
  modes := mServed
  len := lenIs 8
  body := fun _ p s =>
    let n := u16At p 2
    let o := u32At p 4
    match dumpOf (u8At p 0) s with
    | none => refuse stBadParam s
    | some d => if n == 0 || n > 4072 || dumpSpace (u8At p 0) < o + n then refuse stBadParam s else ok (dumpBytesAt s d o n) s

/-- `CMD_DIAG_DUMP_FULL`. -/
def execCmdDiagDumpFull (h : Req) (p : List Byte) (s : State) : Out := act (runCmd specDiagDumpFull h p) s

def specsDiag : List CmdSpec :=
  [specDiagLogRead, specDiagAlogRead, specDiagDumpInfo, specDiagDumpRead, specDiagDumpAck, specDiagDumpForce,
   specDiagDumpFull]

end Sys2Proof.Machine
end

