-- ==== Sys2Proof/Machine/Host.lean ====
section
/-!
DEFINITION. The host's accesses: HSPI frames (04 R95–R101), single register words with their effects, mailbox frames over
Ethernet (05 R126, R127), the assembly time-out and host silence (01 R28, 05 R125).
-/

namespace Sys2Proof.Machine

/-! ### HSPI frames (R96–R101) -/

def updHst (f : Hst → Hst) (s : Block) : Block := { s with hst := f s.hst }

/-- The module drives nothing: the supply is absent, or the module is held in reset before step 1 of SELFTEST (R101). After
supply end, and after a power-fail warning in SELFTEST, it drives 0x00. -/
def highZ (s : Block) : Bool := s.pwr.heldBy != .no && s.pwr.heldBy != .supply && !s.pwr.pfwSelftest

/-- A frame that is not performed at all: the module drives `n` bytes of 0x00, or nothing (R101). -/
def unservedTx (n : Nat) (s : Block) : Block := updHst (fun h => { h with lastTx := if highZ s then [] else zeros n }) s

/-- The bytes of CMD and ADDR (Table 4-2). -/
def frameHead (cmd addr : Nat) : List Byte := p8 cmd ++ leBytes 3 addr

/-- What the module drives in a read frame: TSB, RDATA, MCHK over both. -/
def readTx (t : Nat) (ws : List Word) : List Byte :=
  let d := p8 t ++ wordBytes ws
  d ++ p16 (crc16 d)

/-- What the module drives in a write frame: TSB and its complement. -/
def writeTx (t : Nat) : List Byte := p8 t ++ p8 (255 - t)

/-- Every word of the frame raises a bus error (R104). -/
def frameBad (cmd addr : Nat) : Bool := addr % 4 != 0 || bits cmd 5 4 != 0

/-- A frame with a wrong HCRC: nothing is performed, `HST_CRC_CNT` counts it (R98). -/
def crcFrame (tx : Nat → List Byte) (s : Block) : Block :=
  let t := tsb false true false s.hst.prevAbort s
  updHst (fun h => { h with crc := true, crcCnt := inc32 h.crcCnt, prevAbort := false, lastTx := tx t }) s

/-- A frame with a correct HCRC counted. -/
def goodFrame (s : Block) : Block :=
  updHst (fun h => { h with frameCnt := inc32 h.frameCnt, prevAbort := false }) { s with mbx.chanAt := s.sys.mtime }

/-- A read frame of `n` words: the status byte is sampled before any word is read (R100). -/
def readFrame (cmd addr n hcrc : Nat) (s : Block) : Block :=
  if !served s then unservedTx (4 * n + 3) s
  else if crc16 (frameHead cmd addr) != hcrc then crcFrame (fun t => readTx t (List.replicate n 0)) s
  else
    let bad := frameBad cmd addr
    let berr := bad || (wordAddrs addr n).any fun a => a ≥ 0x1000000 || !readable a s
    let t := tsb berr false false s.hst.prevAbort s
    let x := readMany 0 bad addr n (goodFrame s)
    updHst (fun h => { h with lastTx := readTx t x.rd }) x.s

/-- A write frame: the status byte is sampled after every word has been performed (R100). -/
def writeFrame (cmd addr : Nat) (ws : List Word) (hcrc : Nat) (s : Block) : Block :=
  if !served s then unservedTx 2 s
  else if crc16 (frameHead cmd addr ++ wordBytes ws) != hcrc then crcFrame writeTx s
  else
    let x := writeMany 0 (frameBad cmd addr) addr ws (goodFrame s)
    updHst (fun h => { h with lastTx := writeTx (tsb x.berr false x.np s.hst.prevAbort x.s) }) x.s

/-- `HSPI_READ_FRAME`: LEN + 1 words. -/
def execHspiReadFrame (cmd : Byte) (addr : BitVec 24) (hcrc : BitVec 16) (s : State) : Out :=
  act (readFrame cmd.toNat addr.toNat (cmd.toNat % 16 + 1) hcrc.toNat) s

/-- `HSPI_WRITE_FRAME`. -/
def execHspiWriteFrame (cmd : Byte) (addr : BitVec 24) (ws : List Word) (hcrc : BitVec 16) (s : State) : Out :=
  act (writeFrame cmd.toNat addr.toNat ws hcrc.toNat) s

/-- `HSPI_FRAME_ABORT` (R99). While the window is not served no counter changes (R101). -/
def execHspiFrameAbort (s : State) : Out :=
  act (fun b =>
    if !served b then b
    else updHst (fun h => { h with abort := true, abortCnt := inc32 h.abortCnt, prevAbort := true, lastTx := [] }) b) s

/-! ### One word: a frame of one word with its HCRC right -/

/-- One word written by the host. -/
def hostWrite (addr : Nat) (v : Word) (s : Block) : Block :=
  writeFrame 0 addr [v] (crc16 (frameHead 0 addr ++ wordBytes [v])) s

/-- One word read by the host. -/
def hostRead (addr : Nat) (s : Block) : Block := readFrame 0x80 addr 1 (crc16 (frameHead 0x80 addr)) s

/-- `REG_WRITE` (R104): by access type, mode and address. -/
def execRegWrite (addr : BitVec 24) (value : Word) (s : State) : Out := act (hostWrite addr.toNat value) s

/-- `SHADOW_WRITE` (R107): the word goes into the register's shadow. -/
def execShadowWrite (addr : BitVec 24) (value : Word) (s : State) : Out := act (hostWrite addr.toNat value) s

/-- `PEND_DISCARD` (R108): a write of 1 to bits of a block's PEND register. -/
def execPendDiscard (addr : BitVec 24) (value : Word) (s : State) : Out := act (hostWrite addr.toNat value) s

/-- Address of word `k` of a mailbox's port (Table 5-9). -/
def portAddr (mb k : Nat) : Nat := 0x021000 + 0x100 * mb + 4 * (k % 16)

/-- `MBX_PORT_WRITE` (R124). -/
def execMbxPortWrite (mb k : Nat) (value : Word) (s : State) : Out := act (hostWrite (portAddr mb k) value) s

/-- `MBX_PORT_READ` (R133). -/
def execMbxPortRead (mb k : Nat) (s : State) : Out := act (hostRead (portAddr mb k)) s

/-- `EVT_RAW_CLEAR` (R143): `EVT_RAWg`. -/
def execEvtRawClear (g : Nat) (value : Word) (s : State) : Out := act (hostWrite (0x030000 + 0x100 * g) value) s

/-- `EVT_SET_WRITE` (R145): `EVT_SETg`. -/
def execEvtSetWrite (g : Nat) (value : Word) (s : State) : Out := act (hostWrite (0x03001C + 0x100 * g) value) s

/-- `EVT_Q_POP` (R146): POP written. -/
def execEvtQPop (s : State) : Out := act (hostWrite 0x032004 1) s

/-- `EVT_Q_CLR_LOST` (R146): CLR_LOST written. -/
def execEvtQClrLost (s : State) : Out := act (hostWrite 0x032004 2) s

/-- `HLOCK_ACQ_WRITE` (06 R178): `PLN_HLOCK_ACQ`. -/
def execHlockAcqWrite (value : Word) (s : State) : Out := act (hostWrite 0x050480 value) s

/-- `HLOCK_REL_WRITE` (06 R178): `PLN_HLOCK_REL`. -/
def execHlockRelWrite (value : Word) (s : State) : Out := act (hostWrite 0x050484 value) s

/-- `ASY_TINJ_CTRL_WRITE` (07 R219): `ASY_TINJ_CTRL`. -/
def execAsyTinjCtrlWrite (value : Word) (s : State) : Out := act (hostWrite 0x100034 value) s

/-- `CKP_PFW_TEST_WRITE` (02 R62): `CKP_PFW_TEST`. -/
def execCkpPfwTestWrite (value : Word) (s : State) : Out := act (hostWrite 0x040010 value) s

/-! ### Mailbox frames over Ethernet (R126, R127) -/

/-- The bytes handed to a port's TLS session. -/
def ethSend (port : Nat) (d : List Byte) (s : Block) : Block := ethOut (port - 1) d s

/-- An answer outside every entry: final, with a status and no payload. -/
def ethAnswer (port mb status : Nat) (a : Arrived) (s : Block) : Block :=
  ethSend port (p8 mb ++ p8 0 ++ p16 16 ++
    wordBytes (responseWords a.opcode a.tag (flRsp + flFinal) a.seq status [])) s

/-- A frame behind its prefix: mailbox number, 0x00, length. A frame whose prefix is wrong is dropped. -/
def ethFrame (port : Nat) (f : List Byte) (s : Block) : Block :=
  let mb := u8At f 0
  if !served s || !tget s.cru.tls (port - 1) || f.length < 20 || mb > 7 || u8At f 1 != 0 || u16At f 2 + 4 != f.length then s
  else
    let a := parseRequest (f.drop 4)
    if a.len ≤ 4080 && u16At f 2 != 16 + a.len then s
    else if !bindOk (s.box mb) (1 + port) a.flags then ethAnswer port mb stBadParam a s
    else if (s.box mb).free == 0 then ethAnswer port mb stBusy a s
    else arrive mb (1 + port) a s

/-- `ETH_MBX_FRAME`: on ETH1 or ETH2, with its prefix. -/
def execEthMbxFrame (port : Nat) (frame : List Byte) (s : State) : Out :=
  act (fun b => if port == 1 || port == 2 then ethFrame port frame b else b) s

/-! ### Time-outs (R28, R125) -/

/-- `MBX_ASM_TIMEOUT` (R125). -/
def execMbxAsmTimeout (mb : Nat) (s : State) : Out :=
  act (fun b =>
    let n := (b.box mb).asm.length
    if n == 0 then b else raise 38 (n * 256 + mb) (updBox mb (fun x => { x with asm := [] }) b)) s

/-- A tunnelled session with nothing left to send waits on a message of the host (Table 1-7). -/
def waitsOnHost (s : Block) (n : Nat) : Bool := (s.ses n).tunnel && (s.ses n).st.stoppable && (s.ol n).tunTx.isEmpty

/-- `HOST_SILENT` (R28): the behaviour of Table 1-7 comes into force for every host-assisted function. -/
def execHostSilent (s : State) : Out :=
  act (fun b =>
    if !served b || b.split == 0 || b.mbx.silent.isSome || b.sys.mtime < b.mbx.lastHost + b.hostWdg then b
    else
      let b1 := raise 34 b.split { b with mbx := { b.mbx with silent := some b.sys.mtime, fallback := b.split } }
      let b2 := if bit b.split 1 then
          outlets.foldl (fun s n => if waitsOnHost s n then stopSession n 3 s else s) b1
        else b1
      disSync (mlkSync (replan b2))) s

end Sys2Proof.Machine
end

