-- ==== Sys2Proof/Machine/Commands.lean ====
section
/-!
DEFINITION. The system commands (05 R149–R151; 04 R106) and the start of an accepted command (05 R128–R132).
-/

namespace Sys2Proof.Machine

/-! ### Identity, status, time -/

def specSysInfoGet : CmdSpec where
  op := 0x0100
  role := .any
  modes := mAll
  len := lenIs 0
  body := fun _ _ s =>
    ok (p32 sysId.toNat ++ p64 serialNum ++ wordBytes (sysLifecycle s :: (List.range 9).map fun k => sysVer k s)) s

/-- `CMD_SYS_INFO_GET`. -/
def execCmdSysInfoGet (h : Req) (p : List Byte) (s : State) : Out := act (runCmd specSysInfoGet h p) s

def specSysStatusGet : CmdSpec where
  op := 0x0101
  role := .any
  modes := mAll
  len := lenIs 0
  body := fun _ _ s =>
    ok (wordBytes [sysMode s, sysFlags s] ++ p64 s.sys.mtime ++ pi64 s.sys.wallOfs ++
      wordBytes [ckpHoldStat s, ckpRailStat s]) s

/-- `CMD_SYS_STATUS_GET`. -/
def execCmdSysStatusGet (h : Req) (p : List Byte) (s : State) : Out := act (runCmd specSysStatusGet h p) s

/-- The new offset is applied at the next B-SEC (16 R481); the response carries it. -/
def specSysWallSet : CmdSpec where
  op := 0x0104
  role := .general
  modes := mRun
  len := lenIs 8
  body := fun _ p s =>
    let ofs := sgn 64 (u64At p 0 + 18446744073709551616 - s.sys.mtime % 18446744073709551616)
    ok (pi64 ofs) { s with sys := { s.sys with wallDue := s.sys.wallDue ++ [(ofs, false)] } }

/-- `CMD_SYS_WALL_SET`. -/
def execCmdSysWallSet (h : Req) (p : List Byte) (s : State) : Out := act (runCmd specSysWallSet h p) s

/-! ### The site configuration (R150, R151) -/

def specSysConfigLoad : CmdSpec where
  op := 0x0105
  role := .general
  modes := mStandby
  len := fun p => 5 ≤ p.length && p.length ≤ 4080
  body := fun r p s =>
    let o := u32At p 0
    let d := p.drop 4
    if o % 4 != 0 || o ≥ 65536 || o + d.length > 65536 then refuse stBadParam s
    else
      let put := fun (old : List Byte) => ok [] { s with cfg := { s.cfg with stage := some (r.mb, putBytes old o d) } }
      match s.cfg.stage with
      | none => put []
      | some (mb, old) => if mb == r.mb then put old else refuse stBusy s

/-- `CMD_SYS_CONFIG_LOAD`. -/
def execCmdSysConfigLoad (h : Req) (p : List Byte) (s : State) : Out := act (runCmd specSysConfigLoad h p) s

/-- A commit by the mailbox that holds the area empties it, whether it succeeds or fails (R150). DESIGN CHOICE: it takes `LOCK17`
(06 Table 6-12) in the mailbox's name, as R179 has commands take locks. -/
def specSysConfigCommit : CmdSpec where
  op := 0x0106
  role := .general
  modes := mStandby
  len := lenIs 4
  lock := fun _ _ => [17]
  body := fun r p s => match s.cfg.stage with
    | none => refuse stBadParam s
    | some (mb, staged) =>
      if mb != r.mb then refuse stBusy s
      else
        let (st, s1) := configCommit (u32At p 0) staged s
        .done { s1 with cfg := { s1.cfg with stage := none } } st []

/-- `CMD_SYS_CONFIG_COMMIT`. -/
def execCmdSysConfigCommit (h : Req) (p : List Byte) (s : State) : Out := act (runCmd specSysConfigCommit h p) s

/-- DESIGN CHOICE: bytes beyond the image's end are refused with `BAD_PARAM`; R149 does not say. -/
def specSysConfigRead : CmdSpec where
  op := 0x0107
  role := .general
  modes := mAll
  len := lenIs 8
  body := fun _ p s =>
    let o := u32At p 0
    let n := u16At p 4
    let img := cfgImage s
    if n == 0 || n > 4080 || img.length < o + n then refuse stBadParam s else ok (bytesAt img o n) s

/-- `CMD_SYS_CONFIG_READ`. -/
def execCmdSysConfigRead (h : Req) (p : List Byte) (s : State) : Out := act (runCmd specSysConfigRead h p) s

/-! ### Events -/

def specSysEvtRead : CmdSpec where
  op := 0x0110
  role := .general
  modes := mAll
  len := lenIs 4
  body := fun _ p s =>
    let m := u16At p 0
    if m == 0 || m > 169 then refuse stBadParam s
    else
      let q := s.evt.queue.take m
      ok (p16 q.length ++ p16 s.evt.lost ++ q.flatMap fun e => wordBytes ((List.range 6).map e.word))
        { s with evt := { s.evt with
            queue := s.evt.queue.drop m, lost := 0, refusing := s.evt.refusing && q.isEmpty } }

/-- `CMD_SYS_EVT_READ`: the entries returned are popped, LOST is cleared. -/
def execCmdSysEvtRead (h : Req) (p : List Byte) (s : State) : Out := act (runCmd specSysEvtRead h p) s

/-! ### Tunnelled register access (04 R106) -/

def mRegRead : List Mode := mRun ++ [.activate, .safestop, .zeroised]

def specSysRegRead : CmdSpec where
  op := 0x0120
  role := .general
  modes := mRegRead
  len := lenIs 8
  body := fun _ p s =>
    let a := u32At p 0
    let n := u16At p 4
    if n == 0 || n > 1019 || a ≥ 0x1000000 then refuse stBadParam s
    else
      let x := readMany 1 (a % 4 != 0) a n s
      ok (p8 (tsb x.berr false false false s) ++ zeros 3 ++ wordBytes x.rd) x.s

/-- `CMD_SYS_REG_READ`. -/
def execCmdSysRegRead (h : Req) (p : List Byte) (s : State) : Out := act (runCmd specSysRegRead h p) s

def specSysRegWrite : CmdSpec where
  op := 0x0121
  role := .general
  modes := mRun
  len := fun p => 8 ≤ p.length && p.length == 8 + 4 * u16At p 4
  body := fun _ p s =>
    let a := u32At p 0
    let n := u16At p 4
    if n == 0 || n > 1018 || a ≥ 0x1000000 then refuse stBadParam s
    else
      let x := writeMany 1 (a % 4 != 0) a (bytesWords n (p.drop 8)) s
      ok (p8 (tsb x.berr false x.np false x.s) ++ zeros 3) x.s

/-- `CMD_SYS_REG_WRITE`. -/
def execCmdSysRegWrite (h : Req) (p : List Byte) (s : State) : Out := act (runCmd specSysRegWrite h p) s

def specsSys : List CmdSpec :=
  [specSysInfoGet, specSysStatusGet, specSysModeSet, specSysSoftReset, specSysWallSet, specSysConfigLoad,
   specSysConfigCommit, specSysConfigRead, specSysEvtRead, specSysRegRead, specSysRegWrite]

/-! ### COMMAND_START (05 R128–R132) -/

/-- Every command that this release implements (05 R138); the tag's memory is read by one of them. -/
def specsAll (mem : List Host.Cell) : List CmdSpec :=
  specsSys ++ specsPlan ++ specsGroup ++ specsAsy ++ specsNrg ++ specsBil ++ specsOutlet ++ specsAlc ++ specsRcm ++
    specsSaf ++ specsCru ++ specsCls mem ++ specsMlk ++ specsDis ++ specsLsw ++ specsUpd ++ specsDiag

def specOf (mem : List Host.Cell) (op : Nat) : Option CmdSpec := (specsAll mem).find? fun c => c.op == op

/-- An entry that starts: check 4, then checks 5 to 8 and the command (R128). -/
def startEntry (mem : List Host.Cell) (mb : Nat) (e : Entry) (s : Block) : Block :=
  let r : CmdRef := { mb, id := e.id }
  match specOf mem e.opcode with
  | none => complete r stBadOpcode [] (markStarted r s)
  | some c => runStarted c r e.payload (markStarted r s)

/-- An entry that has got the lock it waited for goes on (06 R179). -/
def resumeEntry (mem : List Host.Cell) (mb : Nat) (e : Entry) (s : Block) : Block :=
  let r : CmdRef := { mb, id := e.id }
  match specOf mem e.opcode with
  | none => s
  | some c => runChecked c r e.payload (markStarted r s)

/-- The next command of a mailbox: one that goes on, else the next that may start. -/
def commandStart (mem : List Host.Cell) (mb : Nat) (s : Block) : Block :=
  if !mayStart s then s
  else match (s.box mb).entries.find? fun e => e.phase == .resume && e.final.isNone with
    | some e => resumeEntry mem mb e s
    | none => match nextReady (s.box mb).entries false with
      | some e => startEntry mem mb e s
      | none => s

/-- `COMMAND_START`, with what a command of any kind may let happen at once: sessions' ends, units due immediately, demands
that have ended, a soft reset with every outlet open. -/
def execCommandStart (mb : Nat) (s : State) : Out :=
  lift (fun m b => softCheck (refreshMasks (boundary 0 0 (drainSes (commandStart m mb b))))) s

end Sys2Proof.Machine
end

