-- ==== Sys2Proof/Machine/Timers.lean ====
section
/-!
DEFINITION. The commands that report that a configured or fixed time has passed: MTIME goes on to that time where it has not
reached it (`timeAt`), and the effect follows.
-/

namespace Sys2Proof.Machine

/-! ### Sessions and vehicle handshake (10) -/

/-- `AUTH_TIMEOUT` (Table 10-6): an OPEN session stops with reason 2, AUTHTO after it opened. -/
def execAuthTimeout (outlet : Nat) (s : State) : Out :=
  act (fun b =>
    if outletOk outlet && (b.ses outlet).st == .open then
      stopSession outlet 2 (timeAt ((b.ses outlet).stAt + b.cfg8 0x0006 1 * 1000) b)
    else b) s

/-- `PAUSE_TIMEOUT` (Table 10-6): a PAUSED session stops with reason 1, PAUSEWIN after it paused. -/
def execPauseTimeout (outlet : Nat) (s : State) : Out :=
  act (fun b =>
    if outletOk outlet && (b.ses outlet).st == .paused then
      stopSession outlet 1 (timeAt ((b.ses outlet).stAt + b.cfg16 0x0006 2 * 1000) b)
    else b) s

/-- `SLAC_TIMEOUT` (R313): no match by SLACINIT, or no SessionSetupReq within 20 s of the match. -/
def execSlacTimeout (outlet : Nat) (s : State) : Out :=
  act (fun b =>
    let c := (b.ol outlet).slac
    if outletOk outlet && (b.ses outlet).st.stoppable && !c.waitF then
      if c.result == 1 || c.result == 4 then handshakeFail outlet 1 (timeAt (c.since + b.cfg8 0x0006 0 * 1000) b)
      else if c.result == 2 && c.setup then handshakeFail outlet 5 (timeAt (c.since + 20000) b)
      else b
    else b) s

/-- State F over: back to 50 ‰ and a second SLAC window. -/
def slacAgain (n : Nat) (s : Block) : Block :=
  setPilot n 1 50 (updSlac n (fun _ => { Slac.none with result := 1, second := true, since := s.sys.mtime }) s)

/-- `SLAC_RETRY_WAIT_END` (R313): 4 s in state F have passed. -/
def execSlacRetryWaitEnd (outlet : Nat) (s : State) : Out :=
  act (fun b =>
    if outletOk outlet && (b.ol outlet).slac.waitF && (b.ses outlet).st.stoppable then
      slacAgain outlet (timeAt ((b.ol outlet).slac.since + 4000) b)
    else b) s

/-- `CERT_RESP_TIMEOUT` (R320): no answer from the host within 4.5 s. -/
def execCertRespTimeout (outlet : Nat) (s : State) : Out :=
  act (fun b =>
    if outletOk outlet && (b.ol outlet).certAt.isSome then
      sayFailed outlet ansNoCertificate (updOl outlet (fun o => { o with certAt := none })
        (timeAt ((b.ol outlet).certAt.getD 0 + 4500) b))
    else b) s

/-- `V2G_SEQUENCE_TIMEOUT` (R321): 60 s without the vehicle's next request; stop with reason 1. -/
def execV2gSequenceTimeout (outlet : Nat) (s : State) : Out :=
  act (fun b =>
    let e := b.ses outlet
    if outletOk outlet && e.st.stoppable && e.st != .paused && (e.proto ≥ 2 || (b.ol outlet).slac.result == 2) then
      stopSession outlet 1 (updOl outlet (fun o => { o with errCause := 5 }) (timeAt (e.waitTimer + 60000) b))
    else b) s

/-! ### Allocation and switching (11) -/

/-- `UTIL_LIMIT_EXPIRY` (R331): the utility limit is removed from the caps. -/
def execUtilLimitExpiry (s : State) : Out :=
  act (fun b =>
    if b.alc.util == Limit4.off then b
    else
      let b1 := timeAt b.alc.utilExp b
      { b1 with alc := { b1.alc with util := Limit4.off, utilExp := 0, capWhy := 4 } }) s

/-- `OVERDRAW` (R342): it has lasted 5 s in cycles that began at least LAG after the signalled current was last lowered. -/
def execOverdraw (outlet irmsDA : Nat) (s : State) : Out :=
  act (fun b =>
    if supervised outlet irmsDA b then
      overdraw outlet irmsDA (timeAt ((b.ao outlet).sigLow + b.cfg16 0x0008 16 + 5000) b)
    else b) s

/-- `CD_TEST_HOLD_END` (R363): HOLD after FB was accepted closed, the driver opens off load. -/
def execCdTestHoldEnd (driver : Nat) (s : State) : Out :=
  act (fun b =>
    match b.alc.test with
    | some t =>
      if t.driver == driver && t.phase == 1 then
        release driver false { timeAt ((b.drv driver).at_ + (b.drv driver).tClose + t.hold) b with
          alc.test := some { t with phase := 2 } }
      else b
    | none => b) s

/-- `FB_CLOSE_DEADLINE` (Table 11-4 step 3): NO_CLOSE where FB is still open at TCLOSE. -/
def execFbCloseDeadline (driver : Nat) (s : State) : Out :=
  act (fun b => if b.pwr.heldBy == .no && driverOk driver && (b.drv driver).on && !(b.drv driver).fb &&
      !(b.drv driver).confirmed && !(driver == 16 && !b.cd16use) then
    fbFault driver 1 (timeAt ((b.drv driver).at_ + b.tclose) b) else b) s

/-- The release of driver k has come to its open deadline: NO_OPEN where FB is still closed. -/
def openDue (k : Nat) (s : Block) : Block :=
  let s1 := updDrv k (fun d => { d with coil := .off, confirmed := true }) s
  if (s.drv k).fb && !(k == 16 && !s.cd16use) then fbFault k 2 s1 else s1

/-- `FB_OPEN_DEADLINE` (Table 11-5 step 3): TOPEN after the release. -/
def execFbOpenDeadline (driver : Nat) (s : State) : Out :=
  act (fun b =>
    if b.pwr.heldBy == .no && driverOk driver && (b.drv driver).coil == .releasing then
      openDue driver (timeAt ((b.drv driver).at_ + b.topen) b)
    else b) s

/-- `COIL_PULLIN_END` (R344): the coil changes to economised hold PULLMS after it was energised. -/
def execCoilPullinEnd (driver : Nat) (s : State) : Out :=
  act (fun b => if driverOk driver && (b.drv driver).coil == .pullIn then
    updDrv driver (fun d => { d with coil := .hold }) (timeAt ((b.drv driver).at_ + b.cfg16 0x0008 26) b) else b) s

/-- `CONTACTOR_RELEASE_TIMEOUT`: released at t0 + 3 s; with 1 A or more `EV147` is raised and LOADED set. -/
def execContactorReleaseTimeout (outlet currentDA : Nat) (s : State) : Out :=
  act (fun b =>
    if outletOk outlet && (b.drv outlet).opening.isSome then
      let b1 := timeAt ((b.drv outlet).opening.getD 0 + 3000) b
      if currentDA ≥ 10 then raise 147 (min currentDA 65535 * 65536 + outlet) (release outlet true b1)
      else release outlet false b1
    else b) s

/-- `CABINET_PRETIME`: PRETIME after FB14 accepted closed; CD15 is energised and the cabinet is ON. -/
def execCabinetPretime (s : State) : Out :=
  act (fun b =>
    if b.alc.cabinet == .precharge && (b.drv 14).on && (b.drv 14).fb then
      dcCabinetOn (setCabinet .on (energise 15 (timeAt (b.alc.cabAt + b.pretime) b)))
    else b) s

/-- `PM_NODE_LOST` (R361): no STATUS for 100 ms. -/
def execPmNodeLost (link node : Nat) (s : State) : Out :=
  act (fun b => if canOk link && 1 ≤ node && node ≤ 15 && (nodeRec link node b).present then
    nodeLost link node (timeAt ((nodeRec link node b).statusAt + 100) b) else b) s

/-! ### Residual current (12) -/

/-- MTIME at which the retry of outlet n's self-test began to wait. -/
def retrySince (n : Nat) (s : Block) : Option Nat :=
  match (s.rc n).run with
  | .retryWait t => some t
  | _ => none

/-- `RCM_SELFTEST_RETRY` (12 R375): the second attempt, 1 s after the failure. -/
def execRcmSelftestRetry (outlet : Nat) (s : State) : Out :=
  act (fun b =>
    match retrySince outlet b with
    | some t => if outletOk outlet then updRc outlet (fun r => { r with run := .session true }) (timeAt (t + 1000) b) else b
    | none => b) s

/-! ### Load switches (18) -/

/-- `LSW_THERMAL_CLEAR` (R521, R522): at or below 150 °C, and 1 s after the latch set. -/
def execLswThermalClear (ch : Nat) (tjDC : Int) (s : State) : Out :=
  act (fun b =>
    if lsOk ch && (b.ls ch).latch && tjDC ≤ 1500 then
      lsWait ch (raise 243 ch (updLs ch (fun c => { c with latch := false, tj := tjDC })
        (timeAt ((b.ls ch).latchAt + 1000) b)))
    else b) s

/-- `LSW_INRUSH_END` (Table 18-4): TIN after the start. -/
def execLswInrushEnd (ch : Nat) (s : State) : Out :=
  act (fun b =>
    if lsOk ch && (b.ls ch).st == .inrush then
      let b1 := timeAt ((b.ls ch).startAt + u16At (profInUse ch b) 4) b
      lsGo ch .on (updLs ch (fun c => { c with onAt := b1.sys.mtime }) b1)
    else b) s

/-- `LSW_RWAIT_EXPIRY` (R522): RWAIT has passed since the latest trip. -/
def execLswRwaitExpiry (ch : Nat) (s : State) : Out :=
  act (fun b =>
    if lsOk ch && (b.ls ch).tripped && (b.ls ch).st != .suspended then
      lsWait ch (updLs ch (fun c => { c with waited := true })
        (timeAt ((b.ls ch).tripAt + u16At (profInUse ch b) 14 * 1000) b))
    else b) s

/-- `LSW_RCNT_RESTORE` (R522): 60 s in ON without a trip. -/
def execLswRcntRestore (ch : Nat) (s : State) : Out :=
  act (fun b =>
    if lsOk ch && (b.ls ch).st == .on then
      updLs ch (fun c => { c with rcnt := u8At (profInUse ch b) 12, tripped := false })
        (timeAt ((b.ls ch).onAt + 60000) b)
    else b) s

/-- `LSW_TEST_END`: DURATION of OP 2 ends; the channel goes off and the command completes. -/
def execLswTestEnd (ch peakMA : Nat) (s : State) : Out :=
  act (fun b =>
    match b.lsw.test with
    | some t =>
      if t.ch == ch && t.op == 2 then
        let b1 := timeAt t.ends b
        lsTestDone t peakMA t.cause (lsRequest ch false (updLs ch (fun c => { c with ipeak := min peakMA 65535 }) b1))
      else b
    | none => b) s

/-! ### Displays (17) -/

/-- `SCROLL_ADVANCE` (09 R288): the item has been shown for DWELL. While a cue is shown the scroll stays at the item it left
(17 R495). -/
def execScrollAdvance (s : State) : Out :=
  act (fun b =>
    if billing b && b.sys.mode != .outage && b.dis.shown.isNone then
      scrollNext (timeAt (b.bil.scrollAt + b.b8 (586 + 4 * b.bil.scroll) * 1000) b)
    else b) s

/-- `CUE_DWELL_END` (17 R495): the page's own dwell, but no less than CUEMS; the scroll resumes. -/
def execCueDwellEnd (pageMs : Nat) (s : State) : Out :=
  act (fun b =>
    if b.dis.shown.isSome then
      let b1 := timeAt (b.dis.shownAt + max pageMs (b.cfg16 0x000C 14)) b
      { b1 with dis.shown := none }
    else b) s

/-- `DIS_TEST_END` (Table 17-8): the command completes; OP 3 reports the columns and rows its masks name, OP 4 ends with a
re-drive. -/
def execDisTestEnd (openCols shortCols rows : Nat) (s : State) : Out :=
  act (fun b =>
    match b.dis.test with
    | none => b
    | some t =>
      let b0 := timeAt t.ends b
      let b1 := { b0 with dis.test := none }
      if t.op == 3 then
        let b2 := disSync (disDiagnose openCols shortCols rows b1)
        complete t.cmd stOk (p8 (countBits openCols 96) ++ p8 (countBits shortCols 96) ++
          p8 (countBits rows 24) ++ p8 0) b2
      else if t.op == 4 then complete t.cmd stOk [] (bsdRedrive (updBsd (fun x => { x with testPh := 0 }) b1))
      else complete t.cmd stOk [] b1) s

/-! ### Machine safety (13) -/

/-- `DISCREPANCY_TIMEOUT` (R392): cause 3 or 4 on both channels, DISC after they came to disagree. -/
def execDiscrepancyTimeout (input : Nat) (s : State) : Out :=
  act (fun b =>
    if safOk input && inDiffers input b && !b.pwr.anvilDown then
      fnEvalAll (latchInput input (if b.inType input == 2 then 4 else 3) true true
        (timeAt ((b.sin input).diffAt + u16At b.saf.pset (16 + 8 * input + 4)) b))
    else b) s

/-- The faults of input k cleared (R393); the EDM fault of the functions that it monitors ends by the same steps. -/
def inputClear (k : Nat) (s : Block) : Block :=
  let s1 := updIn k (fun i => { i with fcause := 0, faultA := false, faultB := false, relSeen := false }) s
  let s2 := if inFaulted k s then raise 171 (k * 256) s1 else s1
  fnEvalAll (safNums.foldl (fun s f => if s.fnEdm f == k then updFn f (fun x => { x with edm := false }) s else s) s2)

/-- `INPUT_FAULT_CLEAR` (R393): healthy, with no cause present for 1 s. -/
def execInputFaultClear (input : Nat) (s : State) : Out :=
  act (fun b =>
    let edm := safNums.any fun f => b.fnEdm f == input && (b.fn f).edm
    if safOk input && (inFaulted input b || edm) && (b.sin input).relSeen && inHealthy input b && b.pwr.vddioOk &&
        !b.pwr.anvilDown then
      inputClear input (timeAt ((b.sin input).since + 1000) b)
    else b) s

/-- `FUNCTION_HEALTHY` (Table 13-3): DEMAND ends after 100 ms without a break. -/
def execFunctionHealthy (fn : Nat) (s : State) : Out :=
  act (fun b =>
    if safOk fn && (b.fn fn).st == .demand && fnHealthy fn b && !b.pwr.anvilDown then
      let b1 := timeAt (fnSince fn b + 100) b
      if psFn b.saf.pset fn 3 == 0xFF then fnSatisfy fn b1 else fnGo fn .waitReset b1
    else b) s

/-- The pair that an EDM input monitors; 0 none. -/
def edmPair (k : Nat) (s : Block) : Nat :=
  ((safNums.filter fun f => s.fnKind f != 0 && s.fnEdm f == k).map s.fnPair).headD 0

/-- TEDM of the pair's functions. -/
def edmTime (p : Nat) (s : Block) : Nat :=
  ((fnsOfPair p s).map fun f => u16At s.saf.pset (160 + 16 * f + 8)).foldl max 0

/-- An EDM fault of pair p: every function that names it is in FAULT. -/
def edmFault (input p : Nat) (s : Block) : Block :=
  let s1 := updIn input (fun i => { i with relSeen := inDemanding input s }) s
  let s2 := (fnsOfPair p s).foldl (fun s f => updFn f (fun x => { x with edm := true }) s) s1
  fnEvalAll (safFault 3 input 0 (raise 174 (input * 256 + p) s2))

/-- `EDM_TIMEOUT` (R395): for TEDM the EDM input has shown healthy with the pair on, or not healthy with it off. -/
def execEdmTimeout (input : Nat) (s : State) : Out :=
  act (fun b =>
    let p := edmPair input b
    if safOk input && p != 0 && inHealthy input b == bit b.saf.pairs (p - 1) && !b.pwr.anvilDown then
      edmFault input p (timeAt (tget b.saf.pairAt (p - 1) + edmTime p b) b)
    else b) s

/-- `DEMAND_TEST_END`: the measured times of Table 13-8; the function then follows Table 13-3. -/
def execDemandTestEnd (fn : Nat) (pairUs coilUs : Nat) (s : State) : Out :=
  act (fun b =>
    match (b.fn fn).test with
    | none => b
    | some r =>
      let t := p32 (if b.fnPair fn == 0 then 0xFFFFFFFF else pairUs) ++
        p32 (if b.fnMask fn == 0 then 0xFFFFFFFF else coilUs)
      complete r stOk t (updFn fn (fun x => { x with test := none }) (timeAt (b.fn fn).testEnd b))) s

/-! ### Temperature sources (07 R206) -/

/-- Every point that names the source uses it, or source 0 in its place. -/
def tsrcUse (source : Nat) (lost : Bool) (s : Block) : Block :=
  points.foldl (fun s p =>
    if source != 0 && s.tsrcOf p == source then updPt p (fun x => { x with tsrcFb := lost }) s else s)
    (updSrc source (fun x => { x with lost }) s)

/-- `TSRC_FALLBACK` (R206): 5 s without a valid reading. -/
def execTsrcFallback (source : Nat) (s : State) : Out :=
  act (fun b =>
    let x := tget b.asy.tsrc source
    if b.pwr.heldBy != .no || !sourceFitted source b || x.lost || x.valid then b
    else raise 69 (256 + source) (tsrcUse source true (timeAt (x.lastAt + 5000) b))) s

/-- `TSRC_RESTORE` (R206): 5 s of valid readings. -/
def execTsrcRestore (source : Nat) (s : State) : Out :=
  act (fun b =>
    let x := tget b.asy.tsrc source
    if b.pwr.heldBy != .no || !x.lost || !x.valid then b
    else raise 69 source (tsrcUse source false (timeAt (x.runAt + 5000) b))) s

/-! ### Links (20) -/

/-- `ETH_PHY_RELEASE` (R562): ETH_RST_N rises 10 ms after step 1 of the start. -/
def execEthPhyRelease (s : State) : Out :=
  act (fun b => if b.pwr.heldBy == .no && !b.lnk.phyRst then
    updLnk (fun l => { l with phyRst := true }) (timeAt b.lnk.phyAt b) else b) s

/-- `ETH_MAC_AGEING` (R563): the address was last seen 300 s ago. -/
def execEthMacAgeing (mac : Nat) (s : State) : Out :=
  act (fun b => match b.lnk.macs.find? (fun e => e.mac == mac % 2 ^ 48) with
    | some e => updLnk (fun l => { l with macs := l.macs.filter fun x => x.mac != e.mac }) (timeAt (e.seen + 300000) b)
    | none => b) s

/-- `MODBUS_TIMEOUT` (R567): exception 0x0B, and the next request goes out. -/
def execModbusTimeout (link : Nat) (s : State) : Out :=
  act (fun b =>
    if !(1 ≤ link && link ≤ 10) then b
    else match (b.ser link).cur with
      | none => b
      | some r =>
        let b1 := timeAt (b.ser link).due b
        rtuNext link (mbException 0x0B r b1)) s

end Sys2Proof.Machine
end

