-- ==== Sys2Proof/Machine/Dispatch.lean ====
section
/-!
DEFINITION. What each command does: one arm per constructor of `Instr`, each a direct call of its meaning.
-/

namespace Sys2Proof.Machine

def exec (i : Instr) (s : State) : Host.Outcome State Fault Refusal :=
  match i with
  | .powerOnReset => Sys2Proof.Machine.execPowerOnReset s
  | .vsupCollapse => Sys2Proof.Machine.execVsupCollapse s
  | .resetNAssert lowUs => Sys2Proof.Machine.execResetNAssert lowUs s
  | .resetRelease o => Sys2Proof.Machine.execResetRelease o s
  | .selftestStepOverrun step => Sys2Proof.Machine.execSelftestStepOverrun step s
  | .clockFault why => Sys2Proof.Machine.execClockFault why s
  | .clockRestored => Sys2Proof.Machine.execClockRestored s
  | .pfWarningVin vin => Sys2Proof.Machine.execPfWarningVin vin s
  | .pfWarningSiteVoltage va vb vc => Sys2Proof.Machine.execPfWarningSiteVoltage va vb vc s
  | .ckpPfwTestWrite value => Sys2Proof.Machine.execCkpPfwTestWrite value s
  | .recovery t1 vin => Sys2Proof.Machine.execRecovery t1 vin s
  | .outageRestartLate t1 vin => Sys2Proof.Machine.execOutageRestartLate t1 vin s
  | .outageRestartLowVin vin heldMs => Sys2Proof.Machine.execOutageRestartLowVin vin heldMs s
  | .supplyEnd => Sys2Proof.Machine.execSupplyEnd s
  | .supplyEndReturn vin => Sys2Proof.Machine.execSupplyEndReturn vin s
  | .railFault r => Sys2Proof.Machine.execRailFault r s
  | .railReturn r => Sys2Proof.Machine.execRailReturn r s
  | .vholdLow vhold => Sys2Proof.Machine.execVholdLow vhold s
  | .vholdChargeTimeout vhold => Sys2Proof.Machine.execVholdChargeTimeout vhold s
  | .heartbeatTimeout core => Sys2Proof.Machine.execHeartbeatTimeout core s
  | .larkspurFault core => Sys2Proof.Machine.execLarkspurFault core s
  | .bylithResume => Sys2Proof.Machine.execBylithResume s
  | .holdoverTimeout => Sys2Proof.Machine.execHoldoverTimeout s
  | .anvilReset why => Sys2Proof.Machine.execAnvilReset why s
  | .assayCoreReset => Sys2Proof.Machine.execAssayCoreReset s
  | .crucibleReset => Sys2Proof.Machine.execCrucibleReset s
  | .fatalError cause core detail detail2 => Sys2Proof.Machine.execFatalError cause core detail detail2 s
  | .contactorReleaseCurrent outlet => Sys2Proof.Machine.execContactorReleaseCurrent outlet s
  | .contactorReleaseTimeout outlet currentDA => Sys2Proof.Machine.execContactorReleaseTimeout outlet currentDA s
  | .autostart => Sys2Proof.Machine.execAutostart s
  | .modeTransitionComplete => Sys2Proof.Machine.execModeTransitionComplete s
  | .serviceOutApply outlet => Sys2Proof.Machine.execServiceOutApply outlet s
  | .bypassApply outlet => Sys2Proof.Machine.execBypassApply outlet s
  | .bypassFbClosed outlet => Sys2Proof.Machine.execBypassFbClosed outlet s
  | .hspiReadFrame cmd addr hcrc => Sys2Proof.Machine.execHspiReadFrame cmd addr hcrc s
  | .hspiWriteFrame cmd addr ws hcrc => Sys2Proof.Machine.execHspiWriteFrame cmd addr ws hcrc s
  | .hspiFrameAbort => Sys2Proof.Machine.execHspiFrameAbort s
  | .regWrite addr value => Sys2Proof.Machine.execRegWrite addr value s
  | .shadowWrite addr value => Sys2Proof.Machine.execShadowWrite addr value s
  | .pendDiscard addr value => Sys2Proof.Machine.execPendDiscard addr value s
  | .mbxPortWrite mb k value => Sys2Proof.Machine.execMbxPortWrite mb k value s
  | .mbxPortRead mb k => Sys2Proof.Machine.execMbxPortRead mb k s
  | .ethMbxFrame port frame => Sys2Proof.Machine.execEthMbxFrame port frame s
  | .mbxAsmTimeout mb => Sys2Proof.Machine.execMbxAsmTimeout mb s
  | .commandStart mb => Sys2Proof.Machine.execCommandStart mb s
  | .hostSilent => Sys2Proof.Machine.execHostSilent s
  | .grantExpired => Sys2Proof.Machine.execGrantExpired s
  | .evtRawClear g value => Sys2Proof.Machine.execEvtRawClear g value s
  | .evtSetWrite g value => Sys2Proof.Machine.execEvtSetWrite g value s
  | .evtQPop => Sys2Proof.Machine.execEvtQPop s
  | .evtQClrLost => Sys2Proof.Machine.execEvtQClrLost s
  | .cmdSysInfoGet h p => Sys2Proof.Machine.execCmdSysInfoGet h p s
  | .cmdSysStatusGet h p => Sys2Proof.Machine.execCmdSysStatusGet h p s
  | .cmdSysModeSet h p => Sys2Proof.Machine.execCmdSysModeSet h p s
  | .cmdSysSoftReset h p => Sys2Proof.Machine.execCmdSysSoftReset h p s
  | .cmdSysWallSet h p => Sys2Proof.Machine.execCmdSysWallSet h p s
  | .cmdSysConfigLoad h p => Sys2Proof.Machine.execCmdSysConfigLoad h p s
  | .cmdSysConfigCommit h p => Sys2Proof.Machine.execCmdSysConfigCommit h p s
  | .cmdSysConfigRead h p => Sys2Proof.Machine.execCmdSysConfigRead h p s
  | .cmdSysEvtRead h p => Sys2Proof.Machine.execCmdSysEvtRead h p s
  | .cmdSysRegRead h p => Sys2Proof.Machine.execCmdSysRegRead h p s
  | .cmdSysRegWrite h p => Sys2Proof.Machine.execCmdSysRegWrite h p s
  | .tickZeroCrossing sinceTickUs sinceCrossUs oppMv => Sys2Proof.Machine.execTickZeroCrossing sinceTickUs sinceCrossUs oppMv s
  | .tickTimer sinceTickUs => Sys2Proof.Machine.execTickTimer sinceTickUs s
  | .planSwap dom => Sys2Proof.Machine.execPlanSwap dom s
  | .planEnd dom => Sys2Proof.Machine.execPlanEnd dom s
  | .planValidationDone dom => Sys2Proof.Machine.execPlanValidationDone dom s
  | .groupDeadline slot => Sys2Proof.Machine.execGroupDeadline slot s
  | .lockWaitTimeout lock => Sys2Proof.Machine.execLockWaitTimeout lock s
  | .hostChannelFault => Sys2Proof.Machine.execHostChannelFault s
  | .arbRound arb raised cycles engs done => Sys2Proof.Machine.execArbRound arb raised cycles engs done s
  | .hlockAcqWrite value => Sys2Proof.Machine.execHlockAcqWrite value s
  | .hlockRelWrite value => Sys2Proof.Machine.execHlockRelWrite value s
  | .cmdPlanBegin h p => Sys2Proof.Machine.execCmdPlanBegin h p s
  | .cmdPlanLoad h p => Sys2Proof.Machine.execCmdPlanLoad h p s
  | .cmdPlanArm h p => Sys2Proof.Machine.execCmdPlanArm h p s
  | .cmdPlanCancel h p => Sys2Proof.Machine.execCmdPlanCancel h p s
  | .cmdPlanStatus h p => Sys2Proof.Machine.execCmdPlanStatus h p s
  | .cmdGroupSubmit h p => Sys2Proof.Machine.execCmdGroupSubmit h p s
  | .cmdGroupAbort h p => Sys2Proof.Machine.execCmdGroupAbort h p s
  | .cmdGroupStatus h p => Sys2Proof.Machine.execCmdGroupStatus h p s
  | .cmdLockAcquire h p => Sys2Proof.Machine.execCmdLockAcquire h p s
  | .cmdLockRelease h p => Sys2Proof.Machine.execCmdLockRelease h p s
  | .cmdArbPrioSet h p => Sys2Proof.Machine.execCmdArbPrioSet h p s
  | .sample10khz xs rcs => Sys2Proof.Machine.execSample10khz xs rcs s
  | .bCycCrossing point sinceCycNs sinceCrossNs oppMv => Sys2Proof.Machine.execBCycCrossing point sinceCycNs sinceCrossNs oppMv s
  | .bCycTimer point sinceCycNs => Sys2Proof.Machine.execBCycTimer point sinceCycNs s
  | .halfCycleRms point phase cycleNs => Sys2Proof.Machine.execHalfCycleRms point phase cycleNs s
  | .mtimeSecond vin vhold => Sys2Proof.Machine.execMtimeSecond vin vhold s
  | .chSignalFault point ch cause => Sys2Proof.Machine.execChSignalFault point ch cause s
  | .chFaultClear point ch cause => Sys2Proof.Machine.execChFaultClear point ch cause s
  | .refchkRun point xs => Sys2Proof.Machine.execRefchkRun point xs s
  | .tempSourceRead source raw => Sys2Proof.Machine.execTempSourceRead source raw s
  | .tsrcFallback source => Sys2Proof.Machine.execTsrcFallback source s
  | .tsrcRestore source => Sys2Proof.Machine.execTsrcRestore source s
  | .asyTinjCtrlWrite value => Sys2Proof.Machine.execAsyTinjCtrlWrite value s
  | .cmdAsyStatus h p => Sys2Proof.Machine.execCmdAsyStatus h p s
  | .cmdAsyInjRun h p => Sys2Proof.Machine.execCmdAsyInjRun h p s
  | .cmdAsyFaultReset h p => Sys2Proof.Machine.execCmdAsyFaultReset h p s
  | .cmdAsyCalRead h p => Sys2Proof.Machine.execCmdAsyCalRead h p s
  | .cmdAsyCalMeasure h p => Sys2Proof.Machine.execCmdAsyCalMeasure h p s
  | .cmdAsyTctabLoad h p => Sys2Proof.Machine.execCmdAsyTctabLoad h p s
  | .cmdAsyBandSet h p => Sys2Proof.Machine.execCmdAsyBandSet h p s
  | .cmdAsyCalCommit h p => Sys2Proof.Machine.execCmdAsyCalCommit h p s
  | .cmdAsyCalDiscard h p => Sys2Proof.Machine.execCmdAsyCalDiscard h p s
  | .demandSubintervalEnd => Sys2Proof.Machine.execDemandSubintervalEnd s
  | .pulseOutputEnd k => Sys2Proof.Machine.execPulseOutputEnd k s
  | .cmdNrgSnapshot h p => Sys2Proof.Machine.execCmdNrgSnapshot h p s
  | .cmdNrgQtyRead h p => Sys2Proof.Machine.execCmdNrgQtyRead h p s
  | .cmdNrgHarmRead h p => Sys2Proof.Machine.execCmdNrgHarmRead h p s
  | .cmdNrgDemandRead h p => Sys2Proof.Machine.execCmdNrgDemandRead h p s
  | .cmdNrgPqRead h p => Sys2Proof.Machine.execCmdNrgPqRead h p s
  | .cmdNrgBalRead h p => Sys2Proof.Machine.execCmdNrgBalRead h p s
  | .cmdNrgPulseTest h p => Sys2Proof.Machine.execCmdNrgPulseTest h p s
  | .tselChange code => Sys2Proof.Machine.execTselChange code s
  | .tselDebounced => Sys2Proof.Machine.execTselDebounced s
  | .periodBoundaryDue => Sys2Proof.Machine.execPeriodBoundaryDue s
  | .ingotCommit => Sys2Proof.Machine.execIngotCommit s
  | .scrollAdvance => Sys2Proof.Machine.execScrollAdvance s
  | .ppDisconnectComplete => Sys2Proof.Machine.execPpDisconnectComplete s
  | .relayBypassDetect irmsDA => Sys2Proof.Machine.execRelayBypassDetect irmsDA s
  | .serviceButtonPress => Sys2Proof.Machine.execServiceButtonPress s
  | .cmdBilStatus h p => Sys2Proof.Machine.execCmdBilStatus h p s
  | .cmdBilPeriodClose h p => Sys2Proof.Machine.execCmdBilPeriodClose h p s
  | .cmdBilIngotRead h p => Sys2Proof.Machine.execCmdBilIngotRead h p s
  | .cmdBilIngotAck h p => Sys2Proof.Machine.execCmdBilIngotAck h p s
  | .cmdBilTokenApply h p => Sys2Proof.Machine.execCmdBilTokenApply h p s
  | .cmdBilEcActivate h p => Sys2Proof.Machine.execCmdBilEcActivate h p s
  | .cmdBilRelayReq h p => Sys2Proof.Machine.execCmdBilRelayReq h p s
  | .cmdBilRelayReset h p => Sys2Proof.Machine.execCmdBilRelayReset h p s
  | .cmdBilSessionCredit h p => Sys2Proof.Machine.execCmdBilSessionCredit h p s
  | .cmdBilCreditAdjust h p => Sys2Proof.Machine.execCmdBilCreditAdjust h p s
  | .pilotStateChange outlet highMV lowMV => Sys2Proof.Machine.execPilotStateChange outlet highMV lowMV s
  | .pilotDiodeFault outlet lowMV => Sys2Proof.Machine.execPilotDiodeFault outlet lowMV s
  | .proximityChange outlet res => Sys2Proof.Machine.execProximityChange outlet res s
  | .authTimeout outlet => Sys2Proof.Machine.execAuthTimeout outlet s
  | .pauseTimeout outlet => Sys2Proof.Machine.execPauseTimeout outlet s
  | .modemLinkLost outlet => Sys2Proof.Machine.execModemLinkLost outlet s
  | .modemLinkRestored outlet => Sys2Proof.Machine.execModemLinkRestored outlet s
  | .slacMessage outlet m => Sys2Proof.Machine.execSlacMessage outlet m s
  | .slacTimeout outlet => Sys2Proof.Machine.execSlacTimeout outlet s
  | .slacRetryWaitEnd outlet => Sys2Proof.Machine.execSlacRetryWaitEnd outlet s
  | .sdpRequest outlet tls => Sys2Proof.Machine.execSdpRequest outlet tls s
  | .v2gTlsHandshake outlet version suites ok => Sys2Proof.Machine.execV2gTlsHandshake outlet version suites ok s
  | .v2gRequest outlet bytes m => Sys2Proof.Machine.execV2gRequest outlet bytes m s
  | .supportedAppProtocolReq outlet offers => Sys2Proof.Machine.execSupportedAppProtocolReq outlet offers s
  | .cableCheckReq outlet => Sys2Proof.Machine.execCableCheckReq outlet s
  | .powerDeliveryReq outlet => Sys2Proof.Machine.execPowerDeliveryReq outlet s
  | .sessionStopReq outlet pause => Sys2Proof.Machine.execSessionStopReq outlet pause s
  | .certInstallReq outlet update body => Sys2Proof.Machine.execCertInstallReq outlet update body s
  | .certRespTimeout outlet => Sys2Proof.Machine.execCertRespTimeout outlet s
  | .v2gSequenceTimeout outlet => Sys2Proof.Machine.execV2gSequenceTimeout outlet s
  | .tunnelRx outlet data closed => Sys2Proof.Machine.execTunnelRx outlet data closed s
  | .cmdOutletStatus h p => Sys2Proof.Machine.execCmdOutletStatus h p s
  | .cmdOutletServiceSet h p => Sys2Proof.Machine.execCmdOutletServiceSet h p s
  | .cmdOutletAuthorise h p => Sys2Proof.Machine.execCmdOutletAuthorise h p s
  | .cmdOutletStop h p => Sys2Proof.Machine.execCmdOutletStop h p s
  | .cmdOutletTunSend h p => Sys2Proof.Machine.execCmdOutletTunSend h p s
  | .cmdOutletTunRead h p => Sys2Proof.Machine.execCmdOutletTunRead h p s
  | .cmdOutletHlcStep h p => Sys2Proof.Machine.execCmdOutletHlcStep h p s
  | .cmdOutletLimitsSet h p => Sys2Proof.Machine.execCmdOutletLimitsSet h p s
  | .cmdOutletCertResp h p => Sys2Proof.Machine.execCmdOutletCertResp h p s
  | .cmdOutletBypass h p => Sys2Proof.Machine.execCmdOutletBypass h p s
  | .cmdOutletPilotTest h p => Sys2Proof.Machine.execCmdOutletPilotTest h p s
  | .utilLimitExpiry => Sys2Proof.Machine.execUtilLimitExpiry s
  | .plannerCompile => Sys2Proof.Machine.execPlannerCompile s
  | .overdraw outlet irmsDA => Sys2Proof.Machine.execOverdraw outlet irmsDA s
  | .fbChange driver active => Sys2Proof.Machine.execFbChange driver active s
  | .fbCloseDeadline driver => Sys2Proof.Machine.execFbCloseDeadline driver s
  | .fbOpenDeadline driver => Sys2Proof.Machine.execFbOpenDeadline driver s
  | .liveWhileOpen outlet => Sys2Proof.Machine.execLiveWhileOpen outlet s
  | .coilPullinEnd driver => Sys2Proof.Machine.execCoilPullinEnd driver s
  | .dcWeldCheckDone outlet vaDV uoutDV => Sys2Proof.Machine.execDcWeldCheckDone outlet vaDV uoutDV s
  | .prechargeDone outlet vaDV uoutDV timedOut => Sys2Proof.Machine.execPrechargeDone outlet vaDV uoutDV timedOut s
  | .cabinetPretime => Sys2Proof.Machine.execCabinetPretime s
  | .cabinetIdleOff => Sys2Proof.Machine.execCabinetIdleOff s
  | .canCtrlTimer => Sys2Proof.Machine.execCanCtrlTimer s
  | .pmStatusFrame link node data => Sys2Proof.Machine.execPmStatusFrame link node data s
  | .pmIdentFrame link node data => Sys2Proof.Machine.execPmIdentFrame link node data s
  | .pmNodeLost link node => Sys2Proof.Machine.execPmNodeLost link node s
  | .canBusOff link => Sys2Proof.Machine.execCanBusOff link s
  | .cdTestHoldEnd driver => Sys2Proof.Machine.execCdTestHoldEnd driver s
  | .cmdAlcStatus h p => Sys2Proof.Machine.execCmdAlcStatus h p s
  | .cmdAlcLimitSet h p => Sys2Proof.Machine.execCmdAlcLimitSet h p s
  | .cmdAlcTargetSet h p => Sys2Proof.Machine.execCmdAlcTargetSet h p s
  | .cmdAlcFaultReset h p => Sys2Proof.Machine.execCmdAlcFaultReset h p s
  | .cmdAlcPmRead h p => Sys2Proof.Machine.execCmdAlcPmRead h p s
  | .cmdAlcCdTest h p => Sys2Proof.Machine.execCmdAlcCdTest h p s
  | .cmdAlcCanRaw h p => Sys2Proof.Machine.execCmdAlcCanRaw h p s
  | .rcmTrip outlet cause => Sys2Proof.Machine.execRcmTrip outlet cause s
  | .rcmLinkFault outlet => Sys2Proof.Machine.execRcmLinkFault outlet s
  | .rcmLinkRestored outlet => Sys2Proof.Machine.execRcmLinkRestored outlet s
  | .rcmSelftestDone outlet offset plus minus ac asserted => Sys2Proof.Machine.execRcmSelftestDone outlet offset plus minus ac asserted s
  | .rcmSelftestRetry outlet => Sys2Proof.Machine.execRcmSelftestRetry outlet s
  | .insAsymmetryReading outlet risoOhm => Sys2Proof.Machine.execInsAsymmetryReading outlet risoOhm s
  | .insMeasurementDone injector risoOhm ms => Sys2Proof.Machine.execInsMeasurementDone injector risoOhm ms s
  | .cableCheckDone outlet vaReached => Sys2Proof.Machine.execCableCheckDone outlet vaReached s
  | .injectorFault injector fault => Sys2Proof.Machine.execInjectorFault injector fault s
  | .cmdRcmStatus h p => Sys2Proof.Machine.execCmdRcmStatus h p s
  | .cmdRcmFaultReset h p => Sys2Proof.Machine.execCmdRcmFaultReset h p s
  | .cmdRcmSelftest h p => Sys2Proof.Machine.execCmdRcmSelftest h p s
  | .cmdInsMeasure h p => Sys2Proof.Machine.execCmdInsMeasure h p s
  | .cmdRcmTestInject h p => Sys2Proof.Machine.execCmdRcmTestInject h p s
  | .safetyInputChange input chanB value => Sys2Proof.Machine.execSafetyInputChange input chanB value s
  | .testPulseCycle missedOwn foreign readback => Sys2Proof.Machine.execTestPulseCycle missedOwn foreign readback s
  | .discrepancyTimeout input => Sys2Proof.Machine.execDiscrepancyTimeout input s
  | .inputFaultClear input => Sys2Proof.Machine.execInputFaultClear input s
  | .functionHealthy fn => Sys2Proof.Machine.execFunctionHealthy fn s
  | .safetyResetAct input heldMs => Sys2Proof.Machine.execSafetyResetAct input heldMs s
  | .edmTimeout input => Sys2Proof.Machine.execEdmTimeout input s
  | .demandTestEnd fn pairUs coilUs => Sys2Proof.Machine.execDemandTestEnd fn pairUs coilUs s
  | .cmdSafStatus h p => Sys2Proof.Machine.execCmdSafStatus h p s
  | .cmdSafPsetRead h p => Sys2Proof.Machine.execCmdSafPsetRead h p s
  | .cmdSafPsetLoad h p => Sys2Proof.Machine.execCmdSafPsetLoad h p s
  | .cmdSafPsetCommit h p => Sys2Proof.Machine.execCmdSafPsetCommit h p s
  | .cmdSafPsetConfirm h p => Sys2Proof.Machine.execCmdSafPsetConfirm h p s
  | .cmdSafDemandTest h p => Sys2Proof.Machine.execCmdSafDemandTest h p s
  | .tamperInput k => Sys2Proof.Machine.execTamperInput k s
  | .lidMeshBreak => Sys2Proof.Machine.execLidMeshBreak s
  | .glitchDetected clock => Sys2Proof.Machine.execGlitchDetected clock s
  | .magSensorRead m fieldDmT => Sys2Proof.Machine.execMagSensorRead m fieldDmT s
  | .debugPortAccess blocked => Sys2Proof.Machine.execDebugPortAccess blocked s
  | .dbgCoreHalt core => Sys2Proof.Machine.execDbgCoreHalt core s
  | .drbgReseed => Sys2Proof.Machine.execDrbgReseed s
  | .drbgHealthFail kind => Sys2Proof.Machine.execDrbgHealthFail kind s
  | .drbgRetest pass => Sys2Proof.Machine.execDrbgRetest pass s
  | .ethTlsClienthello port tls13 suiteOk certChain => Sys2Proof.Machine.execEthTlsClienthello port tls13 suiteOk certChain s
  | .cmdSecStatus h p => Sys2Proof.Machine.execCmdSecStatus h p s
  | .cmdSecHallmarkGet h p => Sys2Proof.Machine.execCmdSecHallmarkGet h p s
  | .cmdSecGrantInstall h p => Sys2Proof.Machine.execCmdSecGrantInstall h p s
  | .cmdSecGrantRemove h p => Sys2Proof.Machine.execCmdSecGrantRemove h p s
  | .cmdSecProvOpen h p => Sys2Proof.Machine.execCmdSecProvOpen h p s
  | .cmdSecProvItem h p => Sys2Proof.Machine.execCmdSecProvItem h p s
  | .cmdSecProvClose h p => Sys2Proof.Machine.execCmdSecProvClose h p s
  | .cmdSecKeygen h p => Sys2Proof.Machine.execCmdSecKeygen h p s
  | .cmdSecPubkeyRead h p => Sys2Proof.Machine.execCmdSecPubkeyRead h p s
  | .cmdSecCertRead h p => Sys2Proof.Machine.execCmdSecCertRead h p s
  | .cmdSecTamperRead h p => Sys2Proof.Machine.execCmdSecTamperRead h p s
  | .cmdSecTamperAck h p => Sys2Proof.Machine.execCmdSecTamperAck h p s
  | .cmdSecDecommission h p => Sys2Proof.Machine.execCmdSecDecommission h p s
  | .cmdSecDebug h p => Sys2Proof.Machine.execCmdSecDebug h p s
  | .cmdSecKeyErase h p => Sys2Proof.Machine.execCmdSecKeyErase h p s
  | .cmdSecTamperTest h p => Sys2Proof.Machine.execCmdSecTamperTest h p s
  | .readerPoll ant icoilMA found => Sys2Proof.Machine.execReaderPoll ant icoilMA found s
  | .cardDebounceExpiry uid => Sys2Proof.Machine.execCardDebounceExpiry uid s
  | .antennaFaultCheck ant icoilMA => Sys2Proof.Machine.execAntennaFaultCheck ant icoilMA s
  | .cardHoldExpiry => Sys2Proof.Machine.execCardHoldExpiry s
  | .tagFieldOn vhMV => Sys2Proof.Machine.execTagFieldOn vhMV s
  | .tagFieldLost => Sys2Proof.Machine.execTagFieldLost s
  | .tagReqa wupa => Sys2Proof.Machine.execTagReqa wupa s
  | .tagSelect uid => Sys2Proof.Machine.execTagSelect uid s
  | .tagHalt deselect => Sys2Proof.Machine.execTagHalt deselect s
  | .tagGetInfo => Sys2Proof.Machine.execTagGetInfo s
  | .tagAuth1 toolId rndT => Sys2Proof.Machine.execTagAuth1 toolId rndT s
  | .tagAuth2 macT => Sys2Proof.Machine.execTagAuth2 macT s
  | .tagAuthBlockEnd => Sys2Proof.Machine.execTagAuthBlockEnd s
  | .tagRead block ccmOk => Sys2Proof.Machine.execTagRead block ccmOk s
  | .tagWrite block cc data ccmOk step => Sys2Proof.Machine.execTagWrite block cc data ccmOk step s
  | .tagLock first count ccmOk => Sys2Proof.Machine.execTagLock first count ccmOk s
  | .tagUnlock first count ccmOk => Sys2Proof.Machine.execTagUnlock first count ccmOk s
  | .tagPortRetry pass => Sys2Proof.Machine.execTagPortRetry pass s
  | .cmdClsStatus h p => Sys2Proof.Machine.execCmdClsStatus h p s
  | .cmdClsCardRead h p => Sys2Proof.Machine.execCmdClsCardRead h p s
  | .cmdClsWlAdd h p => Sys2Proof.Machine.execCmdClsWlAdd h p s
  | .cmdClsWlDelete h p => Sys2Proof.Machine.execCmdClsWlDelete h p s
  | .cmdClsWlRead h p => Sys2Proof.Machine.execCmdClsWlRead h p s
  | .cmdClsAntAssign h p => Sys2Proof.Machine.execCmdClsAntAssign h p s
  | .cmdClsApdu h p => Sys2Proof.Machine.execCmdClsApdu h p s
  | .cmdClsTagRead h p => Sys2Proof.Machine.execCmdClsTagRead h p s
  | .cmdClsTagWrite h p => Sys2Proof.Machine.execCmdClsTagWrite h p s
  | .cmdClsToolkeyIssue h p => Sys2Proof.Machine.execCmdClsToolkeyIssue h p s
  | .cmdClsToolminSet h p => Sys2Proof.Machine.execCmdClsToolminSet h p s
  | .cmdClsFieldTest h p => Sys2Proof.Machine.execCmdClsFieldTest h p s
  | .mlkWindow w timer => Sys2Proof.Machine.execMlkWindow w timer s
  | .mlkBlockReceived b => Sys2Proof.Machine.execMlkBlockReceived b s
  | .mlkTokenFrame f => Sys2Proof.Machine.execMlkTokenFrame f s
  | .mlkTariffFrame f => Sys2Proof.Machine.execMlkTariffFrame f s
  | .mlkTimeFrame f sinceMs => Sys2Proof.Machine.execMlkTimeFrame f sinceMs s
  | .mlkLoadLimitFrame f => Sys2Proof.Machine.execMlkLoadLimitFrame f s
  | .mlkUpdatePiece f => Sys2Proof.Machine.execMlkUpdatePiece f s
  | .mlkUpdateOpen f => Sys2Proof.Machine.execMlkUpdateOpen f s
  | .mlkUpdateSchedule f => Sys2Proof.Machine.execMlkUpdateSchedule f s
  | .mlkUpdateCancel f => Sys2Proof.Machine.execMlkUpdateCancel f s
  | .mlkUpdateReportReq f => Sys2Proof.Machine.execMlkUpdateReportReq f s
  | .mlkRepeatReq f => Sys2Proof.Machine.execMlkRepeatReq f s
  | .mlkAck f => Sys2Proof.Machine.execMlkAck f s
  | .mlkStatusReq f => Sys2Proof.Machine.execMlkStatusReq f s
  | .mlkRawFrame f => Sys2Proof.Machine.execMlkRawFrame f s
  | .mlkTxBlockStart => Sys2Proof.Machine.execMlkTxBlockStart s
  | .mlkBlockEnd => Sys2Proof.Machine.execMlkBlockEnd s
  | .mlkPhaseSearchTimeout => Sys2Proof.Machine.execMlkPhaseSearchTimeout s
  | .mlkAckTimeout fcnt => Sys2Proof.Machine.execMlkAckTimeout fcnt s
  | .mlkStatusTimer => Sys2Proof.Machine.execMlkStatusTimer s
  | .mlkCouplingCheck coupling pass => Sys2Proof.Machine.execMlkCouplingCheck coupling pass s
  | .mlkCouplingFault coupling => Sys2Proof.Machine.execMlkCouplingFault coupling s
  | .cmdMlkStatus h p => Sys2Proof.Machine.execCmdMlkStatus h p s
  | .cmdMlkRxRead h p => Sys2Proof.Machine.execCmdMlkRxRead h p s
  | .cmdMlkSend h p => Sys2Proof.Machine.execCmdMlkSend h p s
  | .cmdMlkTxTest h p => Sys2Proof.Machine.execCmdMlkTxTest h p s
  | .matrixFrame o => Sys2Proof.Machine.execMatrixFrame o s
  | .matrixStart faultyOpen faultyShort faultyRows => Sys2Proof.Machine.execMatrixStart faultyOpen faultyShort faultyRows s
  | .cueDwellEnd pageMs => Sys2Proof.Machine.execCueDwellEnd pageMs s
  | .bsdSegmentDriveDone driveMA => Sys2Proof.Machine.execBsdSegmentDriveDone driveMA s
  | .cmdDisStatus h p => Sys2Proof.Machine.execCmdDisStatus h p s
  | .cmdDisFrame h p => Sys2Proof.Machine.execCmdDisFrame h p s
  | .cmdDisMapRead h p => Sys2Proof.Machine.execCmdDisMapRead h p s
  | .cmdDisBsdRead h p => Sys2Proof.Machine.execCmdDisBsdRead h p s
  | .cmdDisMapLoad h p => Sys2Proof.Machine.execCmdDisMapLoad h p s
  | .cmdDisTest h p => Sys2Proof.Machine.execCmdDisTest h p s
  | .lswOvercurrent ch peakDA => Sys2Proof.Machine.execLswOvercurrent ch peakDA s
  | .lswShort ch peakDA => Sys2Proof.Machine.execLswShort ch peakDA s
  | .lswThermalSet ch peakDA tjDC => Sys2Proof.Machine.execLswThermalSet ch peakDA tjDC s
  | .lswThermalClear ch tjDC => Sys2Proof.Machine.execLswThermalClear ch tjDC s
  | .lswInrushEnd ch => Sys2Proof.Machine.execLswInrushEnd ch s
  | .lswRwaitExpiry ch => Sys2Proof.Machine.execLswRwaitExpiry ch s
  | .lswRcntRestore ch => Sys2Proof.Machine.execLswRcntRestore ch s
  | .lswDiagPulse ch pass => Sys2Proof.Machine.execLswDiagPulse ch pass s
  | .lswDiagFlag ch cause found => Sys2Proof.Machine.execLswDiagFlag ch cause found s
  | .cmdLswStatus h p => Sys2Proof.Machine.execCmdLswStatus h p s
  | .cmdLswSet h p => Sys2Proof.Machine.execCmdLswSet h p s
  | .cmdLswPwmSet h p => Sys2Proof.Machine.execCmdLswPwmSet h p s
  | .cmdLswReset h p => Sys2Proof.Machine.execCmdLswReset h p s
  | .cmdLswProfileRead h p => Sys2Proof.Machine.execCmdLswProfileRead h p s
  | .cmdLswProfileLoad h p => Sys2Proof.Machine.execCmdLswProfileLoad h p s
  | .cmdLswTest h p => Sys2Proof.Machine.execCmdLswTest h p s
  | .updEraseDone => Sys2Proof.Machine.execUpdEraseDone s
  | .updVerifyDone => Sys2Proof.Machine.execUpdVerifyDone s
  | .updActivationDue => Sys2Proof.Machine.execUpdActivationDue s
  | .updWindowLapse => Sys2Proof.Machine.execUpdWindowLapse s
  | .updCommitPoint => Sys2Proof.Machine.execUpdCommitPoint s
  | .updRevert code part => Sys2Proof.Machine.execUpdRevert code part s
  | .updStoppingReset => Sys2Proof.Machine.execUpdStoppingReset s
  | .updGpmLoad outlet => Sys2Proof.Machine.execUpdGpmLoad outlet s
  | .cmdUpdStatus h p => Sys2Proof.Machine.execCmdUpdStatus h p s
  | .cmdUpdOpen h p => Sys2Proof.Machine.execCmdUpdOpen h p s
  | .cmdUpdBlock h p => Sys2Proof.Machine.execCmdUpdBlock h p s
  | .cmdUpdFinish h p => Sys2Proof.Machine.execCmdUpdFinish h p s
  | .cmdUpdSchedule h p => Sys2Proof.Machine.execCmdUpdSchedule h p s
  | .cmdUpdCancel h p => Sys2Proof.Machine.execCmdUpdCancel h p s
  | .cmdUpdMapRead h p => Sys2Proof.Machine.execCmdUpdMapRead h p s
  | .ethPhyRelease => Sys2Proof.Machine.execEthPhyRelease s
  | .ethFrameForward port dst src frame => Sys2Proof.Machine.execEthFrameForward port dst src frame s
  | .tcpConnect port client tcpPort => Sys2Proof.Machine.execTcpConnect port client tcpPort s
  | .modbusTcpRequest conn tid unit pdu => Sys2Proof.Machine.execModbusTcpRequest conn tid unit pdu s
  | .modbusRtuResponse link unit pdu crcOk => Sys2Proof.Machine.execModbusRtuResponse link unit pdu crcOk s
  | .modbusTimeout link => Sys2Proof.Machine.execModbusTimeout link s
  | .bridgeTcpData uart data => Sys2Proof.Machine.execBridgeTcpData uart data s
  | .bridgeUartRx uart data => Sys2Proof.Machine.execBridgeUartRx uart data s
  | .memoryEccError mem uncorrectable addr symbol core => Sys2Proof.Machine.execMemoryEccError mem uncorrectable addr symbol core s
  | .memoryScrub => Sys2Proof.Machine.execMemoryScrub s
  | .recordCopyCheck failed => Sys2Proof.Machine.execRecordCopyCheck failed s
  | .flashHashCheck mismatch => Sys2Proof.Machine.execFlashHashCheck mismatch s
  | .tagStatusRefresh => Sys2Proof.Machine.execTagStatusRefresh s
  | .cmdDiagLogRead h p => Sys2Proof.Machine.execCmdDiagLogRead h p s
  | .cmdDiagAlogRead h p => Sys2Proof.Machine.execCmdDiagAlogRead h p s
  | .cmdDiagDumpInfo h p => Sys2Proof.Machine.execCmdDiagDumpInfo h p s
  | .cmdDiagDumpRead h p => Sys2Proof.Machine.execCmdDiagDumpRead h p s
  | .cmdDiagDumpAck h p => Sys2Proof.Machine.execCmdDiagDumpAck h p s
  | .cmdDiagDumpForce h p => Sys2Proof.Machine.execCmdDiagDumpForce h p s
  | .cmdDiagDumpFull h p => Sys2Proof.Machine.execCmdDiagDumpFull h p s
  | .vholdRecoveryChargeTimeout vhold => Sys2Proof.Machine.execVholdRecoveryChargeTimeout vhold s
  | .recoveryOutputsResume => Sys2Proof.Machine.execRecoveryOutputsResume s
  | .vsupSourceChange vin => Sys2Proof.Machine.execVsupSourceChange vin s
  | .canBusOffRecovery link => Sys2Proof.Machine.execCanBusOffRecovery link s
  | .ethLinkChange port up direct => Sys2Proof.Machine.execEthLinkChange port up direct s
  | .ethMacAgeing mac => Sys2Proof.Machine.execEthMacAgeing mac s
  | .tcpConnectionClose conn => Sys2Proof.Machine.execTcpConnectionClose conn s
  | .tamperInputNormal k => Sys2Proof.Machine.execTamperInputNormal k s
  | .serviceButtonRelease => Sys2Proof.Machine.execServiceButtonRelease s
  | .tagRats => Sys2Proof.Machine.execTagRats s
  | .tagOtherFrame => Sys2Proof.Machine.execTagOtherFrame s
  | .disTestEnd openCols shortCols rows => Sys2Proof.Machine.execDisTestEnd openCols shortCols rows s
  | .clsFieldTestEnd icoilMA => Sys2Proof.Machine.execClsFieldTestEnd icoilMA s
  | .mlkTxTestEnd itxMA => Sys2Proof.Machine.execMlkTxTestEnd itxMA s
  | .lswTestEnd ch peakMA => Sys2Proof.Machine.execLswTestEnd ch peakMA s
  | .rcmTestInjectEnd outlet => Sys2Proof.Machine.execRcmTestInjectEnd outlet s
  | .gpmLoadDone outlet failed => Sys2Proof.Machine.execGpmLoadDone outlet failed s
  | .dbgCoreResume core => Sys2Proof.Machine.execDbgCoreResume core s

end Sys2Proof.Machine
end

