-- ==== Sys2Proof/Machine/Time.lean ====
section
/-!
DEFINITION. Meter time (02 R50): MTIME counts milliseconds while it runs, and groups of class IMM fall due at their NOT_BEFORE.
-/

namespace Sys2Proof.Machine

/-- One millisecond of meter time (R50). -/
def tickMs (s : Block) : Block :=
  if s.sys.mtimeRun then { s with sys := { s.sys with mtime := (s.sys.mtime + 1) % 18446744073709551616 } } else s

/-- A millisecond in which no command comes: meter time counts on, and a group of class IMM that has waited for its NOT_BEFORE
falls due (06 R173). -/
def idleMs (s : Block) : Block :=
  let s1 := tickMs s
  if s1.pwr.heldBy == .no && s1.sys.mtimeRun then boundary 0 0 s1 else s1

end Sys2Proof.Machine
end

