-- ==== Sys2Proof/Machine/Step.lean ====
section
/-!
DEFINITION. One step: the command at the front of the queue, or, on an empty queue, one millisecond of meter time.
-/

namespace Sys2Proof.Machine

/-- One step of the block. On an empty queue meter time counts on (02 R50), and groups that wait for a time fall due (06 R173);
nothing else happens by itself. -/
def step (s : State) : Host.Outcome State Fault Refusal :=
  match s.pending with
  | [] => act idleMs s
  | c :: r => exec c { s with pending := r }

/-- The state with the command that a word spells in front of its queue. -/
def State.withFetchWord (s : State) (nbits w : Nat) : State :=
  match decodeTableWord nbits w with
  | none => s
  | some c => { s with pending := c :: s.pending }

end Sys2Proof.Machine
end

