-- ==== Sys2Proof/Safety.lean ====
section
/-!
DEFINITION. The terms in which the statements speak: the invariant of every step, a run of steps, an event latched, and a
mailbox command whose request is accepted and starts at once.
-/

namespace Sys2Proof.Machine

/-! ### The invariant -/

/-- Every cell lies within the tag die's 32 KiB. -/
def memInside (m : List Host.Cell) : Bool := m.all fun c => c.1 < 32768

/-- The invariant of every step: the tag memory is in canonical form and within its 32 KiB, and no write to it is left
over. -/
def TagSound (s : State) : Prop := memWf s.tagMem = true ∧ memInside s.tagMem = true ∧ s.blk.tag.out = []

/-- `k` steps of the block, stopping where one does not answer a next state. -/
def runFor : Nat → State → Host.Outcome State Fault Refusal
  | 0, s => .next s
  | k + 1, s =>
    match step s with
    | .next t => runFor k t
    | .fault f => .fault f
    | .refused r => .refused r

/-- The commands of a list, one after the other, stopping where one does not answer a next state. -/
def execAll : List Instr → State → Host.Outcome State Fault Refusal
  | [], s => .next s
  | c :: l, s =>
    match exec c s with
    | .next t => execAll l t
    | .fault f => .fault f
    | .refused r => .refused r

/-! ### Locks -/

/-- Every owner that waits for a lock holds no lock numbered as high or higher (06 R178). -/
def WaitsRise (s : Block) : Prop :=
  ∀ n w, w ∈ (tget s.pln.locks n).waiters → ∀ k, n ≤ k → k ≤ 31 → holdsLock w.owner k s = false

/-! ### Events -/

/-- RAW of event `e` (05 R143). -/
def rawBit (e : Nat) (s : Block) : Bool := bit (tget s.evt.groups (e / 32)).raw (e % 32)

/-- OVF of event `e` (05 R143). -/
def ovfBit (e : Nat) (s : Block) : Bool := bit (tget s.evt.groups (e / 32)).ovf (e % 32)

/-! ### Mailbox commands that start at once -/

/-- The entry that a request on mailbox `h.mb` will occupy. -/
def refOf (h : Req) (s : Block) : CmdRef := { mb := h.mb.toNat, id := (s.box h.mb.toNat).nextId }

/-- A request with its header and payload, CHK right. -/
def request (op : Nat) (h : Req) (p : List Byte) : Arrived :=
  { opcode := op, tag := h.tag.toNat, flags := h.flags.toNat, len := p.length, seq := h.seq.toNat, payload := p, chkOk := true }

/-- The transport of a request: the one its mailbox is bound to, HSPI where it is unbound. -/
def viaOf (h : Req) (s : Block) : Nat :=
  if (s.box h.mb.toNat).bind == 0 then 1 else (s.box h.mb.toNat).bind

/-- The block once the request has been accepted and its command has started: what it does to the mailboxes, the host
watchdog and the events of a silent period that ends; nothing else (`begun_sys` and its sisters). -/
def begun (op : Nat) (h : Req) (p : List Byte) (s : Block) : Block :=
  markStarted (refOf h s) (arrive h.mb.toNat (viaOf h s) (request op h p) s)

/-- The request carries the SEQ that its mailbox expects (05 R129). -/
def seqNext (h : Req) (s : Block) : Bool :=
  match (s.box h.mb.toNat).last with
  | none => true
  | some l => h.seq.toNat == (l.seq + 1) % 4294967296

/-- A request is accepted and its command starts at once (05 R128, R130): the window is served and commands start, the
mailbox is there, is idle and expects this SEQ, FLAGS are 0, the payload is at most 4,080 bytes. -/
def accepted (h : Req) (p : List Byte) (s : Block) : Bool :=
  mayStart s && h.mb.toNat < s.mbx.boxes.length && (s.box h.mb.toNat).entries.isEmpty && seqNext h s &&
    h.flags == 0 && p.length ≤ 4080

/-- The request is accepted, its command starts at once and passes checks 5 to 7 of Table 5-4: the mailbox takes the opcode,
the mode allows it, an expert command finds a grant. -/
def starts (op : Nat) (role : Role) (modes : List Mode) (h : Req) (p : List Byte) (s : Block) : Bool :=
  accepted h p s && role.accepts h.mb.toNat && s.inMode modes && (!isExpert op || grantValid s)

/-- The next state in which the block is `b`, its writes to the tag memory made. -/
def became (s : State) (b : Block) : Host.Outcome State Fault Refusal := .next (wrote s b)

/-- The next state of a command that ends with a status and a payload, having left the block as `b`. -/
def answered (h : Req) (s : State) (status : Nat) (payload : List Byte) (b : Block) : Host.Outcome State Fault Refusal :=
  became s (complete (refOf h s.blk) status payload b)

/-- The next state of a command that ends with `OK`. -/
def answeredOk (h : Req) (s : State) (payload : List Byte) (b : Block) : Host.Outcome State Fault Refusal :=
  answered h s stOk payload b

/-- The next state of a command that answers `ACCEPTED` and goes on, having left the block as `b`. -/
def acceptedAs (h : Req) (s : State) (b : Block) : Host.Outcome State Fault Refusal :=
  became s (respondAccepted (refOf h s.blk) b)

/-- The mailbox commands that read and change nothing but their own mailbox. -/
def IsRead (h : Req) (p : List Byte) (i : Instr) : Prop :=
  i ∈ [.cmdSysInfoGet h p, .cmdSysStatusGet h p, .cmdSysConfigRead h p, .cmdPlanStatus h p, .cmdGroupStatus h p,
   .cmdAsyStatus h p, .cmdAsyCalRead h p, .cmdNrgSnapshot h p, .cmdNrgQtyRead h p, .cmdNrgDemandRead h p,
   .cmdNrgPqRead h p, .cmdNrgBalRead h p, .cmdBilStatus h p, .cmdBilIngotRead h p, .cmdOutletStatus h p,
   .cmdAlcStatus h p, .cmdRcmStatus h p, .cmdSafStatus h p, .cmdSafPsetRead h p, .cmdSecStatus h p,
   .cmdSecPubkeyRead h p, .cmdSecCertRead h p, .cmdSecTamperRead h p, .cmdClsStatus h p, .cmdClsCardRead h p,
   .cmdClsWlRead h p, .cmdMlkStatus h p, .cmdDisStatus h p, .cmdDisMapRead h p, .cmdDisBsdRead h p,
   .cmdLswStatus h p, .cmdLswProfileRead h p, .cmdUpdStatus h p, .cmdUpdMapRead h p, .cmdDiagLogRead h p,
   .cmdDiagAlogRead h p, .cmdDiagDumpInfo h p, .cmdDiagDumpRead h p, .cmdDiagDumpFull h p]

/-! ### The tag's RF commands -/

/-- The block in which an RF command of the tag is served: a write that waits has run to its end, and a session has counted
the command (15 R459, R460). -/
def tagServed (b : Block) : Block :=
  if (rfFinish b).tag.session then updTag (fun t => { t with ssc := (t.ssc + 1) % 4294967296 }) (rfFinish b) else rfFinish b

end Sys2Proof.Machine
end

