-- ==== Sys2Proof/Certificates/Slice0/Obligations.lean ====
section
/-!
DEFINITION. The statements for the provers. Those of a chapter's commands and rows name the next state whole: what a clause
does not name is unchanged.
-/

open Sys2Proof Sys2Proof.Machine

/-- A step takes the command at the front of the queue and runs it on the state with the queue's rest. -/
def Obligations.StepTakesTheFront : Prop :=
  ∀ (c : Instr) (r : List Instr) (s : State), step { s with pending := c :: r } = exec c { s with pending := r }

/-- On an empty queue a step is one millisecond of meter time, and nothing else where no group of class IMM waits for its
NOT_BEFORE (the model's choice, log entry 1; MTIME counts by 02 R50). -/
def Obligations.IdleStepCountsMeterTime : Prop :=
  ∀ s : State, s.pending = [] → TagSound s → (∀ g ∈ heldGroups s.blk, g.bclass ≠ 0) →
    step s = .next (if s.blk.sys.mtimeRun then
      { s with blk := { s.blk with sys := { s.blk.sys with mtime := (s.blk.sys.mtime + 1) % 18446744073709551616 } } }
    else s)

/-- Every command answers a next state, whatever the state, and leaves the queue as it is. -/
def Obligations.EveryCommandAnswers : Prop :=
  ∀ (c : Instr) (s : State), ∃ t, exec c s = .next t ∧ t.pending = s.pending

/-- The state right after reset keeps the invariant of every step. -/
def Obligations.ResetKeepsTagMemory : Prop := TagSound State.reset

/-- Every step keeps the tag memory in canonical form and within its 32 KiB, and leaves no write to it over. -/
def Obligations.StepKeepsTagMemory : Prop := ∀ s t : State, TagSound s → step s = .next t → TagSound t

/-- Bytes written to the tag memory are read back, and every other address reads as before (15 R456). -/
def Obligations.TagMemoryReadsWhatWasWritten : Prop :=
  ∀ (m : List Host.Cell) (a : Nat) (d : List Byte) (x : Nat), memWf m = true → a + d.length ≤ 32768 →
    memRead x (memWrites a d m) = if a ≤ x ∧ x < a + d.length then d.getD (x - a) 0 else memRead x m

/-- `CMD_CLS_TAG_WRITE` stores its payload in the blocks it names and leaves every other byte of the tag memory as it is
(15 Table 15-12, R461). -/
def Obligations.TagWriteStoresItsBlocks : Prop :=
  ∀ (h : Req) (p : List Byte) (s : State),
    let b := begun 0x0B11 h p s.blk
    TagSound s → starts 0x0B11 .general mWork h p s.blk → 4 ≤ p.length → p.length = 4 + 128 * u8At p 1 →
    128 ≤ u8At p 0 → 1 ≤ u8At p 1 → u8At p 1 ≤ 3 → u8At p 0 + u8At p 1 ≤ 256 → wiredOk b →
    (upto (u8At p 0) (u8At p 0 + u8At p 1 - 1)).filter (fun j => bit b.tag.locks (j - 128)) = [] →
    ∃ t, exec (.cmdClsTagWrite h p) s = .next t ∧ ∀ x, memRead x t.tagMem =
      if 128 * u8At p 0 ≤ x ∧ x < 128 * (u8At p 0 + u8At p 1) then (p.drop 4).getD (x - 128 * u8At p 0) 0
      else memRead x s.tagMem

/-- An occurrence sets RAW, sets OVF where RAW was 1, and clears no RAW bit of any event (05 R143). -/
def Obligations.OccurrenceLatches : Prop :=
  ∀ (e x : Nat) (s : Block), e / 32 < s.evt.groups.length →
    rawBit e (raise e x s) = true ∧ (rawBit e s = true → ovfBit e (raise e x s) = true) ∧
    (∀ k, rawBit k s = true → rawBit k (raise e x s) = true) ∧
    (raise e x s).evt.groups.length = s.evt.groups.length

/-- An occurrence keeps the entries that the event queue holds, appends at its end, and never lets it hold more than 512
entries (05 R146). -/
def Obligations.EventQueueKeepsItsEntries : Prop :=
  ∀ (e x : Nat) (s : Block), s.evt.queue.length ≤ 512 →
    (∃ l, (raise e x s).evt.queue = s.evt.queue ++ l) ∧ (raise e x s).evt.queue.length ≤ 512

/-- A write of `EVT_SETg` in COMMISSION raises a test occurrence, with data 0xFFFF_FFFF, of each event written, and does
nothing else but count the frame; in another mode it is not performed and sets NOTPERF, or in ZEROISED raises a bus
error (05 R145, 04 R102, R103). -/
def Obligations.EventSetRaisesTestOccurrences : Prop :=
  ∀ (g : Nat) (v : Word) (s : State) (b : Block), s.blk = b → served b → g < 8 →
    (b.sys.mode = .commission → ∃ hst,
      exec (.evtSetWrite g v) s = became s { ((List.range 32).filter (bit v.toNat ·)).foldl
        (fun x i => raiseAs true (32 * g + i) 0xFFFFFFFF x) b with hst := hst }) ∧
    (b.sys.mode ≠ .commission → b.sys.mode ≠ .zeroised → ∃ hst,
      hst.notperf = true ∧ exec (.evtSetWrite g v) s = became s { b with hst := hst }) ∧
    (b.sys.mode = .zeroised → ∃ hst,
      hst.berr = true ∧ exec (.evtSetWrite g v) s = became s { b with hst := hst })

/-- A write of `EVT_RAWg` in a mode that performs it clears the RAW bits written and no other, and leaves OVF and the
queue (05 R143, 04 R102). -/
def Obligations.EventRawClearsWhatIsWritten : Prop :=
  ∀ (g : Nat) (v : Word) (s : State), served s.blk → g < 8 →
    s.blk.inMode [.standby, .service, .degraded, .maintain, .commission] →
    ∃ t, exec (.evtRawClear g v) s = .next t ∧ t.blk.evt.queue = s.blk.evt.queue ∧
      ∀ e, rawBit e t.blk = (rawBit e s.blk && !(e / 32 == g && bit v.toNat (e % 32))) ∧ ovfBit e t.blk = ovfBit e s.blk

/-- A core is halted through DBG only in FACTORY, PROVISION, STANDBY, MAINTAIN and COMMISSION; there its heartbeat check
is suspended while it is halted; in every other mode a halt request changes nothing (14 R436). -/
def Obligations.CoreHaltsOnlyInItsModes : Prop :=
  ∀ (core : Nat) (s : State) (b : Block), s.blk = b →
    (b.inMode [.factory, .provision, .standby, .maintain, .commission] = false →
      exec (.dbgCoreHalt core) s = became s b) ∧
    (b.inMode [.factory, .provision, .standby, .maintain, .commission] → core < 4 → b.cru.dbgState = 1 →
      larkspurRuns core b →
      exec (.dbgCoreHalt core) s = became s (updCru (fun c => { c with halted := setBit c.halted core }) b)) ∧
    (b.inMode [.factory, .provision, .standby, .maintain, .commission] → bit b.cru.halted core →
      exec (.heartbeatTimeout core) s = became s b)

/-- The transport CRC has polynomial 0x1021, initial value 0xFFFF, no reflection and no final XOR; its check value is
0x29B1; a read frame's MCHK is it over what the module drives before; a frame whose HCRC is another value is not
performed (04 R97, R98). -/
def Obligations.TransportCrc : Prop :=
  crc16 [0x31, 0x32, 0x33, 0x34, 0x35, 0x36, 0x37, 0x38, 0x39] = 0x29B1 ∧ crc16 [] = 0xFFFF ∧
  (∀ (l : List Byte) (x : Byte), crc16 (l ++ [x]) = (List.range 8).foldl
    (fun c _ => if 32768 ≤ c then Nat.xor (c * 2 % 65536) 0x1021 else c * 2) (Nat.xor (crc16 l) (256 * x.toNat))) ∧
  (∀ (t : Nat) (ws : List Word), readTx t ws = p8 t ++ wordBytes ws ++ p16 (crc16 (p8 t ++ wordBytes ws))) ∧
  (∀ (cmd : Byte) (addr : BitVec 24) (hcrc : BitVec 16) (s : State), served s.blk →
    crc16 (frameHead cmd.toNat addr.toNat) ≠ hcrc.toNat → ∃ hst,
      exec (.hspiReadFrame cmd addr hcrc) s = became s { s.blk with hst := hst }) ∧
  (∀ (cmd : Byte) (addr : BitVec 24) (ws : List Word) (hcrc : BitVec 16) (s : State), served s.blk →
    crc16 (frameHead cmd.toNat addr.toNat ++ wordBytes ws) ≠ hcrc.toNat → ∃ hst,
      exec (.hspiWriteFrame cmd addr ws hcrc) s = became s { s.blk with hst := hst })

/-- An accepted command that fails one of the checks 5 to 8 of Table 5-4 ends with the status of the first that fails, and
nothing of it takes effect (05 R128). The mode check takes in the modes of a plan command's domain (06 R158). -/
def Obligations.FailedChecksTakeNoEffect : Prop :=
  ∀ (c : CmdSpec) (h : Req) (p : List Byte) (s : Block), accepted h p s →
    (c.role.accepts h.mb.toNat = false →
      runCmd c h p s = complete (refOf h s) stBadParam [] (begun c.op h p s)) ∧
    (c.role.accepts h.mb.toNat → (s.inMode c.modes && c.modeOf p (begun c.op h p s)) = false →
      runCmd c h p s = complete (refOf h s) stNotInMode [] (begun c.op h p s)) ∧
    (c.role.accepts h.mb.toNat → s.inMode c.modes → c.modeOf p (begun c.op h p s) → isExpert c.op → grantValid s = false →
      runCmd c h p s = complete (refOf h s) stExpert [] (begun c.op h p s)) ∧
    (c.role.accepts h.mb.toNat → s.inMode c.modes → c.modeOf p (begun c.op h p s) → (isExpert c.op → grantValid s) → c.len p = false →
      runCmd c h p s = complete (refOf h s) stBadLength [] (begun c.op h p s))

/-- As many steps as commands wait run them in the order of the queue, each on the state that the one before it left; what
waits behind them changes nothing of what they do. -/
def Obligations.QueueRunsInOrder : Prop :=
  ∀ (l r : List Instr) (s : State),
    runFor l.length { s with pending := l ++ r } = execAll l { s with pending := r }

/-- On an empty queue `n + 1` steps add `n + 1` milliseconds to MTIME, modulo 2⁶⁴, and change nothing else where no group
of class IMM waits (the model's choice, log entry 1; 02 R50). -/
def Obligations.IdleRunCountsMeterTime : Prop :=
  ∀ (n : Nat) (s : State), s.pending = [] → TagSound s → (∀ g ∈ heldGroups s.blk, g.bclass ≠ 0) →
    s.blk.sys.mtimeRun = true →
    runFor (n + 1) s = .next { s with blk := { s.blk with sys := { s.blk.sys with
      mtime := (s.blk.sys.mtime + (n + 1)) % 18446744073709551616 } } }

/-- An owner that is made to wait for a lock holds no lock numbered as high or higher, and a grant makes no waiter hold
one: the chain of waits always rises (06 R178). -/
def Obligations.LockWaitsRise : Prop :=
  ∀ (owner n : Nat) (w : Waiter) (s : Block), WaitsRise s → n ≤ 31 →
    (lockAsk owner n s = .wait → w.owner = owner →
      WaitsRise (updLock n (fun l => { l with waiters := l.waiters ++ [w] }) s)) ∧
    (∀ t, lockAsk owner n s = .granted t → WaitsRise t ∧ (n < s.pln.locks.length → holdsLock owner n t = true)) ∧
    (∀ st t, lockAsk owner n s = .fail st t → WaitsRise t ∧ ∀ k, (tget t.pln.locks k).owner = (tget s.pln.locks k).owner)

/-- What a whole-module reset leaves by the spec's own words: mode SELFTEST, an empty event queue, no pending shadow,
transport counters at 0, every lock free and not BROKEN, every mailbox unbound and empty, no commit group. -/
def Obligations.ResetValues : Prop :=
  State.reset.blk.sys.mode = .selftest ∧ State.reset.blk.evt.queue = [] ∧ State.reset.blk.evt.lost = 0 ∧
  State.reset.blk.shadows = [] ∧ State.reset.blk.hst.berrCnt = 0 ∧ State.reset.blk.hst.crcCnt = 0 ∧
  State.reset.blk.hst.abortCnt = 0 ∧ State.reset.blk.hst.frameCnt = 0 ∧
  (∀ n, n ≤ 31 → (tget State.reset.blk.pln.locks n).owner = 0 ∧ (tget State.reset.blk.pln.locks n).broken = false) ∧
  (∀ n, n ≤ 7 → (State.reset.blk.box n).bind = 0 ∧ (State.reset.blk.box n).entries = [] ∧
    (State.reset.blk.box n).rsps = [] ∧ (State.reset.blk.box n).asm = []) ∧
  (∀ n, tget State.reset.blk.pln.groups n = none) ∧ State.reset.pending = []

/-- A read frame that names no mailbox port changes nothing but the transport's own registers (04 R98, R100). -/
def Obligations.ReadFramesChangeNothing : Prop :=
  ∀ (cmd : Byte) (addr : BitVec 24) (hcrc : BitVec 16) (s : State),
    (∀ a ∈ wordAddrs addr.toNat (cmd.toNat % 16 + 1), portOf a = none) →
    ∃ hst, exec (.hspiReadFrame cmd addr hcrc) s = became s { s.blk with hst := hst }

/-- A mailbox command that only reads leaves the tag memory, and everything of the block but the mailboxes, the events and
the diagnostic counts and log, as it was: every form of it, with whatever status it ends. -/
def Obligations.ReadCommandsChangeNothing : Prop :=
  ∀ (h : Req) (p : List Byte) (i : Instr) (s t : State), IsRead h p i → TagSound s → accepted h p s.blk →
    s.blk.pln.taken = [] → exec i s = .next t →
    t.tagMem = s.tagMem ∧ ∃ mbx evt dbg, t.blk = { s.blk with mbx := mbx, evt := evt, dbg := dbg }

/-- Symbol `j` of a coded block of 8,192 symbols is sent in data window `(163 j) mod 512` at position `j div 512`, as the
tone of its dibit; the 512 windows of 16 positions carry each symbol once, and from a window and a position the symbol
is found again (16 R466, R471). -/
def Obligations.InterleaverPlacesSymbols : Prop :=
  (∀ (blk : List Byte) (j : Nat), j < 8192 →
    (windowTones blk (1 + 163 * j % 512)).getD (j / 512) 0 = toneOf (codedDibit blk j)) ∧
  (∀ j k : Nat, 163 * j % 512 = 163 * k % 512 → j / 512 = k / 512 → j = k) ∧
  (∀ h pos : Nat, h < 512 → symWindow (symAt h pos) = h ∧ symPos (symAt h pos) = pos)

/-- Each plan command of Table 6-17, started in a mode and on a domain that admit it, ends with the result the chapter
gives it. Conditions: the request starts at once, then those written. Where the spec leaves a point open, the model’s
choice stands in log entries 48 to 68. -/
def Obligations.PlanCommands : Prop :=
  ∀ (h : Req) (p : List Byte) (s : State),
    (let b := begun 0x0200 h p s.blk
     starts 0x0200 .general mRun h p s.blk → p.length = 160 → (parseHdr p).domain ≤ 2 → planModeOf p b →
       bit b.split 0 → (parseHdr p).flags = 1 → 1 ≤ (parseHdr p).rows → (parseHdr p).rows ≤ 4096 →
       (parseHdr p).swap ≤ 1 → b.transactional (parseHdr p).domain = false → (planKey b).attr ≠ 0 →
       stageFree h.mb.toNat (parseHdr p).domain b →
       exec (.cmdPlanBegin h p) s = 
         if edVerify (planKey b).key (bytesAt p 0 96) (bytesAt p 96 64) then
           answeredOk h s [] (updStage (parseHdr p).domain (fun _ =>
             { Staging.empty with stage := .loading, owner := mbOwner h.mb.toNat, hdr := parseHdr p }) (engOp 2 b))
         else answered h s stAuthFailed [] (engOp 2 b)) ∧
    (let b := begun 0x0201 h p s.blk
     starts 0x0201 .general mRun h p s.blk → 8 ≤ p.length → p.length = 8 + 56 * u16At p 4 → planModeOf p b →
       planAsk h.mb.toNat (u8At p 0) (fun g =>
         g.stage == .loading && 1 ≤ u16At p 4 && u16At p 4 ≤ 72 && u16At p 2 + u16At p 4 ≤ g.hdr.rows) b = none →
       exec (.cmdPlanLoad h p) s = 
         answeredOk h s [] (updStage (u8At p 0) (fun g => { g with
           rows := rowsFrom p (u16At p 2) (u16At p 4) ++
             g.rows.filter fun x => x.1 < u16At p 2 || u16At p 2 + u16At p 4 ≤ x.1 }) b)) ∧
    (let b := begun 0x0202 h p s.blk
     starts 0x0202 .general mRun h p s.blk → p.length = 4 → planModeOf p b →
       planAsk h.mb.toNat (u8At p 0) (fun g => g.stage == .loading) b = none →
       exec (.cmdPlanArm h p) s = became s (askValidation (u8At p 0) (some (refOf h s.blk)) b)) ∧
    (let b := begun 0x0203 h p s.blk
     starts 0x0203 .general mRun h p s.blk → p.length = 4 → planModeOf p b →
       planAsk h.mb.toNat (u8At p 0) (fun g => g.stage != .empty) b = none →
       exec (.cmdPlanCancel h p) s = 
         answeredOk h s [] (if (b.dom (u8At p 0)).staging.stage == .validating then
             nextValidation (planReject (u8At p 0) ⟨0, 15, 0, none⟩ b)
           else dropStaging (u8At p 0) b)) ∧
    (let b := begun 0x0204 h p s.blk
     starts 0x0204 .general mServed h p s.blk → p.length = 4 → u8At p 0 ≤ 2 →
       exec (.cmdPlanStatus h p) s = answeredOk h s (wordBytes ((List.range 4).map (fun i => planWord (u8At p 0) i b) ++ [w32 b.pln.tick])) b)

/-- Each command of commit groups, hardware locks and arbiter classes (Tables 6-17 and 6-18) ends with the result the
chapter gives it. Conditions: the request starts at once, then those written. Where the spec leaves a point open, the
model’s choice stands in log entries 48 to 68. -/
def Obligations.GroupCommands : Prop :=
  ∀ (h : Req) (p : List Byte) (s : State),
    (let b := begun 0x0210 h p s.blk
     starts 0x0210 .general mRun h p s.blk → 24 ≤ p.length → p.length = 24 + 16 * u8At p 2 →
       groupOk (parseGroup p) b → groupRoom true (parseGroup p).acts.length b → b.pln.jrnBad = false →
       exec (.cmdGroupSubmit h p) s = 
         let tag := ((findEntry (refOf h s.blk).id (b.box h.mb.toNat).entries).map fun e => e.tag).getD 0
         became s (boundary 0 0 (respondAccepted (refOf h s.blk) (putGroup { parseGroup p with
           gseq := nextGseq b, owner := mbOwner h.mb.toNat, tag, cmd := some (refOf h s.blk) }
           { b with pln.gseq := nextGseq b })))) ∧
    (∀ (i : Nat) (g : Group), let b := begun 0x0211 h p s.blk
     starts 0x0211 .general mRun h p s.blk → p.length = 4 → groupBySeq (u32At p 0) b = some (i, g) →
       g.owner = mbOwner h.mb.toNat → g.due = none →
       exec (.cmdGroupAbort h p) s = answeredOk h s [] (abortGroup i 2 0xFF b)) ∧
    (let b := begun 0x0212 h p s.blk
     starts 0x0212 .general mServed h p s.blk → p = [] →
       exec (.cmdGroupStatus h p) s = 
         answeredOk h s (wordBytes (groupSum b :: (List.range 16).flatMap fun g =>
           (List.range 4).map fun i => groupWord g i b)) b) ∧
    (let b := begun 0x0220 h p s.blk
     starts 0x0220 .general mRun h p s.blk → p.length = 4 → u8At p 0 ≤ 31 → u16At p 2 ≤ 5000 →
       exec (.cmdLockAcquire h p) s = 
         match lockAsk (mbOwner h.mb.toNat) (u8At p 0) b with
         | .granted b1 => answeredOk h s [] b1
         | .fail st b1 => answered h s st [] b1
         | .wait =>
           if u16At p 2 = 0 then answered h s stBusy [] b
           else acceptedAs h s (updLock (u8At p 0) (fun l => { l with waiters := l.waiters ++
             [⟨mbOwner h.mb.toNat, b.sys.mtime + u16At p 2, some (refOf h s.blk), false⟩] }) b)) ∧
    (let b := begun 0x0221 h p s.blk
     starts 0x0221 .general mRun h p s.blk → p.length = 4 → u8At p 0 ≤ 31 →
       holdsLock (mbOwner h.mb.toNat) (u8At p 0) b →
       exec (.cmdLockRelease h p) s = answeredOk h s [] (lockFree (u8At p 0) b)) ∧
    (let b := begun 0x0280 h p s.blk
     starts 0x0280 .general mRun h p s.blk → p.length = 4 → u8At p 0 = 0 → u8At p 1 < 8 → u8At p 2 ≤ 7 →
       tget b.pln.arbM.cls (u8At p 1) ≠ u8At p 2 →
       exec (.cmdArbPrioSet h p) s = 
         answeredOk h s [] (evalRefresh (raise 49 (u8At p 1 * 256 + u8At p 2)
           { b with pln.arbM := { b.pln.arbM with cls := tput b.pln.arbM.cls (u8At p 1) (u8At p 2) } })))

/-- Each command of Table 7-15 ends with the result the chapter gives it. Conditions: the request starts at once, then
those written. Where the spec leaves a point open, the model’s choice stands in log entries 69 to 77. -/
def Obligations.MetrologyCommands : Prop :=
  ∀ (h : Req) (p : List Byte) (s : State),
    (let b := begun 0x0300 h p s.blk
     starts 0x0300 .general mServed h p s.blk → p.length = 4 → pointOk (u8At p 0) →
       exec (.cmdAsyStatus h p) s = 
         answeredOk h s (wordBytes ([1, 3, 2, 4, 6, 7].map (fun i => asyPoint (u8At p 0) i b) ++
           chans8.map fun c => chstat (u8At p 0) c b)) b) ∧
    (let b := begun 0x0301 h p s.blk
     starts 0x0301 .general mWork h p s.blk → p.length = 4 → pointOk (u8At p 0) → u8At p 1 ≤ 3 →
       chInUse (u8At p 0) (u8At p 1) b → checkSuppressed (u8At p 0) (u8At p 1) b = false →
       exec (.cmdAsyInjRun h p) s = acceptedAs h s { b with asy.injCmds := b.asy.injCmds ++ [(refOf h s.blk, u8At p 0, u8At p 1)] }) ∧
    (∀ a : Block, let b := begun 0x0302 h p s.blk
     starts 0x0302 .general [.standby, .service, .degraded, .maintain] h p s.blk → p.length = 4 →
       asyResetOk (u8At p 0) b → asyResetOk (u8At p 0) a → takeLocks (refOf h s.blk) (lockOf p b) b = .all a →
       exec (.cmdAsyFaultReset h p) s = answeredOk h s [] (faultCleared (u8At p 0) (raise 74 (u8At p 0 * 256) (updPt (u8At p 0) (fun x => { x with latched := false }) a)))) ∧
    (let b := begun 0x0303 h p s.blk
     starts 0x0303 .general mServed h p s.blk → p.length = 8 → 1 ≤ u16At p 4 → u16At p 4 ≤ 4080 →
       u32At p 0 + u16At p 4 ≤ 8384 →
       exec (.cmdAsyCalRead h p) s = answeredOk h s (bytesAt (calBytes b.asy.record) (u32At p 0) (u16At p 4)) b) ∧
    (∀ b1 : Block, let b := begun 0x0380 h p s.blk
     starts 0x0380 .general mCommission h p s.blk → p.length = 4 → pointOk (u8At p 0) → ptOn (u8At p 0) b →
       10 ≤ u16At p 2 → u16At p 2 ≤ 500 → asyRecord 0x0380 (p.map fun b => b.toNat) b = some b1 →
       exec (.cmdAsyCalMeasure h p) s = 
         acceptedAs h s { b1 with asy.measures := b1.asy.measures ++ [{
           cmd := refOf h s.blk, point := u8At p 0, want := u16At p 2, done := 0, on := false, n := 0, ns := 0
           sq := List.replicate 8 0, raw := List.replicate 8 0, p := List.replicate 3 0, q := List.replicate 3 0 }] }) ∧
    (∀ b1 : Block, let b := begun 0x0381 h p s.blk
     starts 0x0381 .general mCommission h p s.blk → p.length = 516 → pointOk (u8At p 0) →
       asyRecord 0x0381 (p.map fun b => b.toNat) b = some b1 →
       exec (.cmdAsyTctabLoad h p) s = 
         answeredOk h s [] (updPt (u8At p 0) (fun x => { x with
           table := (List.range 128).map fun i => u32At p (4 + 4 * i), entPend := true }) b1)) ∧
    (∀ b1 : Block, let b := begun 0x0382 h p s.blk
     starts 0x0382 .general mCommission h p s.blk → p.length = 32 →
       edgesOk ((List.range 15).map fun k => i16At p (2 * k)) → asyRecord 0x0382 (p.map fun b => b.toNat) b = some b1 →
       exec (.cmdAsyBandSet h p) s = answeredOk h s [] { b1 with asy.edges := (List.range 15).map fun k => i16At p (2 * k) }) ∧
    (∀ b1 : Block, let b := begun 0x0383 h p s.blk
     starts 0x0383 .general mCommission h p s.blk → p.length = 4 → asyClear b → calCommit (u32At p 0) b = some b1 →
       exec (.cmdAsyCalCommit h p) s = answeredOk h s (p32 b1.asy.record.calseq) b1) ∧
    (∀ b1 : Block, let b := begun 0x0384 h p s.blk
     starts 0x0384 .general mCommission h p s.blk → p = [] → asyRecord 0x0384 [] b = some b1 →
       exec (.cmdAsyCalDiscard h p) s = 
         answeredOk h s [] { b1 with asy := { b1.asy with
           edges := b1.asy.record.edges, points := b1.asy.points.map fun x => { x with discard := true } } })

/-- Each command of Table 8-11 ends with the result the chapter gives it. Conditions: the request starts at once, then
those written. Where the spec leaves a point open, the model’s choice stands in log entries 69 to 77. -/
def Obligations.EnergyCommands : Prop :=
  ∀ (h : Req) (p : List Byte) (s : State),
    (let b := begun 0x0400 h p s.blk
     starts 0x0400 .general (mServed ++ [.zeroised]) h p s.blk → p = [] →
       exec (.cmdNrgSnapshot h p) s = answeredOk h s (p64 b.sys.mtime ++ p32 b.asy.sampleCnt ++ zeros 4 ++ points.flatMap fun p => (accVis p b).flatMap p64) b) ∧
    (let b := begun 0x0401 h p s.blk
     starts 0x0401 .general mServed h p s.blk → p.length = 4 → pointOk (u8At p 0) →
       exec (.cmdNrgQtyRead h p) s = 
         answeredOk h s (p32 (b2n (tinjOn (u8At p 0) b)) ++ p32 (satU32 (b.pq (u8At p 0)).inRms) ++
           (b.pq (u8At p 0)).ph.flatMap qtyPhase ++ p32 (b.pq (u8At p 0)).freq ++ zeros 4) b) ∧
    (let b := begun 0x0402 h p s.blk
     starts 0x0402 .general mServed h p s.blk → p.length = 4 → pointOk (u8At p 0) → b.ptType (u8At p 0) ≠ 3 →
       u8At p 1 ≤ 2 ∨ 4 ≤ u8At p 1 ∧ u8At p 1 ≤ 6 → chInUse (u8At p 0) (u8At p 1) b →
       exec (.cmdNrgHarmRead h p) s = 
         let hv := tget (b.ch (u8At p 0) (u8At p 1)).harm
         answeredOk h s (p32 (satU32 (hv 1)) ++ p16 (hv 0) ++ zeros 2 ++ (upto 2 40).flatMap (fun k => p16 (hv k)) ++ zeros 2) b) ∧
    (let b := begun 0x0403 h p s.blk
     starts 0x0403 .general mServed h p s.blk → p.length = 4 → pointOk (u8At p 0) →
       exec (.cmdNrgDemandRead h p) s = 
         let d := b.nrg.dem
         let n := u8At p 0
         answeredOk h s (p32 d.seq ++ p32 (b2n d.partial_) ++ p32 (tget d.demImp n) ++ p32 (tget d.demExp n) ++
           p32 (tget d.maxImp n) ++ p32 (tget d.maxExp n) ++ p64 (tget d.maxImpAt n) ++ p64 (tget d.maxExpAt n)) b) ∧
    (let b := begun 0x0404 h p s.blk
     starts 0x0404 .general mServed h p s.blk → p.length = 4 → u16At p 0 ≤ 127 → 1 ≤ u16At p 2 → u16At p 2 ≤ 32 →
       exec (.cmdNrgPqRead h p) s = 
         let l := (b.nrg.pqLog.drop (u16At p 0)).take (u16At p 2)
         answeredOk h s (p16 l.length ++ zeros 2 ++ l.flatMap pqBytes) b) ∧
    (let b := begun 0x0405 h p s.blk
     starts 0x0405 .general mServed h p s.blk → p = [] →
       exec (.cmdNrgBalRead h p) s = 
         let x := b.nrg.bal
         let v := fun (i : Int) => pi32 (satI32 i)
         answeredOk h s (p32 (balStat b).toNat ++ v x.eSite ++ v x.eOut ++ v x.eLoss ++ v x.d ++ p32 (satU32 x.tol) ++
           v x.eAux ++ v x.ePls ++ v x.eDc ++ v x.eCab) b) ∧
    (let b := begun 0x0480 h p s.blk
     starts 0x0480 .general mCommission h p s.blk → p.length = 4 → 1 ≤ u8At p 0 → u8At p 0 ≤ 8 → 1 ≤ u16At p 2 →
       u16At p 2 ≤ 10000 → b.pulseOn (u8At p 0) → (b.pls (u8At p 0)).testCmd = none →
       exec (.cmdNrgPulseTest h p) s = acceptedAs h s (updPls (u8At p 0) (fun x => { x with test := u16At p 2, testCmd := some (refOf h s.blk) }) b))

/-- Each command of the billing chapter (Table 9-12) ends with the result the chapter gives it. Conditions: the request
starts at once, then those written. Where the spec leaves a point open, the model’s choice stands in log entries 78 to
87. -/
def Obligations.BillingCommands : Prop :=
  ∀ (h : Req) (p : List Byte) (s : State),
    (let b := begun 0x0500 h p s.blk
     starts 0x0500 .general mServed h p s.blk → p = [] →
       exec (.cmdBilStatus h p) s = 
         answeredOk h s (wordBytes [bilStat b, bilTariff b] ++ pi64 b.bil.credit ++ pi64 (limitD b) ++
           wordBytes [bilPpStat b, bilRelay b, w32 b.bil.pseq, w32 b.bil.iseq]) b) ∧
    (∀ a : Block, let b := begun 0x0501 h p s.blk
     starts 0x0501 .general mRun h p s.blk → p.length = 4 → takeLocks (refOf h s.blk) [15, 16] b = .all a →
       exec (.cmdBilPeriodClose h p) s = 
         became s (answer (refOf h s.blk) (cmdUnit (refOf h s.blk) [gact 0x0302 0 (p8 1 ++ zeros 11)] a))) ∧
    (∀ l : List (List Byte), let b := begun 0x0502 h p s.blk
     starts 0x0502 .general (mServed ++ [.zeroised]) h p s.blk → p.length = 8 → 1 ≤ u16At p 4 → u16At p 4 ≤ 7 →
       u32At p 0 ≠ 0 → (List.range (u16At p 4)).filterMap (fun i => ingotOf (u32At p 0 + i) b) = l →
       l.length = u16At p 4 →
       exec (.cmdBilIngotRead h p) s = answeredOk h s l.flatten b) ∧
    (let b := begun 0x0503 h p s.blk
     starts 0x0503 .general mServed h p s.blk → p.length = 4 → u32At p 0 ≤ b.bil.iseq →
       exec (.cmdBilIngotAck h p) s = 
         answeredOk h s [] (updBil (fun x => { x with ackIseq := max x.ackIseq (u32At p 0) }) b)) ∧
    (∀ a : Block, let b := begun 0x0504 h p s.blk
     starts 0x0504 .general mRun h p s.blk → 4 ≤ p.length → takeLocks (refOf h s.blk) (tokLocks p b) b = .all a →
       exec (.cmdBilTokenApply h p) s = 
         let t := p.drop 4
         match tokCheck t (tokSession t a).isSome a with
         | some (why, st) => answered h s st [] (tokReject 1 why t a)
         | none =>
           if bit (u8At p 0) 0 then
             if u8At t 1 = 1 then became s (answer (refOf h s.blk) (tokStage (refOf h s.blk) t a))
             else answered h s stBadParam [] a
           else match u8At t 1, tokSession t a with
             | 1, _ => became s (answer (refOf h s.blk)
                 (cmdUnit (refOf h s.blk) [gact 0x0304 0 (p8 1 ++ p8 0xFF ++ zeros 10 ++ t)] a))
             | 2, some n => became s (answer (refOf h s.blk)
                 (tokDone (remain n (addLimit n (i64At t 16) (tokTaken t a))) (addLimit n (i64At t 16) (tokTaken t a))))
             | 3, _ => became s (answer (refOf h s.blk)
                 (tokDone (ppAllow (tokTaken t a)).bil.credit (ppAllow (tokTaken t a))))
             | _, _ => became s (answer (refOf h s.blk) (tokDone (takeTable t a).bil.credit (takeTable t a)))) ∧
    (∀ a : Block, let b := begun 0x0505 h p s.blk
     starts 0x0505 .general mRun h p s.blk → p = [] → ecAvail b → takeLocks (refOf h s.blk) [13, 16] b = .all a →
       exec (.cmdBilEcActivate h p) s = 
         became s (answer (refOf h s.blk) (cmdUnit (refOf h s.blk) [gact 0x0304 0 (p8 2 ++ zeros 11)] a))) ∧
    (∀ a : Block, let b := begun 0x0506 h p s.blk
     starts 0x0506 .general mRun h p s.blk → p.length = 4 → bit b.split 4 →
       ((u8At p 0 == 1 && b.bil.pp == .connected && b.ppen) || (u8At p 0 == 2 && b.bil.pp == .disconnected)) →
       takeLocks (refOf h s.blk) [0, 13] b = .all a →
       exec (.cmdBilRelayReq h p) s = 
         answeredOk h s [] (if u8At p 0 = 1 then ppArm (handOver (refOf h s.blk) 13 (handOver (refOf h s.blk) 0 a))
           else ppAllow a)) ∧
    (∀ a : Block, let b := begun 0x0507 h p s.blk
     starts 0x0507 .general [.maintain] h p s.blk → p = [] → b.bil.pp = .failed → (b.drv 13).fb = false →
       takeLocks (refOf h s.blk) [0] b = .all a →
       exec (.cmdBilRelayReset h p) s = 
         answeredOk h s [] (setPp .disconnected (updDrv 13 (fun d => { d with fcause := 0 })
           { a with cru.tamOut := clrBit a.cru.tamOut 14 }))) ∧
    (∀ a : Block, let b := begun 0x0508 h p s.blk
     starts 0x0508 .general mRun h p s.blk → p.length = 12 → sesOpen (u8At p 0) b → (u8At p 1 = 1 ∨ u8At p 1 = 2) →
       0 ≤ i64At p 4 → i64At p 4 ≤ 1099511627776 → takeLocks (refOf h s.blk) (lockOf p b) b = .all a →
       exec (.cmdBilSessionCredit h p) s = 
         let a1 := if u8At p 1 = 1 then updSes (u8At p 0) (fun e => { e with limit := i64At p 4 }) a
           else addLimit (u8At p 0) (i64At p 4) a
         answeredOk h s (pi64 (remain (u8At p 0) a1)) a1) ∧
    (∀ a : Block, let b := begun 0x0580 h p s.blk
     starts 0x0580 .general mRun h p s.blk → p.length = 8 → b.ppen → takeLocks (refOf h s.blk) [13, 16] b = .all a →
       exec (.cmdBilCreditAdjust h p) s = 
         became s (answer (refOf h s.blk)
           (cmdUnit (refOf h s.blk) [gact 0x0304 0 (p8 3 ++ p8 0xFF ++ zeros 10 ++ bytesAt p 0 8)] a)))

/-- Each command of the outlet chapter (Table 10-14) ends with the result the chapter gives it. Conditions: the request
starts at once, then those written. Where the spec leaves a point open, the model’s choice stands in log entries 88 to
92. -/
def Obligations.OutletCommands : Prop :=
  ∀ (h : Req) (p : List Byte) (s : State),
    (let b := begun 0x0600 h p s.blk
     starts 0x0600 .general mServed h p s.blk → p.length = 4 → outletOk (u8At p 0) →
       exec (.cmdOutletStatus h p) s = answeredOk h s (wordBytes ((List.range 24).map fun i => outWord (u8At p 0) i b)) b) ∧
    (∀ a : Block, let b := begun 0x0601 h p s.blk
     starts 0x0601 .general mOutService h p s.blk → p.length = 4 → outletOk (u8At p 0) →
       ((u8At p 1 == 1 && b.svcOf (u8At p 0) == 1) ||
       (u8At p 1 == 2 && b.svcOf (u8At p 0) == 2 && !faultLatched (u8At p 0) b)) →
       takeLocks (refOf h s.blk) [u8At p 0] b = .all a →
       exec (.cmdOutletServiceSet h p) s = 
         if u8At p 1 = 1 then became s (refreshMasks (answer (refOf h s.blk) (serviceOut (refOf h s.blk) (u8At p 0) a)))
         else became s (refreshMasks (complete (refOf h s.blk) stOk [] (svcGo (u8At p 0) 1 a)))) ∧
    (∀ a : Block, let b := begun 0x0602 h p s.blk
     starts 0x0602 .general mOutlets h p s.blk → p.length = 44 → outletOk (u8At p 0) →
       (u8At p 1 = 1 ∨ u8At p 1 = 2) → 0 ≤ i64At p 4 → i64At p 4 ≤ 1099511627776 → bit (b.o8 (u8At p 0) 8) 3 →
       ((b.ses (u8At p 0)).st = .open ∨ (b.ses (u8At p 0)).st = .parked) →
       ((b.ses (u8At p 0)).st = .parked → u8At p 1 = 1 → offered (u8At p 0) b = true) →
       takeLocks (refOf h s.blk) [u8At p 0] b = .all a →
       exec (.cmdOutletAuthorise h p) s = 
         let a1 := if u8At p 1 = 1 then authoriseAny (u8At p 0) 4 (i64At p 4) (bytesAt p 12 32) a else authRefused (u8At p 0) a
         became s (drainSes (complete (refOf h s.blk) stOk (p32 (a1.ses (u8At p 0)).sesid) a1))) ∧
    (∀ a : Block, let b := begun 0x0603 h p s.blk
     starts 0x0603 .general mWork h p s.blk → p.length = 4 → outletOk (u8At p 0) → inProgress (u8At p 0) b →
       takeLocks (refOf h s.blk) [u8At p 0] b = .all a →
       exec (.cmdOutletStop h p) s = 
         acceptedAs h s (stopSession (u8At p 0) 3
           (updSes (u8At p 0) (fun e => { e with stopCmds := e.stopCmds ++ [refOf h s.blk] }) a))) ∧
    (∀ a : Block, let b := begun 0x0604 h p s.blk
     starts 0x0604 .general mOutlets h p s.blk → p.length = 4 + u16At p 2 → outletOk (u8At p 0) → u16At p 2 ≤ 4076 →
       bit b.split 1 → (b.ol (u8At p 0)).tunOpen → (a.ol (u8At p 0)).tunTx.length + u16At p 2 ≤ 16384 →
       takeLocks (refOf h s.blk) [u8At p 0] b = .all a →
       exec (.cmdOutletTunSend h p) s = 
         answeredOk h s [] (updOl (u8At p 0) (fun o =>
           { o with tunTx := o.tunTx ++ p.drop 4, tunOpen := !bit (u8At p 1) 0 }) a)) ∧
    (∀ a : Block, let b := begun 0x0605 h p s.blk
     starts 0x0605 .general mOutlets h p s.blk → p.length = 4 → outletOk (u8At p 0) → 1 ≤ u16At p 2 →
       u16At p 2 ≤ 4072 → takeLocks (refOf h s.blk) [u8At p 0] b = .all a →
       exec (.cmdOutletTunRead h p) s = 
         let o := a.ol (u8At p 0)
         let d := o.tunRx.take (u16At p 2)
         answeredOk h s (p16 d.length ++ p8 (b2n o.tunClosed) ++ zeros 5 ++ d)
           (updOl (u8At p 0) (fun o => { o with
             tunRx := (a.ol (u8At p 0)).tunRx.drop (u16At p 2)
             tunArmed := o.tunArmed || ((a.ol (u8At p 0)).tunRx.drop (u16At p 2)).isEmpty }) a)) ∧
    (∀ a : Block, let b := begun 0x0606 h p s.blk
     starts 0x0606 .general mOutlets h p s.blk → p.length = 8 → outletOk (u8At p 0) → 1 ≤ u8At p 1 → u8At p 1 ≤ 3 →
       b.isDc (u8At p 0) → bit b.split 1 → ((b.ses (u8At p 0)).st = .authorised ∨ (b.ses (u8At p 0)).st = .active) →
       (u8At p 1 = 2 → (b.ao (u8At p 0)).dcStep = 5) → (a.ao (u8At p 0)).dcCmd = none →
       (u8At p 1 = 1 → (a.ao (u8At p 0)).dcStep = 0) → takeLocks (refOf h s.blk) [u8At p 0] b = .all a →
       exec (.cmdOutletHlcStep h p) s = 
         if u8At p 1 = 1 then
           acceptedAs h s (dcStart (u8At p 0) (some (refOf h s.blk))
             (updRc (u8At p 0) (fun c => { c with uchk := min (u16At p 2) (a.o16 (u8At p 0) 10) }) a))
         else if u8At p 1 = 2 then
           acceptedAs h s (updSes (u8At p 0) (fun e => { e with utgt := u16At p 2 * 10 })
             (updAo (u8At p 0) (fun x => { x with dcCmd := some (refOf h s.blk), preOk := false, dcAt := a.sys.mtime }) a))
         else became s (answer (refOf h s.blk) (weldStep (u8At p 0) a))) ∧
    (∀ a : Block, let b := begun 0x0607 h p s.blk
     starts 0x0607 .general mOutlets h p s.blk → p.length = 8 → outletOk (u8At p 0) → bit b.split 1 →
       (u16At p 4 = 0 ∨ b.o8 (u8At p 0) 1 = 1) → takeLocks (refOf h s.blk) [u8At p 0] b = .all a →
       exec (.cmdOutletLimitsSet h p) s = 
         answeredOk h s [] (refreshLimits (u8At p 0) (updSes (u8At p 0) (fun e => { e with
           evImax := u16At p 2, evIdis := u16At p 4, evUmax := u16At p 6, limSet := true }) a))) ∧
    (∀ a : Block, let b := begun 0x0608 h p s.blk
     starts 0x0608 .general mOutlets h p s.blk → 5 ≤ p.length → p.length ≤ 4080 → outletOk (u8At p 0) →
       (b.ol (u8At p 0)).certAt.isSome → takeLocks (refOf h s.blk) [u8At p 0] b = .all a →
       exec (.cmdOutletCertResp h p) s = 
         answeredOk h s [] (sayWith (u8At p 0) ansCertBody { VAns.none with body := p.drop 4 } (updOl (u8At p 0) (fun o => { o with certAt := none }) a))) ∧
    (∀ a : Block, let b := begun 0x0680 h p s.blk
     starts 0x0680 .general mOutService h p s.blk → p.length = 4 → outletOk (u8At p 0) →
       ((u8At p 1 == 1 && b.svcOf (u8At p 0) == 2 && driverOpen (u8At p 0) b && (b.ol (u8At p 0)).bypCmd.isNone) ||
       (u8At p 1 == 2 && b.svcOf (u8At p 0) == 3 && bypassTests (u8At p 0) b)) →
       takeLocks (refOf h s.blk) [u8At p 0] b = .all a →
       exec (.cmdOutletBypass h p) s = 
         if u8At p 1 = 1 then
           became s (refreshMasks (respondAccepted (refOf h s.blk)
             (updOl (u8At p 0) (fun o => { o with bypCmd := some (refOf h s.blk) }) a)))
         else became s (refreshMasks (complete (refOf h s.blk) stOk [] (svcGo (u8At p 0) 2 a)))) ∧
    (∀ a : Block, let b := begun 0x0681 h p s.blk
     starts 0x0681 .general mCommission h p s.blk → p.length = 4 → outletOk (u8At p 0) → u8At p 1 ≤ 4 →
       50 ≤ u16At p 2 → u16At p 2 ≤ 1000 → b.svcOf (u8At p 0) ≠ 1 → takeLocks (refOf h s.blk) [u8At p 0] b = .all a →
       exec (.cmdOutletPilotTest h p) s = 
         let a1 := if u8At p 1 = 0 then idlePilot (u8At p 0) (updOl (u8At p 0) (fun o => { o with pilotTest := false }) a)
           else setPilot (u8At p 0) (testGen (u8At p 1)) (if u8At p 1 = 2 then u16At p 2 else 1000)
             (updOl (u8At p 0) (fun o => { o with pilotTest := true }) a)
         answeredOk h s (wordBytes [regCp (u8At p 0) a1, regCplvl (u8At p 0) a1]) a1)

/-- Each command of the allocation chapter (Table 11-14) ends with the result the chapter gives it. Conditions: the
request starts at once, then those written. Where the spec leaves a point open, the model’s choice stands in log
entries 93 to 95. -/
def Obligations.AllocationCommands : Prop :=
  ∀ (h : Req) (p : List Byte) (s : State),
    (let b := begun 0x0700 h p s.blk
     starts 0x0700 .general mServed h p s.blk → p = [] →
       exec (.cmdAlcStatus h p) s = answeredOk h s (wordBytes ((List.range 16).map fun i => alcGlobal i b)) b) ∧
    (let b := begun 0x0701 h p s.blk
     starts 0x0701 .general mWork h p s.blk → p.length = 8 →
       exec (.cmdAlcLimitSet h p) s = 
         answeredOk h s [] { b with alc := { b.alc with
           host := ⟨u16At p 0, u16At p 2, u16At p 4, u16At p 6⟩, capWhy := 2 } }) ∧
    (∀ a : Block, let b := begun 0x0702 h p s.blk
     starts 0x0702 .general mOutlets h p s.blk → p.length = 8 → outletOk (u8At p 0) →
       (u16At p 4 = 0 ∨ b.o8 (u8At p 0) 1 = 1) → inProgress (u8At p 0) b →
       takeLocks (refOf h s.blk) [u8At p 0] b = .all a →
       exec (.cmdAlcTargetSet h p) s = 
         answeredOk h s [] (replan (updAo (u8At p 0) (fun x => { x with impTgt := u16At p 2, expTgt := u16At p 4 }) a))) ∧
    (∀ a : Block, let b := begun 0x0703 h p s.blk
     starts 0x0703 .general mOutService h p s.blk → p.length = 4 → cdNameOk (u8At p 0) → resetOk (u8At p 0) b →
       takeLocks (refOf h s.blk) (driverLock p b) b = .all a →
       exec (.cmdAlcFaultReset h p) s = answeredOk h s [] (cdReset (u8At p 0) a)) ∧
    (let b := begun 0x0704 h p s.blk
     starts 0x0704 .general mServed h p s.blk → p.length = 4 → canOk (u8At p 0) → 1 ≤ u8At p 1 → u8At p 1 ≤ 15 →
       bit (nodesConfigured (u8At p 0) b) (u8At p 1) → (b.link (u8At p 0)).identCmd = none →
       exec (.cmdAlcPmRead h p) s = 
         acceptedAs h s (sendCan (u8At p 0) 0x030 (zeros 8)
           (updLink (u8At p 0) (fun l => { l with identCmd := some (refOf h s.blk, u8At p 1) }) b))) ∧
    (∀ a : Block, let b := begun 0x0780 h p s.blk
     starts 0x0780 .general [.maintain, .commission] h p s.blk → p.length = 4 → cdNameOk (u8At p 0) →
       100 ≤ u16At p 2 → u16At p 2 ≤ 5000 → cdTestOk (u8At p 0) b → a.alc.test = none →
       takeLocks (refOf h s.blk) (driverLock p b) b = .all a →
       exec (.cmdAlcCdTest h p) s = 
         acceptedAs h s (energise (u8At p 0) { a with alc.test := some ⟨u8At p 0, u16At p 2, refOf h s.blk, 0⟩ })) ∧
    (let b := begun 0x0781 h p s.blk
     starts 0x0781 .general mCommission h p s.blk → p.length = 8 + u8At p 4 → canOk (u8At p 0) → u8At p 1 ≤ 1 →
       1 ≤ u16At p 2 → u16At p 2 ≤ 0x7FF → u8At p 4 ≤ 64 →
       outlets.all (fun n => !(b.isDc n && b.linkOf n == u8At p 0 && b.svcOf n == 1)) →
       exec (.cmdAlcCanRaw h p) s = 
         answeredOk h s [] (evalRefresh (sendCan (u8At p 0) (u16At p 2) (p.drop 8) { b with cru.canRaw := true })))

/-- Each command of the residual-current chapter (Table 12-10) ends with the result the chapter gives it. Conditions: the
request starts at once, then those written. Where the spec leaves a point open, the model’s choice stands in log
entries 96 to 101. -/
def Obligations.ResidualCurrentCommands : Prop :=
  ∀ (h : Req) (p : List Byte) (s : State),
    (let b := begun 0x0800 h p s.blk
     starts 0x0800 .general mServed h p s.blk → p.length = 4 → outletOk (u8At p 0) →
       exec (.cmdRcmStatus h p) s = answeredOk h s (wordBytes ((List.range 8).map fun i => rcmWord (u8At p 0) i b)) b) ∧
    (∀ a : Block, let b := begun 0x0801 h p s.blk
     starts 0x0801 .general mOutService h p s.blk → p.length = 4 → rcmResetOk (u8At p 0) b →
       (a.rc (u8At p 0)).run = .no → takeLocks (refOf h s.blk) (lockOf p b) b = .all a →
       exec (.cmdRcmFaultReset h p) s = acceptedAs h s (updRc (u8At p 0) (fun c => { c with run := .reset (refOf h s.blk) }) a)) ∧
    (∀ a : Block, let b := begun 0x0802 h p s.blk
     starts 0x0802 .general mWork h p s.blk → p.length = 4 → outletOk (u8At p 0) → b.svcOf (u8At p 0) ≠ 0 →
       b.svcOf (u8At p 0) ≠ 3 → (b.drv (u8At p 0)).fb = false → (b.drv (u8At p 0)).on = false →
       (b.ao (u8At p 0)).dcStep = 0 → (a.rc (u8At p 0)).run = .no → takeLocks (refOf h s.blk) [u8At p 0] b = .all a →
       exec (.cmdRcmSelftest h p) s = acceptedAs h s (updRc (u8At p 0) (fun c => { c with run := .command (refOf h s.blk) }) a)) ∧
    (∀ a : Block, let b := begun 0x0803 h p s.blk
     starts 0x0803 .general [.maintain, .commission] h p s.blk → p.length = 4 → outletOk (u8At p 0) →
       b.isDc (u8At p 0) → b.svcOf (u8At p 0) ≠ 1 → (b.drv (u8At p 0)).fb = false → (b.drv (u8At p 0)).on = false →
       takeLocks (refOf h s.blk) [u8At p 0] b = .all a →
       exec (.cmdInsMeasure h p) s = acceptedAs h s (insAsk 3 (u8At p 0) (some (refOf h s.blk)) a)) ∧
    (∀ a : Block, let b := begun 0x0880 h p s.blk
     starts 0x0880 .general mCommission h p s.blk → p.length = 8 → outletOk (u8At p 0) →
       (u8At p 1 = 1 ∨ u8At p 1 = 2) → 1 ≤ u16At p 2 → u16At p 2 ≤ 5000 → 10 ≤ u16At p 4 → u16At p 4 ≤ 2000 →
       b.svcOf (u8At p 0) ≠ 1 → b.svcOf (u8At p 0) ≠ 3 → (a.rc (u8At p 0)).run = .no →
       takeLocks (refOf h s.blk) [u8At p 0] b = .all a →
       exec (.cmdRcmTestInject h p) s = 
         acceptedAs h s (updRc (u8At p 0) (fun c => { c with
           run := .inject (refOf h s.blk) a.asy.sampleCnt (u16At p 4) }) a))

/-- Each command of the safety-input chapter (Table 13-13) ends with the result the chapter gives it. Conditions: the
request starts at once, then those written. Where the spec leaves a point open, the model’s choice stands in log
entries 96 to 101. -/
def Obligations.SafetyInputCommands : Prop :=
  ∀ (h : Req) (p : List Byte) (s : State),
    (let b := begun 0x0900 h p s.blk
     starts 0x0900 .notMb0 mServed h p s.blk → p = [] →
       exec (.cmdSafStatus h p) s = answeredOk h s (wordBytes ((List.range 16).map fun i => safGlobal i b)) b) ∧
    (let b := begun 0x0901 h p s.blk
     starts 0x0901 .notMb0 mServed h p s.blk → p.length = 8 → 1 ≤ u16At p 4 → u16At p 4 ≤ 416 →
       u32At p 0 + u16At p 4 ≤ 416 →
       exec (.cmdSafPsetRead h p) s = answeredOk h s (bytesAt b.saf.pset (u32At p 0) (u16At p 4)) b) ∧
    (let b := begun 0x0902 h p s.blk
     starts 0x0902 .mb1 mStandby h p s.blk → 5 ≤ p.length → p.length ≤ 420 → u32At p 0 % 4 = 0 →
       u32At p 0 + (p.drop 4).length ≤ 416 →
       exec (.cmdSafPsetLoad h p) s = 
         match b.saf.stage with
         | none => answeredOk h s [] { b with saf.stage := some (h.mb.toNat, putBytes [] (u32At p 0) (p.drop 4)) }
         | some (own, st) =>
           if own = h.mb.toNat then answeredOk h s [] { b with saf.stage := some (own, putBytes st (u32At p 0) (p.drop 4)) }
           else answered h s stBusy [] b) ∧
    (∀ (own : Nat) (st set : List Byte), let b := begun 0x0903 h p s.blk
     starts 0x0903 .mb1 mStandby h p s.blk → p.length = 8 → b.saf.stage = some (own, st) → fixLen 416 st = set →
       psetOk set b.fitted → u32At p 0 = u32At set 8 → u32At p 4 = u32At set 4 →
       exec (.cmdSafPsetCommit h p) s = 
         let b0 := { b with saf.stage := none }
         let x := claimAll 4 (psetClaims set) (if (psetClaims set).all fun r =>
           tget b0.pin.holder r == 0 || tget b0.pin.holder r == 4 then unclaim 4 b0 else b0)
         if x.1 then answeredOk h s [] (applyPset set x.2) else answered h s stResourceHeld [] x.2) ∧
    (let b := begun 0x0904 h p s.blk
     starts 0x0904 .mb1 mStandby h p s.blk → p.length = 16 → b.saf.pstate = 1 → u32At p 0 = u32At b.saf.pset 4 →
       exec (.cmdSafPsetConfirm h p) s = 
         if bytesAt p 8 8 = (psetHash b.saf.pset).take 8 then
           answeredOk h s [] (raise 175 (2 * 16777216 + u32At b.saf.pset 4 % 16777216) { b with saf := { b.saf with
             pstate := 2, copies := tput b.saf.copies b.saf.newest (some (b.saf.pset, 2)) } })
         else answered h s stBadParam [] b) ∧
    (let b := begun 0x0980 h p s.blk
     starts 0x0980 .notMb0 [.maintain, .commission] h p s.blk → p.length = 4 → u8At p 0 ≤ 15 →
       b.fnKind (u8At p 0) ≠ 0 → 100 ≤ u16At p 2 → u16At p 2 ≤ 10000 → (b.fn (u8At p 0)).test = none →
       exec (.cmdSafDemandTest h p) s = 
         acceptedAs h s (fnEval (u8At p 0) (updFn (u8At p 0) (fun x => { x with
           test := some (refOf h s.blk), testEnd := b.sys.mtime + u16At p 2 }) b)))

/-- Each command of the security chapter (Tables 14-11 and 14-12) ends with the result the chapter gives it. Conditions:
the request starts at once, then those written. Where the spec leaves a point open, the model’s choice stands in log
entries 102 to 115. -/
def Obligations.SecurityCommands : Prop :=
  ∀ (h : Req) (p : List Byte) (s : State),
    (let b := begun 0x0A00 h p s.blk
     starts 0x0A00 .mb0 mServed h p s.blk → p = [] →
       exec (.cmdSecStatus h p) s = answeredOk h s (wordBytes ((List.range 24).map fun i => secGlobal i b)) b) ∧
    (let b := begun 0x0A01 h p s.blk
     starts 0x0A01 .mb0 mWork h p s.blk → p.length = 4 + u8At p 0 → 8 ≤ u8At p 0 → u8At p 0 ≤ 64 →
       exec (.cmdSecHallmarkGet h p) s = 
         answeredOk h s (coseSign1 (attKid b) (hallmarkPayload (bytesAt p 4 (u8At p 0)) b)
             (slotSign 0))
           (raise 199 (inc32 b.cru.hallCnt) (engOp 2 (updCru (fun c => { c with hallCnt := inc32 b.cru.hallCnt }) b)))) ∧
    (let b := begun 0x0A02 h p s.blk
     starts 0x0A02 .mb0 mWork h p s.blk → p.length = 128 →
       exec (.cmdSecGrantInstall h p) s = 
         match credFails 1 p b with
         | none =>
           let g : Grant := ⟨u32At p 4, u64At p 8, u64At p 16, u8At p 2, bytesAt p 32 32⟩
           answeredOk h s [] (grantEvent (if b.cru.grant.isSome then 3 else 1) g
             (updCru (fun c => { c with grant := some g }) (engOp 2 b)))
         | some k =>
           answered h s (if k = 5 then stAuthFailed else stBadParam) []
             (raise 201 (u8At p 1 * 256 + k) (if k = 5 then engOp 2 b else b))) ∧
    (∀ (g : Grant), let b := begun 0x0A03 h p s.blk
     starts 0x0A03 .mb0 mWork h p s.blk → p = [] → b.cru.grant = some g →
       exec (.cmdSecGrantRemove h p) s = answeredOk h s [] (grantGone (grantEvent 2 g b))) ∧
    (let b := begun 0x0A04 h p s.blk
     starts 0x0A04 .mb0 [.factory] h p s.blk → p.length = 128 →
       exec (.cmdSecProvOpen h p) s = 
         match credFails 2 p b with
         | none =>
           let b1 := { engOp 2 b with sys.provOpen := true }
           answeredOk h s [] (evalRefresh (enterMode .provision 0x10 (raise 15 (sysLifecycle b1).toNat b1)))
         | some k =>
           answered h s (if k = 5 then stAuthFailed else stBadParam) []
             (raise 201 (u8At p 1 * 256 + k) (if k = 5 then engOp 2 b else b))) ∧
    (let b := begun 0x0A05 h p s.blk
     starts 0x0A05 .mb0 [.provision, .standby] h p s.blk → 8 ≤ p.length → p.length = 8 + u16At p 2 → 1 ≤ u16At p 0 →
       u16At p 0 ≤ 9 → u8At p 4 = b2n (itemWrapped (u16At p 0)) → allZero (bytesAt p 5 3) →
       (itemWrapped (u16At p 0) → 68 ≤ p.length) →
       (b.sys.mode = .standby → itemField (u16At p 0) = true ∧ grantValid b = true) →
       exec (.cmdSecProvItem h p) s = 
         match if itemWrapped (u16At p 0) then itemUnwrap (slotKey 4 b) (p.take 8) (p.drop 8) else some (p.drop 8) with
         | none => answered h s stAuthFailed [] b
         | some d =>
           match itemPut (u16At p 0) d b with
           | none => answered h s stBadParam [] b
           | some (x, b1) => answeredOk h s [] (raise 200 (u16At p 0 * 256 + x)
               (updCru (fun c => { c with items := setBit c.items (u16At p 0) }) b1))) ∧
    (let b := begun 0x0A06 h p s.blk
     starts 0x0A06 .mb0 [.provision] h p s.blk → p = [] → provComplete b →
       exec (.cmdSecProvClose h p) s = 
         let b1 := { b with tag.key := some (fixLen 16 (slotKey 5 b)), sys.provDone := true }
         answeredOk h s [] (evalRefresh (enterMode .standby 0x10 (dbgClose (raise 15 (sysLifecycle b1).toNat b1))))) ∧
    (let b := begun 0x0A07 h p s.blk
     starts 0x0A07 .mb0 [.provision, .standby] h p s.blk → p.length = 4 →
       (b.sys.mode = .standby → grantValid b = true) → 16 ≤ u8At p 0 → u8At p 0 ≤ 19 → b.cru.drbgOk = true →
       exec (.cmdSecKeygen h p) s = 
         let pk := slotPublic (u8At p 0) (keygen (u8At p 0) b)
         answeredOk h s (p16 pk.length ++ p16 0 ++ pk) (keygen (u8At p 0) b)) ∧
    (let b := begun 0x0A08 h p s.blk
     starts 0x0A08 .mb0 mKeys h p s.blk → p.length = 4 → u8At p 0 < 64 → slotValid (u8At p 0) b →
       1 ≤ keyType (u8At p 0) b → keyType (u8At p 0) b ≤ 6 →
       exec (.cmdSecPubkeyRead h p) s = 
         let pk := slotPublic (u8At p 0) b
         answeredOk h s (p32 (tget b.cru.slots (u8At p 0)).attr ++ p16 pk.length ++ p16 0 ++ pk) b) ∧
    (∀ (c : List Byte), let b := begun 0x0A09 h p s.blk
     starts 0x0A09 .mb0 mKeys h p s.blk → p.length = 4 → certOf (u8At p 0) (u8At p 1) b = some c →
       exec (.cmdSecCertRead h p) s = 
         if c.length < u16At p 2 then answered h s stBadParam [] b
         else answeredOk h s (p16 c.length ++ p16 ((c.drop (u16At p 2)).take 4072).length ++ (c.drop (u16At p 2)).take 4072) b) ∧
    (let b := begun 0x0A0A h p s.blk
     starts 0x0A0A .mb0 mServed h p s.blk → p.length = 4 → u8At p 0 ≤ 63 → 1 ≤ u8At p 1 → u8At p 1 ≤ 64 →
       exec (.cmdSecTamperRead h p) s = 
         let l := (b.cru.tamLog.drop (u8At p 0)).take (u8At p 1)
         answeredOk h s (p16 l.length ++ p16 0 ++ l.flatMap tamperBytes) b) ∧
    (let b := begun 0x0A0B h p s.blk
     starts 0x0A0B .mb0 [.maintain] h p s.blk → p = [] → class2Open b = false →
       exec (.cmdSecTamperAck h p) s = answeredOk h s [] (raise 202 0 (updCru (fun c => { c with alarm := false }) b))) ∧
    (let b := begun 0x0A0C h p s.blk
     starts 0x0A0C .mb0 [.standby, .maintain] h p s.blk → p.length = 128 →
       exec (.cmdSecDecommission h p) s = 
         match credFails 3 p b with
         | none => became s (zeroise 16 0 (updCru (fun c => { c with zcmd := some (refOf h s.blk) })
             (respondAccepted (refOf h s.blk) (engOp 2 b))))
         | some k =>
           answered h s (if k = 5 then stAuthFailed else stBadParam) []
             (raise 201 (u8At p 1 * 256 + k) (if k = 5 then engOp 2 b else b))) ∧
    (let b := begun 0x0A80 h p s.blk
     starts 0x0A80 .mb0 mWork h p s.blk → p.length = 4 → u8At p 0 = 1 ∨ u8At p 0 = 2 →
       exec (.cmdSecDebug h p) s = 
         if u8At p 0 = 2 then answeredOk h s [] (evalRefresh (dbgClose b))
         else if b.cru.dbgState = 1 then answeredOk h s [] b
         else answeredOk h s [] (evalRefresh (raise 196 1 (updCru (fun c => { c with dbgState := 1, dbgOpened := true }) b)))) ∧
    (let b := begun 0x0A81 h p s.blk
     starts 0x0A81 .mb0 mStandby h p s.blk → p.length = 4 → 8 ≤ u8At p 0 → u8At p 0 ≤ 31 →
       slotLocked (u8At p 0) = false →
       exec (.cmdSecKeyErase h p) s = 
         answeredOk h s [] (if slotValid (u8At p 0) b then raise 198 (u8At p 0 * 256 + 4) (slotClear (u8At p 0) b) else b)) ∧
    (let b := begun 0x0A82 h p s.blk
     starts 0x0A82 .mb0 mCommission h p s.blk → p.length = 4 → 1 ≤ u8At p 0 → u8At p 0 ≤ 2 →
       exec (.cmdSecTamperTest h p) s = 
         answeredOk h s [] (raise 192 (2147483648 + u8At p 1 * 65536 + u8At p 0) (tamperEntry (u8At p 1) (u8At p 0) 0 true b)))

/-- Each command of the contactless chapter (Table 15-14) ends with the result the chapter gives it. Conditions: the
request starts at once, then those written. Where the spec leaves a point open, the model’s choice stands in log
entries 116 to 127. -/
def Obligations.ContactlessCommands : Prop :=
  ∀ (h : Req) (p : List Byte) (s : State),
    (let b := begun 0x0B00 h p s.blk
     starts 0x0B00 .general mServed h p s.blk → p = [] →
       exec (.cmdClsStatus h p) s = answeredOk h s (wordBytes ((List.range 9).map fun i => clsGlobal i b)) b) ∧
    (let b := begun 0x0B01 h p s.blk
     starts 0x0B01 .general mServed h p s.blk → p = [] →
       exec (.cmdClsCardRead h p) s = answeredOk h s (wordBytes b.cls.card) b) ∧
    (∀ (es l : List (List Byte)), let b := begun 0x0B02 h p s.blk
     starts 0x0B02 .general mWork h p s.blk → 4 ≤ p.length → p.length = 4 + 24 * u16At p 0 → 1 ≤ u16At p 0 →
       u16At p 0 ≤ 160 → (List.range (u16At p 0)).map (fun i => bytesAt p (4 + 24 * i) 24) = es → es.all wlOk →
       es.foldl (fun l e => wlPut e l) b.cls.wl = l → l.length ≤ 1024 →
       exec (.cmdClsWlAdd h p) s = 
         let g := (b.cls.gen + 1) % 65536
         answeredOk h s (p16 g ++ p16 l.length) (raise 211 g (updCls (fun c => { c with wl := l, gen := g }) b))) ∧
    (∀ (l : List (List Byte)), let b := begun 0x0B03 h p s.blk
     starts 0x0B03 .general mWork h p s.blk → 4 ≤ p.length → p.length = 4 + 12 * u16At p 2 → u16At p 2 ≤ 300 →
       (if bit (u8At p 0) 0 then some [] else
         wlDrop ((List.range (u16At p 2)).map fun i => bytesAt p (4 + 12 * i) 12) b.cls.wl) = some l →
       exec (.cmdClsWlDelete h p) s = 
         let g := if l = b.cls.wl then b.cls.gen else (b.cls.gen + 1) % 65536
         let b1 := updCls (fun c => { c with wl := l, gen := g }) b
         answeredOk h s (p16 g ++ p16 l.length) (if l = b.cls.wl then b1 else raise 211 g b1)) ∧
    (let b := begun 0x0B04 h p s.blk
     starts 0x0B04 .general mServed h p s.blk → p.length = 4 → 1 ≤ u16At p 2 → u16At p 2 ≤ 169 →
       exec (.cmdClsWlRead h p) s = 
         let l := (b.cls.wl.drop (u16At p 0)).take (u16At p 2)
         answeredOk h s (p16 l.length ++ p16 b.cls.gen ++ l.flatten) b) ∧
    (let b := begun 0x0B05 h p s.blk
     starts 0x0B05 .general mWork h p s.blk → p.length = 4 → 1 ≤ u8At p 0 → u8At p 0 ≤ 4 → u8At p 1 ≤ 2 →
       u16At p 2 < 4096 → outlets.all (fun n => !bit (u16At p 2) (n - 1) || b.fitted n) →
       (u8At p 1 = 0 ∨ b.ant8 (u8At p 0) 4 ≠ 0) → antBusy (u8At p 0) b = false →
       exec (.cmdClsAntAssign h p) s = 
         if u8At p 1 = 0 then answeredOk h s [] (antClaim (u8At p 0) 0 (u16At p 2) b)
         else if (claim (5 + u8At p 0) (6 + u8At p 1) b).1 then
           answeredOk h s [] (antClaim (u8At p 0) (u8At p 1) (u16At p 2) b)
         else answered h s stResourceHeld [] (claim (5 + u8At p 0) (6 + u8At p 1) b).2) ∧
    (let b := begun 0x0B06 h p s.blk
     starts 0x0B06 .general [.service, .degraded, .maintain] h p s.blk → 4 ≤ p.length → p.length = 4 + u16At p 2 →
       4 ≤ u16At p 2 → u16At p 2 ≤ 261 → bit b.split 2 → heldOn (u8At p 0) b →
       exec (.cmdClsApdu h p) s = 
         let d := (Config.apdu b.free (bytesAt p 4 (u16At p 2))).take 4076
         answeredOk h s (p16 d.length ++ p16 0 ++ d) { b with free := b.free + 1 }) ∧
    (∀ b1 : Block, let b := begun 0x0B10 h p s.blk
     starts 0x0B10 .general (.zeroised :: mServed) h p s.blk → p.length = 4 → wiredReads (u8At p 0) (u8At p 1) →
       wiredOk b → wiredMeets (u8At p 0) (u8At p 1) b = b1 →
       (upto (u8At p 0) (u8At p 0 + u8At p 1 - 1)).all (fun j => !b1.tag.bad.contains j || b1.tag.out.any (covers j)) →
       exec (.cmdClsTagRead h p) s = 
         answeredOk h s (memBytes (128 * u8At p 0) (128 * u8At p 1) (applyWrites b1.tag.out s.tagMem))
           (wiredDone (u8At p 0) 0 (if b1.tag.port then engOp 8 b1 else b1))) ∧
    (let b := begun 0x0B11 h p s.blk
     starts 0x0B11 .general mWork h p s.blk → 4 ≤ p.length → p.length = 4 + 128 * u8At p 1 → 128 ≤ u8At p 0 →
       1 ≤ u8At p 1 → u8At p 1 ≤ 3 → u8At p 0 + u8At p 1 ≤ 256 → wiredOk b →
       (upto (u8At p 0) (u8At p 0 + u8At p 1 - 1)).filter (fun j => bit b.tag.locks (j - 128)) = [] →
       exec (.cmdClsTagWrite h p) s = 
         answeredOk h s [] (wiredDone (u8At p 0) 0 (updTag (fun t => { t with
           out := t.out ++ [(128 * u8At p 0, p.drop 4)], wrWired := (t.wrWired + 1) % 65536
           wrec := ⟨2, (t.wrec.seq + 1) % 4294967296, u8At p 0, u8At p 1, 0, crc32 (p.drop 4)⟩ })
             (if b.tag.port then engOp 8 b else b)))) ∧
    (∀ key : List Byte, let b := begun 0x0B80 h p s.blk
     starts 0x0B80 .general [.standby, .maintain, .commission] h p s.blk → p.length = 4 → b.tag.key = some key →
       b.tag.toolMin ≤ u32At p 0 → b.tag.port = true →
       exec (.cmdClsToolkeyIssue h p) s = answeredOk h s (toolKey key (u32At p 0)) (wiredDone 3 0 (engOp 8 b))) ∧
    (let b := begun 0x0B81 h p s.blk
     starts 0x0B81 .general mWork h p s.blk → p.length = 4 → b.tag.toolMin ≤ u32At p 0 → wiredOk b →
       exec (.cmdClsToolminSet h p) s = answeredOk h s [] (wiredDone 3 0 (updTag (fun t => { t with toolMin := u32At p 0 }) b))) ∧
    (let b := begun 0x0B82 h p s.blk
     starts 0x0B82 .general mCommission h p s.blk → p.length = 4 → 1 ≤ u8At p 0 → u8At p 0 ≤ 4 → u8At p 1 ≤ 7 →
       100 ≤ u16At p 2 → u16At p 2 ≤ 60000 → (b.ant (u8At p 0)).held → b.cls.test = none →
       antBusy (u8At p 0) b = false →
       exec (.cmdClsFieldTest h p) s = acceptedAs h s (updCls (fun c => { c with test := some ⟨u8At p 0, u8At p 1, b.sys.mtime + u16At p 2, refOf h s.blk⟩ }) b))

/-- Each command of the mains-link chapter (Table 16-16) ends with the result the chapter gives it. Conditions: the
request starts at once, then those written. Where the spec leaves a point open, the model’s choice stands in log
entries 128 to 136. -/
def Obligations.MainsLinkCommands : Prop :=
  ∀ (h : Req) (p : List Byte) (s : State),
    (let b := begun 0x0C00 h p s.blk
     starts 0x0C00 .general mServed h p s.blk → p = [] →
       exec (.cmdMlkStatus h p) s = answeredOk h s (wordBytes ((List.range 36).map fun i => mlkGlobal i b)) b) ∧
    (let b := begun 0x0C01 h p s.blk
     starts 0x0C01 .general mServed h p s.blk → p.length = 4 → 1 ≤ u8At p 0 → u8At p 0 ≤ 14 →
       exec (.cmdMlkRxRead h p) s = 
         let l := b.mlk.hostq.take (u8At p 0)
         answeredOk h s (p16 l.length ++ p16 0 ++ l.flatMap hostEntry)
           (updMlk (fun m => { m with hostq := m.hostq.drop (u8At p 0) }) b)) ∧
    (let b := begun 0x0C02 h p s.blk
     starts 0x0C02 .general mWork h p s.blk → 8 ≤ p.length → p.length = 8 + u16At p 2 →
       [6, 9, 11].contains (u8At p 0) → u16At p 2 ≤ (if bit (u8At p 1 % 4) 0 then 220 else 236) →
       (bit (u8At p 1 % 4) 0 = true → slotValid 14 b = true) → b.m8 0 = 1 → isHead (u32At p 4) →
       b.mlk.txq.length + b.mlk.out.length < 16 →
       exec (.cmdMlkSend h p) s = 
         let b1 := mlkSend (u8At p 0) (u8At p 1 % 4) (u32At p 4) (if u8At p 0 = 9 then 4 else 5) (p.drop 8) b
         answeredOk h s (p32 b1.mlk.fcntTx) b1) ∧
    (let b := begun 0x0C80 h p s.blk
     starts 0x0C80 .general mCommission h p s.blk → p.length = 4 → 1 ≤ u8At p 0 → u8At p 0 ≤ 3 → u8At p 1 ≤ 3 →
       100 ≤ u16At p 2 → u16At p 2 ≤ 10000 → b.mlk.st ≠ 2 → b.mlk.st ≠ 4 → b.mlk.test = none →
       exec (.cmdMlkTxTest h p) s = acceptedAs h s (updMlk (fun m => { m with test := some (u8At p 0, u8At p 1, b.sys.mtime + u16At p 2, refOf h s.blk) }) b))

/-- Each command of the display chapter (Table 17-14) ends with the result the chapter gives it. Conditions: the request
starts at once, then those written. Where the spec leaves a point open, the model’s choice stands in log entries 137
to 138. -/
def Obligations.DisplayCommands : Prop :=
  ∀ (h : Req) (p : List Byte) (s : State),
    (let b := begun 0x0D00 h p s.blk
     starts 0x0D00 .general mServed h p s.blk → p = [] →
       exec (.cmdDisStatus h p) s = answeredOk h s (wordBytes ((List.range 19).map fun i => disGlobal i b)) b) ∧
    (let b := begun 0x0D01 h p s.blk
     starts 0x0D01 .general mWork h p s.blk → p.length = 3460 → bit b.split 6 → b.men →
       exec (.cmdDisFrame h p) s = 
         answeredOk h s [] { b with dis := { b.dis with
           replaced := if b.dis.pending.isSome then satInc 65535 b.dis.replaced else b.dis.replaced
           pending := some (p.drop 4) } }) ∧
    (let b := begun 0x0D02 h p s.blk
     starts 0x0D02 .general mServed h p s.blk → p.length = 8 → u8At p 0 ≤ 3 → 1 ≤ u16At p 4 → u16At p 4 ≤ 2304 →
       u16At p 2 + u16At p 4 ≤ 2304 → (tget b.dis.maps (u8At p 0)).loaded = true →
       exec (.cmdDisMapRead h p) s = answeredOk h s (bytesAt (tget b.dis.maps (u8At p 0)).data (u16At p 2) (u16At p 4)) b) ∧
    (let b := begun 0x0D03 h p s.blk
     starts 0x0D03 .general (mServed ++ [.zeroised]) h p s.blk → p = [] →
       exec (.cmdDisBsdRead h p) s = answeredOk h s (wordBytes ((List.range 12).map fun i => bsdWord i b)) b) ∧
    (let b := begun 0x0D80 h p s.blk
     starts 0x0D80 .general [.standby, .commission] h p s.blk → p.length = 2312 → u8At p 0 ≤ 3 →
       crc32 (p.drop 8) = u32At p 4 →
       exec (.cmdDisMapLoad h p) s = answeredOk h s [] { b with dis.maps := tput b.dis.maps (u8At p 0) ⟨true, true, u32At p 4, p.drop 8⟩ }) ∧
    (let b := begun 0x0D81 h p s.blk
     starts 0x0D81 .general mCommission h p s.blk → p.length = 8 → 1 ≤ u8At p 0 → u8At p 0 ≤ 4 → u16At p 2 ≤ 4095 →
       100 ≤ u16At p 4 → u16At p 4 ≤ 60000 → (if u8At p 0 = 4 then b.ben = true else b.men = true) →
       b.dis.test = none → (u8At p 0 = 4 → b.dis.bsd.open_ = false ∧ b.dis.bsd.st = 0) →
       exec (.cmdDisTest h p) s = 
         let b1 := { b with dis.test := some { op := u8At p 0, level := u16At p 2, ends := b.sys.mtime + u16At p 4, cmd := refOf h s.blk } }
         acceptedAs h s (disSync (if u8At p 0 = 4 then
           updBsd (fun d => { d with testPh := 1, seg := 0, st := 1 }) b1 else b1)))

/-- Each command of the load-switch chapter (Table 18-16) ends with the result the chapter gives it. Conditions: the
request starts at once, then those written. Where the spec leaves a point open, the model’s choice stands in log
entries 139 to 141. -/
def Obligations.LoadSwitchCommands : Prop :=
  ∀ (h : Req) (p : List Byte) (s : State),
    (let b := begun 0x0E00 h p s.blk
     starts 0x0E00 .general mServed h p s.blk → p.length = 4 → lsOk (u8At p 0) →
       exec (.cmdLswStatus h p) s = 
         answeredOk h s (wordBytes ((List.range 12).map fun i => lswGlobal i b) ++
           wordBytes ((List.range 8).map fun i => lswChan (u8At p 0) i b)) b) ∧
    (let b := begun 0x0E01 h p s.blk
     starts 0x0E01 .general mRun h p s.blk → p.length = 4 → bit b.split 7 → Nat.land (u16At p 0) (u16At p 2) = 0 →
       maskEnabled (u16At p 0) b → maskEnabled (u16At p 2) b →
       exec (.cmdLswSet h p) s = 
         answeredOk h s [] (channels.foldl (fun x k =>
           if bit (u16At p 0) (k - 1) then lsRequest k true x
           else if bit (u16At p 2) (k - 1) then lsRequest k false x else x) b)) ∧
    (let b := begun 0x0E02 h p s.blk
     starts 0x0E02 .general mRun h p s.blk → p.length = 8 → lsOk (u8At p 0) → u8At p 1 ≤ 4 → 1 ≤ u16At p 2 →
       u16At p 2 ≤ 256 → (u16At p 6 = 0 ∨ (10 ≤ u16At p 6 ∧ u16At p 6 ≤ 25000)) →
       (u8At p 1 = 0 ∨ u16At p 6 ≠ 0 ∨ tget b.lsw.freq (u8At p 1 - 1) ≠ 0) →
       exec (.cmdLswPwmSet h p) s = 
         answeredOk h s [] (updLs (u8At p 0) (fun c => { c with pgen := u8At p 1, duty := u16At p 2, phase := u8At p 4 })
           (if u8At p 1 ≠ 0 ∧ u16At p 6 ≠ 0 then pgSet (u8At p 1) (u16At p 6) b else b))) ∧
    (let b := begun 0x0E03 h p s.blk
     starts 0x0E03 .general [.standby, .service, .degraded, .maintain] h p s.blk → p.length = 4 → lsOk (u8At p 0) →
       (b.ls (u8At p 0)).st = .lockout → (b.ls (u8At p 0)).latch = false →
       exec (.cmdLswReset h p) s = 
         answeredOk h s [] (lsGo (u8At p 0) .off (updLs (u8At p 0) (fun c => { c with
           rcnt := u8At (profInUse (u8At p 0) b) 12, tripped := false, diagFail := 0, flags := clrBit c.flags 7 }) b))) ∧
    (let b := begun 0x0E04 h p s.blk
     starts 0x0E04 .general mServed h p s.blk → p.length = 4 → 1 ≤ u8At p 0 → u8At p 0 ≤ 9 →
       profileOf (u8At p 0) b ≠ [] →
       exec (.cmdLswProfileRead h p) s = answeredOk h s (profileOf (u8At p 0) b) b) ∧
    (let b := begun 0x0E80 h p s.blk
     starts 0x0E80 .general mStandby h p s.blk → p.length = 20 → 6 ≤ u8At p 0 → u8At p 0 ≤ 9 →
       profileOk (bytesAt p 4 16) → channels.any (fun k => b.l8 k 1 == u8At p 0 && (b.ls k).st == .inrush) = false →
       exec (.cmdLswProfileLoad h p) s = answeredOk h s [] { b with lsw.user := tput b.lsw.user (u8At p 0 - 6) (bytesAt p 4 16) }) ∧
    (let b := begun 0x0E81 h p s.blk
     starts 0x0E81 .general mCommission h p s.blk → p.length = 4 → lsOk (u8At p 0) →
       (u8At p 1 = 1 ∨ (u8At p 1 = 2 ∧ 100 ≤ u16At p 2 ∧ u16At p 2 ≤ 60000)) → b.lsEn (u8At p 0) →
       (b.ls (u8At p 0)).st = .off → b.lsw.test = none →
       exec (.cmdLswTest h p) s = 
         let b1 := { b with
           lsw.test := some { ch := u8At p 0, op := u8At p 1, ends := b.sys.mtime + u16At p 2, cause := 0, cmd := refOf h s.blk } }
         acceptedAs h s (if u8At p 1 = 2 then lsRequest (u8At p 0) true b1 else b1))

/-- Each command of the update chapter (Table 19-9) ends with the result the chapter gives it. Conditions: the request
starts at once, then those written. Where the spec leaves a point open, the model’s choice stands in log entries 142
to 147. -/
def Obligations.UpdateCommands : Prop :=
  ∀ (h : Req) (p : List Byte) (s : State),
    (let b := begun 0x0F00 h p s.blk
     starts 0x0F00 .general (.activate :: mServed) h p s.blk → p = [] →
       exec (.cmdUpdStatus h p) s = answeredOk h s (wordBytes ((List.range 22).map fun i => updGlobal i b)) b) ∧
    (let b := begun 0x0F01 h p s.blk
     starts 0x0F01 .general mWork h p s.blk → p.length = 512 → b.upd.st = .idle →
       exec (.cmdUpdOpen h p) s = 
         if (claim 5 6 b).1 then
           let b2 := updOpen 2 (u32At p 8) (claim 5 6 b).2
           match headerFails p b2 with
           | some (why, st) => answered h s st [] (updHeaderRefused why b2)
           | none => acceptedAs h s { headerAccepted p (engOp 2 b2) with upd.cmd := some (refOf h s.blk) }
         else answered h s stResourceHeld [] (updRefused 8 2 (claim 5 6 b).2)) ∧
    (let b := begun 0x0F02 h p s.blk
     starts 0x0F02 .general mWork h p s.blk → p.length = 2056 → b.upd.st ≠ .idle → b.upd.st ≠ .erasing →
       b.upd.transport = 2 → u32At p 0 < b.upd.total → u8At p 4 ≤ 1 →
       exec (.cmdUpdBlock h p) s = 
         answeredOk h s [] (if unitHeld (u32At p 0) b || b.upd.halves.any (fun x => x.1 == (u32At p 0, u8At p 4)) ||
             b.upd.st != .receiving then b
           else updHalf (u32At p 0) (u8At p 4) (p.drop 8) b)) ∧
    (let b := begun 0x0F03 h p s.blk
     starts 0x0F03 .general mWork h p s.blk → p = [] → b.upd.st = .receiving → b.upd.transport = 2 →
       firstMissing b = 0xFFFFFFFF →
       exec (.cmdUpdFinish h p) s = acceptedAs h s (updGo .verifying { b with upd.cmd := some (refOf h s.blk) })) ∧
    (let b := begun 0x0F04 h p s.blk
     starts 0x0F04 .general mWork h p s.blk → p.length = 16 → schedNamed (u32At p 0) (u32At p 4) b →
       schedOk (u32At p 0) (u32At p 4) (i64At p 8) b →
       exec (.cmdUpdSchedule h p) s = 
         answeredOk h s (p64 (updDue (updSchedule (u32At p 4) (i64At p 8) b))) (updSchedule (u32At p 4) (i64At p 8) b)) ∧
    (let b := begun 0x0F05 h p s.blk
     starts 0x0F05 .general mWork h p s.blk → p.length = 8 →
       ((u8At p 4 = 1 ∧ b.upd.st = .scheduled ∧ u32At p 0 = b.upd.updid) ∨
       (u8At p 4 = 2 ∧ updCancels (u32At p 0) b = true)) →
       exec (.cmdUpdCancel h p) s = answeredOk h s [] (if u8At p 4 = 1 then updUnschedule b else updEnd b)) ∧
    (let b := begun 0x0F06 h p s.blk
     starts 0x0F06 .general mServed h p s.blk → p.length = 8 → 1 ≤ u16At p 4 → u16At p 4 ≤ 32608 →
       exec (.cmdUpdMapRead h p) s = 
         let n := min (u16At p 4) (b.upd.total - u32At p 0)
         answeredOk h s (p16 n ++ p16 0 ++ packBits (fun i => unitHeld (u32At p 0 + i) b) n) b)

/-- Each command of the diagnostics chapter (Table 21-12) ends with the result the chapter gives it. Conditions: the
request starts at once, then those written. Where the spec leaves a point open, the model’s choice stands in log
entries 158 to 213. -/
def Obligations.DiagnosticCommands : Prop :=
  ∀ (h : Req) (p : List Byte) (s : State),
    (let b := begun 0x1000 h p s.blk
     starts 0x1000 .general (.zeroised :: mServed) h p s.blk → p.length = 8 → 1 ≤ u16At p 4 → u16At p 4 ≤ 127 →
       exec (.cmdDiagLogRead h p) s = 
         let es := entriesFrom (fun e : LogEntry => e.lseq) (u32At p 0) (u16At p 4) b.dbg.log
         answeredOk h s (p16 es.length ++ p16 0 ++ es.flatMap fun e => e.bytes) b) ∧
    (let b := begun 0x1001 h p s.blk
     starts 0x1001 .general (.zeroised :: mServed) h p s.blk → p.length = 8 → 1 ≤ u16At p 4 → u16At p 4 ≤ 31 →
       exec (.cmdDiagAlogRead h p) s = 
         let es := entriesFrom (fun e : ALogEntry => e.aseq) (u32At p 0) (u16At p 4) b.dbg.alog
         answeredOk h s (p16 es.length ++ p16 0 ++ es.flatMap fun e => e.bytes) b) ∧
    (∀ (d : Dump), let b := begun 0x1002 h p s.blk
     starts 0x1002 .general mServed h p s.blk → p.length = 4 → dumpOf (u8At p 0) b = some d →
       exec (.cmdDiagDumpInfo h p) s = answeredOk h s (dumpHeader b d) b) ∧
    (∀ (d : Dump), let b := begun 0x1003 h p s.blk
     starts 0x1003 .general mServed h p s.blk → p.length = 8 → dumpOf (u8At p 0) b = some d → 1 ≤ u16At p 2 →
       u16At p 2 ≤ 4072 → u32At p 4 + u16At p 2 ≤ (dumpData b d).length →
       exec (.cmdDiagDumpRead h p) s = answeredOk h s (bytesAt (dumpData b d) (u32At p 4) (u16At p 2)) b) ∧
    (let b := begun 0x1004 h p s.blk
     starts 0x1004 .general mServed h p s.blk → p.length = 4 →
       ((b.flash.map fun f => f.dseq == u32At p 0).getD false || (b.dbg.dram.map fun f => f.dseq == u32At p 0).getD false) →
       exec (.cmdDiagDumpAck h p) s = 
         answeredOk h s [] (if (b.flash.map fun f => f.dseq == u32At p 0).getD false then
             updDbg (fun x => { x with acks := tput x.acks (b2n b.sys.bankB) true }) b
           else updDbg (fun x => { x with dram := none }) b)) ∧
    (let b := begun 0x1080 h p s.blk
     starts 0x1080 .general mCommission h p s.blk → p.length = 4 →
       exec (.cmdDiagDumpForce h p) s = became s (fatal 4 0xFF 0 0 (respondAccepted (refOf h s.blk) b))) ∧
    (∀ (d : Dump), let b := begun 0x1081 h p s.blk
     starts 0x1081 .general mServed h p s.blk → p.length = 8 → dumpOf (u8At p 0) b = some d → 1 ≤ u16At p 2 →
       u16At p 2 ≤ 4072 → u32At p 4 + u16At p 2 ≤ dumpSpace (u8At p 0) →
       exec (.cmdDiagDumpFull h p) s = answeredOk h s (dumpBytesAt b d (u32At p 4) (u16At p 2)) b)

/-- Each command of Table 5-17 ends with the result the chapter gives it. Conditions: the request starts at once, then
those written. Where the spec leaves a point open, the model’s choice stands in log entries 37 to 47 and 154 to 157. -/
def Obligations.SystemCommands : Prop :=
  ∀ (h : Req) (p : List Byte) (s : State),
    (let b := begun 0x0100 h p s.blk
     starts 0x0100 .any mAll h p s.blk → p = [] →
       exec (.cmdSysInfoGet h p) s = 
         answeredOk h s (p32 sysId.toNat ++ p64 serialNum ++
           wordBytes (sysLifecycle b :: (List.range 9).map fun k => sysVer k b)) b) ∧
    (let b := begun 0x0101 h p s.blk
     starts 0x0101 .any mAll h p s.blk → p = [] →
       exec (.cmdSysStatusGet h p) s = 
         answeredOk h s (wordBytes [sysMode b, sysFlags b] ++ p64 b.sys.mtime ++ pi64 b.sys.wallOfs ++
           wordBytes [ckpHoldStat b, ckpRailStat b]) b) ∧
    (let b := begun 0x0102 h p s.blk
     starts 0x0102 .general mRun h p s.blk → p.length = 4 → 1 ≤ u8At p 0 → u8At p 0 ≤ 12 → b.sys.trans = none →
       exec (.cmdSysModeSet h p) s = became s (answer (refOf h s.blk) (modeRequest (refOf h s.blk) (u8At p 0) b))) ∧
    (let b := begun 0x0103 h p s.blk
     starts 0x0103 .general [.standby, .service, .degraded, .maintain, .commission, .safestop] h p s.blk →
       p.length = 4 → u32At p 0 = 0 →
       exec (.cmdSysSoftReset h p) s = became s (softCheck (respondAccepted (refOf h s.blk) (cstopBegin 3 { b with pwr.softReset := true })))) ∧
    (let b := begun 0x0104 h p s.blk
     starts 0x0104 .general mRun h p s.blk → p.length = 8 →
       exec (.cmdSysWallSet h p) s = 
         let ofs := sgn 64 (u64At p 0 + 18446744073709551616 - b.sys.mtime % 18446744073709551616)
         answeredOk h s (pi64 ofs) { b with sys := { b.sys with wallDue := b.sys.wallDue ++ [(ofs, false)] } }) ∧
    (let b := begun 0x0105 h p s.blk
     starts 0x0105 .general mStandby h p s.blk → 5 ≤ p.length → p.length ≤ 4080 → u32At p 0 % 4 = 0 →
       u32At p 0 + (p.drop 4).length ≤ 65536 →
       exec (.cmdSysConfigLoad h p) s = 
         match b.cfg.stage with
         | none => answeredOk h s [] { b with cfg.stage := some (h.mb.toNat, putBytes [] (u32At p 0) (p.drop 4)) }
         | some (mb, old) =>
           if mb = h.mb.toNat then
             answeredOk h s [] { b with cfg.stage := some (h.mb.toNat, putBytes old (u32At p 0) (p.drop 4)) }
           else answered h s stBusy [] b) ∧
    (∀ (staged : List Byte) (a : Block), let b := begun 0x0106 h p s.blk
     starts 0x0106 .general mStandby h p s.blk → p.length = 4 → a.cfg.stage = some (h.mb.toNat, staged) →
       takeLocks (refOf h s.blk) [17] b = .all a →
       exec (.cmdSysConfigCommit h p) s = 
         answered h s (configCommit (u32At p 0) staged a).1 [] { (configCommit (u32At p 0) staged a).2 with cfg.stage := none }) ∧
    (let b := begun 0x0107 h p s.blk
     starts 0x0107 .general mAll h p s.blk → p.length = 8 → 1 ≤ u16At p 4 → u16At p 4 ≤ 4080 →
       u32At p 0 + u16At p 4 ≤ (cfgImage b).length →
       exec (.cmdSysConfigRead h p) s = answeredOk h s (bytesAt (cfgImage b) (u32At p 0) (u16At p 4)) b) ∧
    (let b := begun 0x0110 h p s.blk
     starts 0x0110 .general mAll h p s.blk → p.length = 4 → 1 ≤ u16At p 0 → u16At p 0 ≤ 169 →
       exec (.cmdSysEvtRead h p) s = 
         let q := b.evt.queue.take (u16At p 0)
         answeredOk h s (p16 q.length ++ p16 b.evt.lost ++ q.flatMap fun e => wordBytes ((List.range 6).map e.word))
           { b with evt := { b.evt with
               queue := b.evt.queue.drop (u16At p 0), lost := 0, refusing := b.evt.refusing && q.isEmpty } }) ∧
    (let b := begun 0x0120 h p s.blk
     starts 0x0120 .general mRegRead h p s.blk → p.length = 8 → 1 ≤ u16At p 4 → u16At p 4 ≤ 1019 →
       u32At p 0 < 0x1000000 →
       exec (.cmdSysRegRead h p) s = 
         let x := readMany 1 (u32At p 0 % 4 != 0) (u32At p 0) (u16At p 4) b
         answeredOk h s (p8 (tsb x.berr false false false b) ++ zeros 3 ++ wordBytes x.rd) x.s) ∧
    (let b := begun 0x0121 h p s.blk
     starts 0x0121 .general mRun h p s.blk → 8 ≤ p.length → p.length = 8 + 4 * u16At p 4 → 1 ≤ u16At p 4 →
       u16At p 4 ≤ 1018 → u32At p 0 < 0x1000000 →
       exec (.cmdSysRegWrite h p) s = 
         let x := writeMany 1 (u32At p 0 % 4 != 0) (u32At p 0) (bytesWords (u16At p 4) (p.drop 8)) b
         answeredOk h s (p8 (tsb x.berr false x.np false x.s) ++ zeros 3) x.s)

/-- What each supply, reset and outage row does in the states in which its condition holds. The next state is named whole.
Where the spec leaves a point open, the model’s choice stands in log entries 11 to 36. -/
def Obligations.PowerRows : Prop :=
  ∀ (s : State) (b : Block),
    s.blk = b →
    (exec .powerOnReset s = became s (wholeReset 1 .ready (finalBefore b))) ∧
    (exec .vsupCollapse s = became s ({ b with sys.mtimeRun := false, pwr.heldBy := .off })) ∧
    (∀ (lowUs : Nat),
     dead b = false → 10 ≤ lowUs →
       exec (.resetNAssert lowUs) s = became s (hardStop b)) ∧
    (∀ (why : Nat),
     ¬ (b.pwr.heldBy == .off || b.pwr.heldBy == .supply || !(why == 1 || why == 2)) →
       exec (.clockFault why) s = became s (
          let b1 := wholeReset 3 .clock (finalBefore b)
          { b1 with sys.mtimeRun := false, pwr.clockWhy := why })) ∧
    (b.pwr.heldBy == .clock →
       exec .clockRestored s = became s ({ b with sys.mtimeRun := true, pwr := { b.pwr with heldBy := .ready, resumeAt := b.sys.mtime } })) ∧
    (∀ (o : SelftestObs),
     releasable b →
       exec (.resetRelease o) s = became s (selftest o b)) ∧
    (∀ (step : Nat),
     releasable b && 1 ≤ step && step ≤ 9 →
       exec (.selftestStepOverrun step) s = became s (selftest { SelftestObs.clean b.pwr.vin with failed := [(step, 0xFF)] } b)) ∧
    (∀ (vhold : Nat),
     releasable b && vhold < 2700 →
       exec (.vholdChargeTimeout vhold) s = became s (selftest { SelftestObs.clean b.pwr.vin with failed := [(8, 0xFF)], vhold } b)) ∧
    (∀ (vin : Nat),
     vin < 1700 →
       exec (.pfWarningVin vin) s = became s (warning 1 (vinSeen vin b))) ∧
    (∀ (va vb vc : Nat),
     siteEnabled b && [va, vb, vc].all (fun v => siteLost v b) →
       exec (.pfWarningSiteVoltage va vb vc) s = became s (warning 2 { b with pwr := { b.pwr with siteLoss := true, siteGood := [0, 0, 0] } })) ∧
    (∀ (t1 vin : Nat),
     mayRecover vin b = true → dead b = false → b.pwr.pfwSelftest = false →
       (b.sys.mode = .zeroised ∨ (b.sys.mode = .outage ∧ b.sys.held ≠ .activate ∧ t1 ≤ 500)) →
       exec (.recovery t1 vin) s = became s (recover t1 vin b)) ∧
    (∀ (t1 vin : Nat),
     mayRecover vin b = true → dead b = false → b.sys.mode = .outage → (500 < t1 ∨ b.sys.held = .activate) →
       exec (.outageRestartLate t1 vin) s = became s (outageRestart (vinSeen vin b))) ∧
    (∀ (vin heldMs : Nat),
     vin ≥ 1800 && vin < 1900 && heldMs ≥ 2000 && sourcesClear vin b && b.pwr.pfw && b.sys.mode == .outage && !dead b →
       exec (.outageRestartLowVin vin heldMs) s = became s (outageRestart (vinSeen vin b))) ∧
    (b.pwr.pfw = true → dead b = false → b.pwr.pfwSelftest = false → b.sys.mode = .outage →
       exec .supplyEnd s = became s (
         if finalNow b then
           { (if (finalForce b).pwr.assayDown then finalForce b else commit comAccum (finalForce b)) with
               pwr.heldBy := .supply }
         else { b with pwr.heldBy := .supply })) ∧
    (∀ (vin : Nat),
     b.pwr.heldBy == .supply && vin ≥ 1900 →
       exec (.supplyEndReturn vin) s = became s (wholeReset 5 .ready { b with pwr := { b.pwr with vin, vinOk := true } })) ∧
    (∀ (vin : Nat),
     b.pwr.pfw →
       exec (.vsupSourceChange vin) s = became s (vinSeen vin b)) ∧
    (b.pwr.recovering = true → b.pwr.pfw = false → b.pwr.heldBy = .no →
       exec .recoveryOutputsResume s = 
         let b1 := { b with pwr.recovering := false }
         let b2 := if b1.bil.pp == .connected && b1.inMode mPrepay then closeRequest 13 b1 else b1
         became s (stopSessions 7 (fun n => b2.isDc n) b2))

/-- What each row of a rail, of VHOLD and of the reset of a processor does in the states in which its condition holds. The
next state is named whole. Where the spec leaves a point open, the model’s choice stands in log entries 11 to 36. -/
def Obligations.RailAndProcessorRows : Prop :=
  ∀ (s : State) (b : Block),
    s.blk = b →
    (∀ (r : Rail),
     railOk r b = true → dead b = false → b.pwr.heldBy = .no →
       exec (.railFault r) s = became s (railResponse r (raise 8 (railCode r) (setRail r false b)))) ∧
    (∀ (r : Rail),
     railOk r b = false → (setRail r true b).pwr.heldBy = .no →
       exec (.railReturn r) s = became s (match r with
         | .vcpp | .vcpn => if vcpOk (setRail r true b) then idlePilots (setRail r true b) else setRail r true b
         | .vled => disSync (setRail r true b)
         | .vddio => setRail r true b)) ∧
    (∀ (vhold : Nat),
     charging b && b.pwr.vholdArmed && !b.pwr.vholdLow && vhold < 2600 →
       exec (.vholdLow vhold) s = became s (raise 7 (vhold % 65536) { b with pwr := { b.pwr with vhold, vholdLow := true } })) ∧
    (∀ (vhold : Nat),
     b.pwr.vholdRec && !b.pwr.pfw && b.pwr.heldBy == .no && vhold < 2700 →
       exec (.vholdRecoveryChargeTimeout vhold) s = became s (raise 7 (65536 + vhold % 65536) { b with pwr := { b.pwr with vhold, vholdRec := false, vholdLow := vhold ≤ 2650 } })) ∧
    (∀ (core : Nat),
     larkspurRuns core b && !heartbeatOff core b →
       exec (.heartbeatTimeout core) s = became s (larkspurLost b)) ∧
    (∀ (core : Nat),
     larkspurRuns core b →
       exec (.larkspurFault core) s = became s (larkspurLost b)) ∧
    (b.pwr.larkspurDown && b.pwr.holdover.isSome && holdoverPast b && b.pwr.heldBy == .no && b.sys.mode != .outage →
       exec .holdoverTimeout s = became s (cstopBegin 6 b)) ∧
    (∀ (_why : Nat),
     ¬ (b.pwr.heldBy != .no || b.sys.mode == .zeroised) →
       exec (.anvilReset _why) s = became s (anvilReset b)) ∧
    (¬ (b.pwr.heldBy != .no || b.sys.mode == .zeroised) →
       exec .assayCoreReset s = became s (assayReset b)) ∧
    (¬ (b.pwr.heldBy != .no || b.sys.mode == .zeroised) →
       exec .crucibleReset s = became s (crucibleReset b))

/-- What each row of a mode transition, of an outlet leaving service and of the bypass does where its condition holds. The
next state is named whole. Where the spec leaves a point open, the model’s choice stands in log entries 11 to 36. -/
def Obligations.ModeRows : Prop :=
  ∀ (s : State) (b : Block),
    s.blk = b →
    (b.sys.autostartDue = true → b.sys.mode = .standby → b.sys.trans = none → b.cfg8 0x0001 8 = 1 →
       siteValid { b with sys.autostartDue := false } = true →
       exec .autostart s = 
         let b1 := { b with sys.autostartDue := false }
         became s (enterMode (serviceMode b1) 0x17 b1)) ∧
    (b.inMode [.service, .degraded] && b.sys.trans.isSome && outletsOpen b →
       exec .modeTransitionComplete s = became s (transDone (cstopCheck b))) ∧
    (∀ (outlet : Nat),
     outletOk outlet = true → (b.ol outlet).outDue = true →
       (b.bil.units.any fun u => u.drafts.any fun d => d.type == 1 && d.point == outlet) = false →
       ((b.ol outlet).ses.st = .idle ∨ (b.ol outlet).ses.st = .parked) →
       exec (.serviceOutApply outlet) s = 
         let b1 := updOl outlet (fun o => { o with outDue := false, outReq := none }) b
         became s (completeOpt (b.ol outlet).outReq stOk []
           (if b1.svcOf outlet == 4 then b1 else refreshMasks (svcGo outlet 2 b1)))) ∧
    (∀ (outlet : Nat) (r : CmdRef),
     outletOk outlet = true → (b.ol outlet).bypCmd = some r →
       exec (.bypassApply outlet) s = 
         let b1 := updOl outlet (fun o => { o with bypCmd := none }) b
         became s (if b1.svcOf outlet == 2 && driverOpen outlet b1 then
             complete r stOk [] (refreshMasks (svcGo outlet 3 (updPt outlet (fun x => { x with
               chans := x.chans.map fun c => { c with refPass := false } }) b1)))
           else complete r stBadParam [] b1)) ∧
    (∀ (outlet : Nat),
     outletOk outlet && b.svcOf outlet == 3 →
       exec (.bypassFbClosed outlet) s = became s (
          refreshMasks (svcGo outlet 4 (fbFault outlet 4
                 (updDrv outlet (fun d => { d with fb := true, rawFb := true }) b)))))

/-- What each host access does while the register window is served: a frame whose HCRC is right, one word, a mailbox port
word, an aborted frame, a mailbox frame over Ethernet, the assembly time-out and a silent host. The next state is
named whole. Where the spec leaves a point open, the model’s choice stands in log entries 37 to 47 and 154 to 157. -/
def Obligations.HostRows : Prop :=
  ∀ (s : State) (b : Block),
    s.blk = b →
    (∀ (cmd : Byte) (addr : BitVec 24) (hcrc : BitVec 16),
     served b = true → crc16 (frameHead cmd.toNat addr.toNat) = hcrc.toNat →
       exec (.hspiReadFrame cmd addr hcrc) s = 
         let bad := frameBad cmd.toNat addr.toNat
         let n := cmd.toNat % 16 + 1
         let t := tsb (bad || (wordAddrs addr.toNat n).any fun a => a ≥ 0x1000000 || !readable a b) false false b.hst.prevAbort b
         let x := readMany 0 bad addr.toNat n (goodFrame b)
         became s (updHst (fun h => { h with lastTx := readTx t x.rd }) x.s)) ∧
    (∀ (cmd : Byte) (addr : BitVec 24) (ws : List Word) (hcrc : BitVec 16),
     served b = true → crc16 (frameHead cmd.toNat addr.toNat ++ wordBytes ws) = hcrc.toNat →
       exec (.hspiWriteFrame cmd addr ws hcrc) s = 
         let x := writeMany 0 (frameBad cmd.toNat addr.toNat) addr.toNat ws (goodFrame b)
         became s (updHst (fun h => { h with lastTx := writeTx (tsb x.berr false x.np b.hst.prevAbort x.s) }) x.s)) ∧
    (¬ (!served b) →
       exec .hspiFrameAbort s = became s (updHst (fun h => { h with abort := true, abortCnt := inc32 h.abortCnt, prevAbort := true, lastTx := [] }) b)) ∧
    (∀ (addr : BitVec 24) (value : Word),
     served b = true →
       exec (.regWrite addr value) s = 
         let x := writeMany 0 (frameBad 0 (addr.toNat)) (addr.toNat) [value] (goodFrame b)
         became s (updHst (fun t => { t with lastTx := writeTx (tsb x.berr false x.np b.hst.prevAbort x.s) }) x.s)) ∧
    (∀ (addr : BitVec 24) (value : Word),
     served b = true →
       exec (.shadowWrite addr value) s = 
         let x := writeMany 0 (frameBad 0 (addr.toNat)) (addr.toNat) [value] (goodFrame b)
         became s (updHst (fun t => { t with lastTx := writeTx (tsb x.berr false x.np b.hst.prevAbort x.s) }) x.s)) ∧
    (∀ (addr : BitVec 24) (value : Word),
     served b = true →
       exec (.pendDiscard addr value) s = 
         let x := writeMany 0 (frameBad 0 (addr.toNat)) (addr.toNat) [value] (goodFrame b)
         became s (updHst (fun t => { t with lastTx := writeTx (tsb x.berr false x.np b.hst.prevAbort x.s) }) x.s)) ∧
    (∀ (mb k : Nat) (value : Word),
     served b = true →
       exec (.mbxPortWrite mb k value) s = 
         let x := writeMany 0 (frameBad 0 (portAddr mb k)) (portAddr mb k) [value] (goodFrame b)
         became s (updHst (fun t => { t with lastTx := writeTx (tsb x.berr false x.np b.hst.prevAbort x.s) }) x.s)) ∧
    (∀ (mb k : Nat),
     served b = true →
       exec (.mbxPortRead mb k) s = 
         let bad := frameBad 0x80 (portAddr mb k)
         let t := tsb (bad || (wordAddrs (portAddr mb k) 1).any fun a => a ≥ 0x1000000 || !readable a b) false false b.hst.prevAbort b
         let x := readMany 0 bad (portAddr mb k) 1 (goodFrame b)
         became s (updHst (fun h => { h with lastTx := readTx t x.rd }) x.s)) ∧
    (∀ (g : Nat) (value : Word),
     served b = true →
       exec (.evtRawClear g value) s = 
         let x := writeMany 0 (frameBad 0 (0x030000 + 0x100 * g)) (0x030000 + 0x100 * g) [value] (goodFrame b)
         became s (updHst (fun t => { t with lastTx := writeTx (tsb x.berr false x.np b.hst.prevAbort x.s) }) x.s)) ∧
    (∀ (g : Nat) (value : Word),
     served b = true →
       exec (.evtSetWrite g value) s = 
         let x := writeMany 0 (frameBad 0 (0x03001C + 0x100 * g)) (0x03001C + 0x100 * g) [value] (goodFrame b)
         became s (updHst (fun t => { t with lastTx := writeTx (tsb x.berr false x.np b.hst.prevAbort x.s) }) x.s)) ∧
    (served b = true →
       exec .evtQPop s = 
         let x := writeMany 0 (frameBad 0 (0x032004)) (0x032004) [1] (goodFrame b)
         became s (updHst (fun t => { t with lastTx := writeTx (tsb x.berr false x.np b.hst.prevAbort x.s) }) x.s)) ∧
    (served b = true →
       exec .evtQClrLost s = 
         let x := writeMany 0 (frameBad 0 (0x032004)) (0x032004) [2] (goodFrame b)
         became s (updHst (fun t => { t with lastTx := writeTx (tsb x.berr false x.np b.hst.prevAbort x.s) }) x.s)) ∧
    (∀ (value : Word),
     served b = true →
       exec (.hlockAcqWrite value) s = 
         let x := writeMany 0 (frameBad 0 (0x050480)) (0x050480) [value] (goodFrame b)
         became s (updHst (fun t => { t with lastTx := writeTx (tsb x.berr false x.np b.hst.prevAbort x.s) }) x.s)) ∧
    (∀ (value : Word),
     served b = true →
       exec (.hlockRelWrite value) s = 
         let x := writeMany 0 (frameBad 0 (0x050484)) (0x050484) [value] (goodFrame b)
         became s (updHst (fun t => { t with lastTx := writeTx (tsb x.berr false x.np b.hst.prevAbort x.s) }) x.s)) ∧
    (∀ (value : Word),
     served b = true →
       exec (.asyTinjCtrlWrite value) s = 
         let x := writeMany 0 (frameBad 0 (0x100034)) (0x100034) [value] (goodFrame b)
         became s (updHst (fun t => { t with lastTx := writeTx (tsb x.berr false x.np b.hst.prevAbort x.s) }) x.s)) ∧
    (∀ (value : Word),
     served b = true →
       exec (.ckpPfwTestWrite value) s = 
         let x := writeMany 0 (frameBad 0 (0x040010)) (0x040010) [value] (goodFrame b)
         became s (updHst (fun t => { t with lastTx := writeTx (tsb x.berr false x.np b.hst.prevAbort x.s) }) x.s)) ∧
    (∀ (port : Nat) (frame : List Byte) (a : Arrived),
     served b = true → (port = 1 ∨ port = 2) → tget b.cru.tls (port - 1) = true → 20 ≤ frame.length →
       u8At frame 0 ≤ 7 → u8At frame 1 = 0 → u16At frame 2 + 4 = frame.length → parseRequest (frame.drop 4) = a →
       (a.len ≤ 4080 → u16At frame 2 = 16 + a.len) → bindOk (b.box (u8At frame 0)) (1 + port) a.flags = true →
       (b.box (u8At frame 0)).free ≠ 0 →
       exec (.ethMbxFrame port frame) s = became s (arrive (u8At frame 0) (1 + port) a b)) ∧
    (∀ (mb : Nat),
     (b.box mb).asm ≠ [] →
       exec (.mbxAsmTimeout mb) s = became s (raise 38 ((b.box mb).asm.length * 256 + mb) (updBox mb (fun x => { x with asm := [] }) b))) ∧
    (served b = true → b.split ≠ 0 → b.mbx.silent = none → b.mbx.lastHost + b.hostWdg ≤ b.sys.mtime →
       exec .hostSilent s = 
         let b1 := raise 34 b.split { b with mbx := { b.mbx with silent := some b.sys.mtime, fallback := b.split } }
         let b2 := if bit b.split 1 then
             outlets.foldl (fun s n => if waitsOnHost s n then stopSession n 3 s else s) b1
           else b1
         became s (disSync (mlkSync (replan b2))))

/-- What each row of a fatal error, of Bylith coming back and of a memory check does where its condition holds. The next
state is named whole. Where the spec leaves a point open, the model’s choice stands in log entries 158 to 213. -/
def Obligations.DiagnosticRows : Prop :=
  ∀ (s : State) (b : Block),
    s.blk = b →
    (∀ (cause core detail detail2 : Nat),
     b.pwr.heldBy = .no → b.pwr.larkspurDown = false →
       exec (.fatalError cause core detail detail2) s = became s (fatal cause core detail detail2 b)) ∧
    (b.pwr.heldBy = .no → b.pwr.pfw = false → (b.dbg.writing ≠ none ∨ b.pwr.larkspurDown = true) →
       exec .bylithResume s = 
         match b.dbg.writing with
         | some d => became s (dumpDone d b)
         | none => became s (safestopCheck (bylithUp b))) ∧
    (∀ (mem : Nat) (uncorrectable : Bool) (addr symbol core : Nat),
     b.pwr.heldBy = .no → mem ≤ 8 →
       exec (.memoryEccError mem uncorrectable addr symbol core) s = 
         let b1 := updDbg (fun x => { x with
           eccLast := reg [fld 31 31 (b2n uncorrectable), fld 11 8 mem, fld 5 0 symbol], eccAddr := addr }) b
         became s (if uncorrectable then eccUncorrectable mem addr core b1 else eccCorrected mem b1)) ∧
    (¬ (b.pwr.heldBy != .no) →
       exec .memoryScrub s = became s (countSelfTest 8 false (updDbg (fun x => { x with scrubs := (x.scrubs + 1) % 65536, scrubAge := 0 }) b))) ∧
    (∀ (failed : Bool),
     ¬ (b.pwr.heldBy != .no) →
       exec (.recordCopyCheck failed) s = became s (countSelfTest 9 failed b)) ∧
    (∀ (mismatch : Bool),
     b.pwr.heldBy = .no →
       exec (.flashHashCheck mismatch) s = became s (if mismatch then raise 252 0x80000007 (countSelfTest 10 mismatch b) else countSelfTest 10 mismatch b)) ∧
    (exec .tagStatusRefresh s = became s (statusWrite b))

/-- What each row of the tick, of a plan, of a commit group, of a lock and of an arbiter does where its condition holds.
The next state is named whole. Where the spec leaves a point open, the model’s choice stands in log entries 48 to 68. -/
def Obligations.PlanRows : Prop :=
  ∀ (s : State) (b : Block),
    s.blk = b →
    (∀ (sinceTickUs sinceCrossUs oppMv : Nat),
     b.pwr.heldBy = .no → b.pwr.assayDown = false → detArmed 0 oppMv b = true → b.pln.timer = false →
       1000000 ≤ sinceTickUs * 4 * b.nomFreq →
       exec (.tickZeroCrossing sinceTickUs sinceCrossUs oppMv) s = became s (bTick { b with pln.halfp := min sinceTickUs 65535 })) ∧
    (∀ (sinceTickUs : Nat),
     b.pwr.heldBy = .no →
       (if b.pln.timer then 1000000 < (sinceTickUs + 1) * 2 * b.nomFreq else 5000000 < (sinceTickUs + 1) * 8 * b.nomFreq) →
       exec (.tickTimer sinceTickUs) s = became s (bTick (if b.pln.timer then b else raise 45 1 { b with pln := { b.pln with timer := true, good := 0 } }))) ∧
    (∀ (dom : Nat),
     dom ≤ 2 → (b.dom dom).staging.stage = .armed → (b.dom dom).swapTick = (b.pln.tick + 1) % 4294967296 →
       b.pwr.heldBy = .no →
       exec (.planSwap dom) s = became s (bTick b)) ∧
    (∀ (dom : Nat),
     dom ≤ 2 → (b.dom dom).play = .playing → (b.dom dom).rows.length ≤ (b.dom dom).row + 1 →
       (b.dom dom).staging.stage ≠ .armed →
       exec (.planEnd dom) s = became s (replan (raise 42 (dom * 1073741824) (updDom dom (fun x => { x with play := .held }) b)))) ∧
    (∀ (dom : Nat),
     dom ≤ 2 → (b.dom dom).staging.stage = .validating → (b.dom dom).staging.queued = false →
       exec (.planValidationDone dom) s = 
         became s (nextValidation (match planCheck dom b with
           | some x => planReject dom x b
           | none => planArm dom b))) ∧
    (∀ (slot : Nat) (g : Group),
     b.pwr.heldBy = .no → slot < 16 → tget b.pln.groups slot = some g → g.due = none → g.missed = none →
       g.deadline ≠ 0 →
       exec (.groupDeadline slot) s = became s (abortGroup slot 3 0xFF b)) ∧
    (∀ (lock : Nat) (w : Waiter),
     firstOut (tget b.pln.locks lock).waiters = some w →
       exec (.lockWaitTimeout lock) s = became s (completeOpt w.cmd stBusy [] (updLock lock (fun l => { l with waiters := l.waiters.erase w }) b))) ∧
    (exec .hostChannelFault s = became s (breakOwners [0x20] b)) ∧
    (∀ (arb raised cycles : Nat) (engs : List Nat) (done : Nat),
     b.pwr.heldBy = .no → arb ≤ 1 →
       exec (.arbRound arb raised cycles engs done) s = 
         became s (if arb = 0 then
             { b with pln.arbM := b.pln.arbM.round raised cycles (if portLimited b then 0x0F else 0xFF) }
           else cruRound raised cycles engs done b)) ∧
    ((b.pwr.heldBy == .no && (b.alc.replan || ownRejected b)) →
       exec .plannerCompile s = became s (cd13Group ([0, 1, 2].foldl (fun s d => compileDom d s) { b with alc.replan := false })))

/-- What each row of a sample, a cycle, a half cycle, a second, a demand interval, a billing period and of the metrology
front end does where its condition holds. The next state is named whole. Where the spec leaves a point open, the
model’s choice stands in log entries 69 to 77. -/
def Obligations.MeteringRows : Prop :=
  ∀ (s : State) (b : Block),
    s.blk = b →
    (∀ (xs : List (List RawSample)) (rcs : List Int),
     b.pwr.heldBy = .no → metering b = true →
       exec (.sample10khz xs rcs) s = 
         became s (if blockEnd (sampleStep xs rcs b) then
             points.foldl (fun s p => if b.ptType p == 3 then boundary 2 p s else s) (sampleStep xs rcs b)
           else sampleStep xs rcs b)) ∧
    (∀ (point sinceCycNs sinceCrossNs oppMv : Nat),
     cycLive point b = true → detArmed point oppMv b = true → (b.pt point).cycTimer = false →
       1000000000 ≤ sinceCycNs * 2 * b.nomFreq →
       exec (.bCycCrossing point sinceCycNs sinceCrossNs oppMv) s = became s (bCyc point sinceCycNs b)) ∧
    (∀ (point sinceCycNs : Nat),
     cycLive point b = true →
       (if (b.pt point).cycTimer then 1000000000 < (sinceCycNs + 1) * b.nomFreq else 5000000000 < (sinceCycNs + 1) * 4 * b.nomFreq) →
       exec (.bCycTimer point sinceCycNs) s = 
         became s (bCyc point 0 (if (b.pt point).cycTimer then b
           else raise 70 (point * 256 + 1) (updPt point (fun q => { q with cycTimer := true, good := 0 }) b)))) ∧
    (∀ (point phase cycleNs : Nat),
     pointOk point && (phasesOf point b).contains phase && b.ptType point != 3 && metering b →
       exec (.halfCycleRms point phase cycleNs) s = became s (
          let u := halfRms point phase cycleNs b
          siteSeen point phase u (pqCheck point phase (updPq point (fun x => { x with
            ph := tupd x.ph phase fun f => { f with u12 := u } }) b)))) ∧
    (∀ (vin vhold : Nat),
     ¬ (b.pwr.heldBy != .no || !b.sys.mtimeRun) →
       exec (.mtimeSecond vin vhold) s = became s (
          let b := nextSecond (finalForce (supplySeen vin vhold b))
          let inUnit := demDue b && unitNow (wallApply b)
          let b1 := wallApply (intFirst inUnit { b with sys.secDone := b.sys.mtime / 1000 })
          sesAfter (boundary 3 0 (remask (lsSecond (meterSecond inUnit b1)))))) ∧
    (b.pwr.heldBy == .no && metering b && b.sys.mtimeRun →
       exec .demandSubintervalEnd s = became s (sesAfter (intFirst false (timeAt b.nrg.dem.nextEnd b)))) ∧
    (periodNext b != 0 && billing b && b.pwr.heldBy == .no && b.sys.mtimeRun →
       exec .periodBoundaryDue s = became s (periodUnit (timeAt (periodNext b) b))) ∧
    (∀ (k : Nat),
     1 ≤ k → k ≤ 8 → (b.pls k).active = true →
       exec (.pulseOutputEnd k) s = 
         let b1 := updPls k (fun x => { x with active := false, rest := 10 * b.pl8 k 2 }) b
         became s (if (b.pls k).test = 0 then
             completeOpt (b.pls k).testCmd stOk [] (updPls k (fun x => { x with testCmd := none }) b1)
           else b1)) ∧
    (∀ (point ch cause : Nat),
     (pointOk point && metering b && (if ch ≤ 3 then cause == 4 else ch ≤ 7 && (cause == 1 || cause == 2))) →
       exec (.chSignalFault point ch cause) s = became s (chFault point ch cause b)) ∧
    (∀ (point ch cause : Nat),
     pointOk point && ch ≤ 7 && cause != 3 →
       exec (.chFaultClear point ch cause) s = became s (chClear point ch cause b)) ∧
    (∀ (point : Nat) (xs : List Int) (x : CmdRef × Nat × Nat) (l : List (CmdRef × Nat × Nat)),
     metering b = true → pointOk point = true → point ≠ 255 →
       b.asy.injCmds.filter (fun x => x.2.1 == point) = x :: l → checkSuppressed point x.2.2 b = false →
       exec (.refchkRun point xs) s = became s (refCheck point x.2.2 xs (some x.1) { b with asy.injCmds := b.asy.injCmds.erase x })) ∧
    (∀ (source : Nat) (raw : Option Nat),
     b.pwr.heldBy = .no → sourceFitted source b = true →
       exec (.tempSourceRead source raw) s = 
         became s (match raw with
           | some w => updSrc source (fun x => { x with
               t := tempOf w, seen := true, valid := true, lastAt := b.sys.mtime
               runAt := if x.valid then x.runAt else b.sys.mtime }) b
           | none => updSrc source (fun x => { x with valid := false }) b)) ∧
    (∀ (source : Nat),
     b.pwr.heldBy = .no → sourceFitted source b = true → (tget b.asy.tsrc source).lost = false →
       (tget b.asy.tsrc source).valid = false →
       exec (.tsrcFallback source) s = 
         became s (raise 69 (256 + source) (tsrcUse source true (timeAt ((tget b.asy.tsrc source).lastAt + 5000) b)))) ∧
    (∀ (source : Nat),
     b.pwr.heldBy = .no → (tget b.asy.tsrc source).lost = true → (tget b.asy.tsrc source).valid = true →
       exec (.tsrcRestore source) s = 
         became s (raise 69 source (tsrcUse source false (timeAt ((tget b.asy.tsrc source).runAt + 5000) b))))

/-- What each row of the tariff-select input, of sealing, of the scroll, of the prepayment relay and of the service button
does where its condition holds. The next state is named whole. Where the spec leaves a point open, the model’s choice
stands in log entries 78 to 87. -/
def Obligations.BillingRows : Prop :=
  ∀ (s : State) (b : Block),
    s.blk = b →
    (∀ (code : Nat),
     ¬ (code % 8 == b.bil.tselRaw) →
       exec (.tselChange code) s = became s (updBil (fun x => { x with tselRaw := code % 8, tselAt := b.sys.mtime }) b)) ∧
    (billing b = true →
       exec .tselDebounced s = 
         let b1 := updBil (fun x => { x with tselCode := x.tselRaw }) b
         became s (if b1.assisted 3 || (chipTariff b1).2 != 1 then b1
           else if (chipTariff b1).1 == b1.bil.inForce && comingTariff b1 == (chipTariff b1).1 then
             updBil (fun x => { x with pend := none }) b1
           else updBil (fun x => { x with pend := some ⟨(chipTariff b1).1, b1.wall, 1⟩ }) b1)) ∧
    (∀ (u : BilUnit),
     nextSeal b = some u → signing b = true → maySeal u b = true →
       exec .ingotCommit s = became s (sealUnit false u b)) ∧
    (billing b = true → b.sys.mode ≠ .outage → b.dis.shown = none →
       exec .scrollAdvance s = became s (scrollNext (timeAt (b.bil.scrollAt + b.b8 (586 + 4 * b.bil.scroll) * 1000) b))) ∧
    (b.bil.pp == .armed && outletsOpen b →
       exec .ppDisconnectComplete s = became s (ppUnlock (setPp .disconnected (release 13 false b)))) ∧
    (∀ (irmsDA : Nat),
     b.bil.pp == .disconnected && !(b.drv 13).on && !(b.drv 13).fb →
       exec (.relayBypassDetect irmsDA) s = became s (
          tamper 14 2 5 (raise 108 irmsDA
            { updBil (fun x => { x with bypassAt := some b.sys.mtime }) b with cru.tamOut := setBit b.cru.tamOut 14 }))) ∧
    (¬ (b.pwr.heldBy != .no || b.bil.button.isSome) →
       exec .serviceButtonPress s = became s (updBil (fun x => { x with button := some b.sys.mtime }) b)) ∧
    (∀ (since : Nat),
     b.bil.button = some since →
       exec .serviceButtonRelease s = 
         let b1 := updBil (fun x => { x with button := none }) b
         became s (if 50 ≤ b.sys.mtime - since ∧ b.sys.mtime - since ≤ 10000 ∧ billing b = true then localAct 2 b1
           else b1))

/-- What each row of the control pilot, of the proximity contact and of a session’s time limits does where its condition
holds. The next state is named whole. Where the spec leaves a point open, the model’s choice stands in log entries 88
to 92. -/
def Obligations.OutletRows : Prop :=
  ∀ (s : State) (b : Block),
    s.blk = b →
    (∀ (outlet : Nat) (highMV lowMV : Int),
     outletOk outlet →
       exec (.pilotStateChange outlet highMV lowMV) s = became s (drainSes (pilotState outlet highMV lowMV b))) ∧
    (∀ (outlet : Nat) (lowMV : Int),
     outletOk outlet = true → (b.ol outlet).gen = 1 → 1 ≤ (b.ol outlet).cp → (b.ol outlet).cp ≤ 3 →
       (b.ol outlet).diode = false →
       exec (.pilotDiodeFault outlet lowMV) s = 
         became s (fastRelease outlet true (atTick ⟨outlet, 1, false, 0⟩ (pilotFault outlet 1 0
           (updOl outlet (fun o => { o with diode := true, low := lowMV }) b))))) ∧
    (∀ (outlet res : Nat),
     b.pwr.heldBy = .no → outletOk outlet = true → b.o8 outlet 3 ≠ 0 →
       exec (.proximityChange outlet res) s = 
         let old := ratingOf outlet b
         let b1 := updOl outlet (fun o => { o with res := if proxOpen res then 0xFFFF else if res < 60 then 0 else res }) b
         let b2 := if ratingFor outlet res b = old then b1
           else replan (raise 135 (ratingFor outlet res b * 65536 + outlet) b1)
         let b3 := if proxOpen res || codedRating false res != 0 then b2
           else pilotFault outlet (if res < 60 then 3 else 4) 2 b2
         let b4 := if codedRating false res != 0 || res < 60 then b3 else atTick ⟨outlet, 1, false, 0⟩ b3
         became s (refreshLimits outlet (if proxOpen res then stopSession outlet 1 b4 else b4))) ∧
    (∀ (outlet : Nat),
     outletOk outlet && (b.ses outlet).st == .open →
       exec (.authTimeout outlet) s = became s (stopSession outlet 2 (timeAt ((b.ses outlet).stAt + b.cfg8 0x0006 1 * 1000) b))) ∧
    (∀ (outlet : Nat),
     outletOk outlet && (b.ses outlet).st == .paused →
       exec (.pauseTimeout outlet) s = became s (stopSession outlet 1 (timeAt ((b.ses outlet).stAt + b.cfg16 0x0006 2 * 1000) b))) ∧
    (∀ (outlet : Nat),
     b.pwr.heldBy = .no → outletOk outlet = true → (b.ol outlet).modemLost = false →
       exec (.modemLinkLost outlet) s = 
         let b1 := updOl outlet (fun o => { o with
           modemLost := true, modemAt := b.sys.mtime, fault := setBit o.fault 6 }) b
         let b2 := if b.svcOf outlet == 3 then b1 else raise 140 (256 + outlet) b1
         became s (if (b.ses outlet).st.stoppable && (b.ses outlet).proto ≥ 2 then
             stopSession outlet 6 (updOl outlet (fun o => { o with errCause := 6 }) b2)
           else if (b.ses outlet).st.stoppable && (b.ol outlet).slac.result == 1 then handshakeFail outlet 6 b2
           else b2)) ∧
    (∀ (outlet : Nat),
     b.pwr.heldBy = .no → outletOk outlet = true → (b.ol outlet).modemLost = true →
       exec (.modemLinkRestored outlet) s = 
         let b1 := updOl outlet (fun o => { o with modemLost := false, modemAt := b.sys.mtime }) b
         became s (if b.svcOf outlet = 3 then b1 else raise 140 outlet b1)) ∧
    (∀ (outlet : Nat),
     outletOk outlet = true → (b.ses outlet).st.stoppable = true → (b.ses outlet).st ≠ .paused →
       (2 ≤ (b.ses outlet).proto ∨ (b.ol outlet).slac.result = 2) →
       exec (.v2gSequenceTimeout outlet) s = became s (stopSession outlet 1
         (updOl outlet (fun o => { o with errCause := 5 }) (timeAt ((b.ses outlet).waitTimer + 60000) b))))

/-- What each message of the vehicle’s power-line handshake does on an outlet whose session takes it. The next state is
named whole. Where the spec leaves a point open, the model’s choice stands in log entries 88 to 92. -/
def Obligations.VehicleRows : Prop :=
  ∀ (s : State) (b : Block),
    s.blk = b →
    (∀ (outlet : Nat) (m : SlacMsg),
     outletOk outlet = true → (b.ses outlet).st.stoppable = true → (b.ol outlet).modemLost = false →
       bylithDown b = false →
       exec (.slacMessage outlet m) s = 
         became s (match m with
           | .parmReq mac runId =>
             if (b.ol outlet).slac.result == 1 then
               updSlac outlet (fun c => { c with runId, mac, sounds := 0, attSum := 0, att := 0 }) b
             else b
           | .sound runId att => slacSound outlet runId att b
           | .validateReq => sayTo outlet ansNotRequired b
           | .matchReq mac runId => slacMatch outlet mac runId b)) ∧
    (∀ (outlet : Nat),
     outletOk outlet = true → (b.ses outlet).st.stoppable = true → (b.ol outlet).slac.waitF = false →
       ((b.ol outlet).slac.result = 1 ∨ (b.ol outlet).slac.result = 4 ∨
       ((b.ol outlet).slac.result = 2 ∧ (b.ol outlet).slac.setup = true)) →
       exec (.slacTimeout outlet) s = became s (if (b.ol outlet).slac.result = 2 then handshakeFail outlet 5 (timeAt ((b.ol outlet).slac.since + 20000) b)
         else handshakeFail outlet 1 (timeAt ((b.ol outlet).slac.since + b.cfg8 0x0006 0 * 1000) b))) ∧
    (∀ (outlet : Nat),
     outletOk outlet && (b.ol outlet).slac.waitF && (b.ses outlet).st.stoppable →
       exec (.slacRetryWaitEnd outlet) s = became s (slacAgain outlet (timeAt ((b.ol outlet).slac.since + 4000) b))) ∧
    (∀ (outlet : Nat) (tls : Bool),
     outletOk outlet = true → linked outlet b = true →
       exec (.sdpRequest outlet tls) s = 
         became s (sayWith outlet (if (bit (b.proto outlet) 1 || bit (b.proto outlet) 2) && (tls || bit (b.o8 outlet 9) 2) then
           ansSdpTls else ansSdpPlain) { VAns.none with port := 49152 + outlet } b)) ∧
    (∀ (outlet version suites : Nat) (ok : Bool),
     outletOk outlet = true → onChip outlet b = true →
       exec (.v2gTlsHandshake outlet version suites ok) s = 
         became s (if ok && tlsAccepts (b.proto outlet) version suites && tlsServes version b then
             raise 134 (256 + outlet) (vehicleKeys (version == 13 && !bit suites 1) outlet (updSes outlet (fun e =>
               { e with tls := true, tlsVer := version, waitTimer := b.sys.mtime }) b))
           else handshakeFail outlet 3
             (raise 134 outlet (updOl outlet (fun o => { o with fault := setBit o.fault 5 })
               (if ok && tlsAccepts (b.proto outlet) version suites then tlsMisuse version b else b))))) ∧
    (∀ (outlet bytes : Nat) (m : V2gMsg),
     outletOk outlet = true → onChip outlet b = true →
       exec (.v2gRequest outlet bytes m) s = 
         became s (if reqLate outlet (isLoop m) b then connLost outlet b
           else if bytes > 8192 || m == .undecodable then exiFail outlet b
           else if (b.ses outlet).proto < 2 || !msgSupported (b.ses outlet).proto (b.isDc outlet) m then
             v2gReject outlet ansSequenceError (v2gSeen outlet b)
           else v2gServe outlet m (v2gSeen outlet b))) ∧
    (∀ (outlet bytes : Nat) (m : V2gMsg), outletOk outlet = true → bylithDown b = true → matched outlet b = true →
       (b.ses outlet).tunnel = false → (b.ses outlet).pending = false →
       exec (.v2gRequest outlet bytes m) s =
         became s (updSes outlet (fun e => { e with pending := true, reqAt := b.sys.mtime }) b)) ∧
    (∀ (outlet offers : Nat),
     outletOk outlet = true → onChip outlet b = true →
       exec (.supportedAppProtocolReq outlet offers) s = 
         let b1 := v2gSeen outlet b
         became s (if reqLate outlet false b then connLost outlet b else match chooseProto (Nat.land (offers % 8)
             (Nat.land (b.proto outlet % 8) (tlsProtos (b.ses outlet).tlsVer (bit (b.o8 outlet 9) 2)))) (b.o8 outlet 7) with
           | some k => sayTo outlet ansOk
               (raise 133 ((k + 2) * 256 + outlet) (updSes outlet (fun e => { e with proto := k + 2 }) b1))
           | none => handshakeFail outlet 2 (sayFailed outlet ansNoNegotiation b1))) ∧
    (∀ (outlet : Nat),
     outletOk outlet = true → onChip outlet b = true → b.isDc outlet = true → 2 ≤ (b.ses outlet).proto →
       ((b.ses outlet).st = .authorised ∨ (b.ses outlet).st = .active) →
       exec (.cableCheckReq outlet) s = 
         let b1 := v2gSeen outlet b
         became s (if reqLate outlet false b then connLost outlet b
           else if (b.ao outlet).dcStep == 0 && !(b.ao outlet).preOk then
             dcStart outlet none (sayTo outlet ansOngoing (updRc outlet (fun r => { r with
               uchk := if (b.ses outlet).evUmax == 0 then b.o16 outlet 10
                 else min (b.o16 outlet 10) (b.ses outlet).evUmax }) b1))
           else sayTo outlet (if (b.ao outlet).dcStep ≥ 5 then ansOk else ansOngoing) b1)) ∧
    (∀ (outlet : Nat),
     outletOk outlet = true → onChip outlet b = true → 2 ≤ (b.ses outlet).proto →
       exec (.powerDeliveryReq outlet) s = 
         let b1 := v2gSeen outlet b
         became s (if reqLate outlet false b then connLost outlet b
           else if b.isDc outlet = false then sayTo outlet ansOk (replan b1)
           else if (b.ao outlet).dcStep == 5 && (b.ao outlet).preOk then
             sayTo outlet ansOk (replan (updAo outlet (fun a => { a with dcStep := 6, delivering := true }) b1))
           else sayFailed outlet ansFailed b1)) ∧
    (∀ (outlet : Nat) (pause : Bool),
     outletOk outlet = true → onChip outlet b = true → 2 ≤ (b.ses outlet).proto →
       exec (.sessionStopReq outlet pause) s = 
         let b1 := sayTo outlet ansOk (v2gSeen outlet b)
         became s (if reqLate outlet false b then connLost outlet b
           else if pause && (b.ses outlet).proto ≥ 3 && (b.ses outlet).st == .active then
             refreshLimits outlet (replan (openDriver outlet (dcAbort outlet
               (updSes outlet (fun e => { e with st := .paused, stAt := b.sys.mtime }) b1))))
           else stopSession outlet 1 b1)) ∧
    (∀ (outlet : Nat) (update : Bool) (body : List Byte),
     outletOk outlet = true → onChip outlet b = true →
       ((b.ses outlet).proto = 3 ∨ ((b.ses outlet).proto = 4 ∧ update = false)) →
       exec (.certInstallReq outlet update body) s = 
         let b1 := v2gSeen outlet b
         became s (if reqLate outlet false b then connLost outlet b
           else if b.mbx.silent.isSome then
             sayFailed outlet ansNoCertificate (raise 141 (b2n update * 256 + outlet) b1)
           else raise 141 (b2n update * 256 + outlet) (updOl outlet (fun o => { o with
             certAt := some b.sys.mtime, certUpd := update, lastAns := ansOngoing, ans := VAns.none
             tunRx := o.tunRx ++ body.take (16384 - o.tunRx.length) }) b1))) ∧
    (∀ (outlet : Nat),
     outletOk outlet && (b.ol outlet).certAt.isSome →
       exec (.certRespTimeout outlet) s = became s (
          sayFailed outlet ansNoCertificate (updOl outlet (fun o => { o with certAt := none })
            (timeAt ((b.ol outlet).certAt.getD 0 + 4500) b)))) ∧
    (∀ (outlet : Nat) (data : List Byte) (closed : Bool),
     outletOk outlet = true → linked outlet b = true → (b.ses outlet).tunnel = true →
       exec (.tunnelRx outlet data closed) s = 
         let rx := (b.ol outlet).tunRx ++ data.take (16384 - (b.ol outlet).tunRx.length)
         let due := (b.ol outlet).tunArmed && (b.ol outlet).tunRx.isEmpty && !rx.isEmpty
         let b1 := updSes outlet (fun e => { e with waitTimer := b.sys.mtime }) (updOl outlet (fun o => { o with
           tunRx := rx, tunTx := [], tunOpen := !closed, tunClosed := closed
           tunArmed := o.tunArmed && !due, slac := { o.slac with setup := false } }) b)
         let b2 := if due then raise 139 outlet b1 else b1
         became s (if bit b.split 1 && bit b.mbx.fallback 1 then stopSession outlet 3 b2 else b2))

/-- What each row of a contactor, of a feedback contact, of a d.c. step and of the cabinet does where its condition holds.
The next state is named whole. Where the spec leaves a point open, the model’s choice stands in log entries 93 to 95. -/
def Obligations.SwitchingRows : Prop :=
  ∀ (s : State) (b : Block),
    s.blk = b →
    (¬ (b.alc.util == Limit4.off) →
       exec .utilLimitExpiry s = became s (
          let b1 := timeAt b.alc.utilExp b
          { b1 with alc := { b1.alc with util := Limit4.off, utilExp := 0, capWhy := 4 } })) ∧
    (∀ (outlet irmsDA : Nat),
     supervised outlet irmsDA b →
       exec (.overdraw outlet irmsDA) s = became s (overdraw outlet irmsDA (timeAt ((b.ao outlet).sigLow + b.cfg16 0x0008 16 + 5000) b))) ∧
    (∀ (driver : Nat) (active : Bool),
     b.pwr.heldBy == .no && driverOk driver →
       exec (.fbChange driver active) s = became s (fbChanged driver (active != bit (b.cfg16 0x0008 30) (driver - 1)) b)) ∧
    (∀ (driver : Nat),
     b.pwr.heldBy == .no && driverOk driver && (b.drv driver).on && !(b.drv driver).fb && !(b.drv driver).confirmed && !(driver == 16 && !b.cd16use) →
       exec (.fbCloseDeadline driver) s = became s (fbFault driver 1 (timeAt ((b.drv driver).at_ + b.tclose) b))) ∧
    (∀ (driver : Nat),
     b.pwr.heldBy = .no → driverOk driver = true → (b.drv driver).coil = .releasing →
       exec (.fbOpenDeadline driver) s = became s (
         let b0 := timeAt ((b.drv driver).at_ + b.topen) b
         let b1 := updDrv driver (fun d => { d with coil := .off, confirmed := true }) b0
         if (b0.drv driver).fb && !(driver == 16 && !b0.cd16use) then fbFault driver 2 b1 else b1)) ∧
    (∀ (outlet : Nat),
     b.pwr.heldBy == .no && outletOk outlet && !b.isDc outlet && (b.drv outlet).coil == .off && !(b.drv outlet).fb && b.svcOf outlet != 0 && b.svcOf outlet != 3 →
       exec (.liveWhileOpen outlet) s = became s (fbFault outlet 7 b)) ∧
    (∀ (driver : Nat),
     driverOk driver && (b.drv driver).coil == .pullIn →
       exec (.coilPullinEnd driver) s = became s (updDrv driver (fun d => { d with coil := .hold }) (timeAt ((b.drv driver).at_ + b.cfg16 0x0008 26) b))) ∧
    (∀ (outlet : Nat),
     outletOk outlet && (b.drv outlet).opening.isSome →
       exec (.contactorReleaseCurrent outlet) s = became s (release outlet false b)) ∧
    (∀ (outlet currentDA : Nat),
     outletOk outlet = true → (b.drv outlet).opening.isSome →
       exec (.contactorReleaseTimeout outlet currentDA) s = 
         let b1 := timeAt ((b.drv outlet).opening.getD 0 + 3000) b
         became s (if 10 ≤ currentDA then raise 147 (min currentDA 65535 * 65536 + outlet) (release outlet true b1)
           else release outlet false b1)) ∧
    (∀ (outlet vaDV : Nat) (uoutDV : List Nat),
     outletOk outlet = true → (b.ao outlet).dcStep = 2 →
       exec (.dcWeldCheckDone outlet vaDV uoutDV) s = 
         became s (if 300 ≤ vaDV then dcFail outlet 2 (vaDV / 10) 0 (fbFault outlet 8 b)
           else if uoutDV.length ≥ b.nmod outlet && uoutDV.all (· ≥ 900) then
             replan (updAo outlet (fun a => { a with dcStep := 3, weldOk := true, dcAt := b.sys.mtime })
               (sendSetpoints outlet 1 0 5 b))
           else dcFail outlet 2 (vaDV / 10) 0 b)) ∧
    (∀ (outlet vaDV : Nat) (uoutDV : List Nat) (timedOut : Bool),
     outletOk outlet = true → (b.ao outlet).dcStep = 5 → (b.ao outlet).preOk = false →
       exec (.prechargeDone outlet vaDV uoutDV timedOut) s = 
         let far := fun v => v > (b.ses outlet).utgt + 200 || (b.ses outlet).utgt > v + 200
         became s (if timedOut || far vaDV || uoutDV.any far || uoutDV.length < b.nmod outlet then
             dcFail outlet 5 (vaDV / 10) 0 b
           else completeOpt (b.ao outlet).dcCmd stOk (stepResult false (vaDV / 10) 0)
             (sayTo outlet ansOk (updAo outlet (fun a => { a with preOk := true, dcCmd := none }) b)))) ∧
    (b.alc.cabinet == .precharge && (b.drv 14).on && (b.drv 14).fb →
       exec .cabinetPretime s = became s (dcCabinetOn (setCabinet .on (energise 15 (timeAt (b.alc.cabAt + b.pretime) b))))) ∧
    ((b.alc.cabinet == .on && outlets.all (fun n => !b.isDc n || (!(b.drv n).fb && !(b.drv n).on && (b.ao n).dcStep == 0))) →
       exec .cabinetIdleOff s = became s (setCabinet .off (release 15 false b))) ∧
    (∀ (driver : Nat) (t : CdTest),
     b.alc.test = some t → t.driver = driver → t.phase = 1 →
       exec (.cdTestHoldEnd driver) s = became s (release driver false
         { timeAt ((b.drv driver).at_ + (b.drv driver).tClose + t.hold) b with alc.test := some { t with phase := 2 } }))

/-- What each row of a power-module link does where its condition holds. The next state is named whole. Where the spec
leaves a point open, the model’s choice stands in log entries 93 to 95. -/
def Obligations.PowerModuleRows : Prop :=
  ∀ (s : State) (b : Block),
    s.blk = b →
    (b.pwr.pfw = false → b.pwr.heldBy = .no → b.pwr.anvilDown = false →
       exec .canCtrlTimer s = 
         became s ((upto 1 4).foldl (fun x j =>
           if x.canOn j then
             sendCan j 0x020 (p8 (x.link j).alive ++ [0] ++ p16 (enableWord j x) ++ p32 (x.sys.mtime % 4294967296))
               (updLink j (fun l => { l with alive := ((x.link j).alive + 1) % 256 }) x)
           else x) b)) ∧
    (∀ (link node : Nat) (data : List Byte),
     canOk link = true → 1 ≤ node → node ≤ 15 → b.canOn link = true →
       exec (.pmStatusFrame link node data) s = 
         let b1 := updNode link node (fun m => { m with status := fixLen 16 data, statusAt := b.sys.mtime, present := true }) b
         let b2 := if (nodeRec link node b).present || (nodeRec link node b).statusAt == 0 then b1
           else raise 149 (link * 16 + node) b1
         became s (if u8At data 1 = 5 then
             stopNode link node (raise 150 (u16At data 10 * 65536 + link * 16 + node) b2)
           else b2)) ∧
    (∀ (link node : Nat) (data : List Byte) (b1 : Block),
     canOk link = true → 1 ≤ node → node ≤ 15 → b.canOn link = true →
       updNode link node (fun m => { m with ident := fixLen 16 data }) b = b1 →
       exec (.pmIdentFrame link node data) s = 
         became s (match (b1.link link).identCmd with
           | some (r, k) =>
             if k == node then
               complete r stOk (fixLen 16 (nodeRec link node b1).status ++ fixLen 16 (nodeRec link node b1).ident ++
                   p64 (nodeRec link node b1).statusAt)
                 (updLink link (fun l => { l with identCmd := none }) b1)
             else b1
           | none => b1)) ∧
    (∀ (link node : Nat),
     canOk link && 1 ≤ node && node ≤ 15 && (nodeRec link node b).present →
       exec (.pmNodeLost link node) s = became s (nodeLost link node (timeAt ((nodeRec link node b).statusAt + 100) b))) ∧
    (∀ (link : Nat),
     canOk link = true → b.canOn link = true → (b.link link).state ≠ 2 →
       exec (.canBusOff link) s = 
         became s ((upto 1 15).foldl (fun x k => if (nodeRec link k x).present then nodeLost link k x else x)
           (raise 151 (link * 16 + 2)
             (updLink link (fun l => { l with state := 2, tec := 255, busOff := satInc 65535 l.busOff }) b)))) ∧
    (∀ (link : Nat),
     canOk link && (b.link link).state == 2 →
       exec (.canBusOffRecovery link) s = became s (raise 151 (link * 16) (updLink link (fun l => { l with state := 0, tec := 0, recv := 0 }) b)))

/-- What each row of the residual-current monitor and of the insulation monitor does where its condition holds. The next
state is named whole. Where the spec leaves a point open, the model’s choice stands in log entries 96 to 101. -/
def Obligations.ResidualCurrentRows : Prop :=
  ∀ (s : State) (b : Block),
    s.blk = b →
    (∀ (outlet cause : Nat),
     b.pwr.heldBy == .no && outletOk outlet && 1 ≤ cause && cause ≤ 8 && cause != 7 && detecting outlet b →
       exec (.rcmTrip outlet cause) s = became s (trip outlet cause (tripValue outlet cause b) b)) ∧
    (∀ (outlet : Nat),
     b.pwr.heldBy = .no → outletOk outlet = true → b.svcOf outlet ≠ 0 → (b.rc outlet).linkFault = false →
       exec (.rcmLinkFault outlet) s = 
         let b1 := updRc outlet (fun r => { r with linkFault := true }) b
         became s (if b.svcOf outlet = 3 then b1
           else trip outlet 6 (tripValue outlet 6 b) (raise 163 (256 + outlet) (rcmCount 1 b1)))) ∧
    (∀ (outlet : Nat),
     outletOk outlet = true → (b.rc outlet).linkFault = true →
       exec (.rcmLinkRestored outlet) s = 
         let b1 := updRc outlet (fun r => { r with linkFault := false }) b
         became s (if b.svcOf outlet = 3 then b1 else raise 163 outlet b1)) ∧
    (∀ (outlet : Nat) (offset plus minus : Int) (ac : Nat) (asserted : Bool),
     outletOk outlet = true → (b.rc outlet).run.testing = true →
       exec (.rcmSelftestDone outlet offset plus minus ac asserted) s = 
         let res := selftestResult offset plus minus ac asserted
         let b1 := raise 162 (res * 256 + outlet) (countSelfTest 2 (res != 0) (updRc outlet (fun r => { r with
           result := res, persist := [0, 0, 0, 0, 0], offset := if res == 0 then offset else r.offset
           turns := if res == 0 then b.cfg16 0x0009 (16 + 12 * (outlet - 1) + 8) else r.turns }) b))
         became s (match (b.rc outlet).run with
           | .session second =>
             if res == 0 then
               replan (updSes outlet (fun e => { e with rcmOk := true }) (updRc outlet (fun r => { r with run := .no }) b1))
             else if second then stFail outlet b1
             else updRc outlet (fun r => { r with run := .retryWait b1.sys.mtime }) b1
           | .command r =>
             complete r stOk (p8 res ++ [0] ++ pi16 (b1.rc outlet).offset) (updRc outlet (fun c => { c with run := .no }) b1)
           | .reset r => resetTested outlet res r b1
           | _ => b1)) ∧
    (∀ (outlet : Nat) (since : Nat),
     outletOk outlet = true → retrySince outlet b = some since →
       exec (.rcmSelftestRetry outlet) s = became s (updRc outlet (fun r => { r with run := .session true }) (timeAt (since + 1000) b))) ∧
    (∀ (outlet risoOhm : Nat),
     outletOk outlet = true → b.isDc outlet = true → ((b.drv outlet).fb = true ∨ (b.ao outlet).dcStep ≠ 0) →
       b.svcOf outlet ≠ 3 → b.svcOf outlet ≠ 0 →
       exec (.insAsymmetryReading outlet risoOhm) s = 
         let v := ohmPerVolt outlet risoOhm b
         let k := if v < b.insFault then (b.rc outlet).asym + 1 else 0
         let b1 := updRc outlet (fun r => { r with asym := k }) b
         became s (if k = 100 then
             (if (b.ao outlet).dcStep = 4 then updRc outlet (fun r => { r with cableAsym := true }) b1
              else insFaulted outlet v b1)
           else b1)) ∧
    (∀ (injector risoOhm ms : Nat) (q : InsReq),
     (injector = 1 ∨ injector = 2) → (b.inj (injector - 1)).cur = some q →
       exec (.insMeasurementDone injector risoOhm ms) s = 
         became s (injNext (injector - 1) (measured q risoOhm
           (updRc q.outlet (fun r => { r with riso := some (risoOhm, b.sys.mtime) })
             (updInj (injector - 1) (fun j => { j with
               cur := none, time := min ms 65535, last := if q.use == 1 then q.outlet else j.last }) b))))) ∧
    (∀ (outlet : Nat) (vaReached : Bool),
     outletOk outlet = true → (b.ao outlet).dcStep = 4 → (vaReached = true → (b.rc outlet).cableOhm.isSome) →
       exec (.cableCheckDone outlet vaReached) s = 
         let riso := (b.rc outlet).cableOhm.getD 0
         let v := ohmPerVolt outlet riso b
         let code := if !vaReached then 1 else if (b.rc outlet).cableAsym || v < b.insFault then 2 else 0
         let b1 := raise 166 (code * 65536 + outlet) (rcmCount 5 (cableLeave outlet b))
         became s (if code != 0 then
             dcFail outlet 4 (vehicleVolt outlet b) riso
               (sayWith outlet ansFailed { VAns.none with iso := some (if code == 1 then 4 else 3) }
                 (rcmCount 6 (if code == 2 then updRc outlet (fun r => { r with ins := 4 }) b1 else b1)))
           else cablePass outlet riso (if v < b.insWarn then warnBegin outlet v b1 else warnEnd outlet v b1))) ∧
    (∀ (injector : Nat) (fault : Bool),
     b.pwr.heldBy = .no → (injector = 1 ∨ injector = 2) → (b.inj (injector - 1)).fault ≠ fault →
       exec (.injectorFault injector fault) s = 
         became s (injNext (injector - 1) (raise 167 (b2n fault * 256 + (injector - 1))
           (updInj (injector - 1) (fun j => { j with
             fault
             queue := (match j.cur with | some q => if fault && q.use != 1 then [q] else [] | none => []) ++ j.queue
             cur := if fault then none else j.cur }) b)))) ∧
    (∀ (outlet : Nat) (r : CmdRef) (u v : Nat),
     outletOk outlet = true → (b.rc outlet).run = .inject r u v →
       exec (.rcmTestInjectEnd outlet) s = 
         became s (complete r stOk (zeros 4 ++ p32 (Config.freeWord b.free).toNat)
           (updRc outlet (fun c => { c with run := .no }) { b with free := b.free + 1 })))

/-- What each row of a safety input, a test pulse, a safety function and a reset act does where its condition holds. The
next state is named whole. Where the spec leaves a point open, the model’s choice stands in log entries 96 to 101. -/
def Obligations.SafetyRows : Prop :=
  ∀ (s : State) (b : Block),
    s.blk = b →
    (∀ (input : Nat) (chanB value : Bool),
     b.pwr.anvilDown = false → safOk input = true → b.inType input ≠ 0 → (chanB = true → b.inType input ≠ 4) →
       (value = true → b.pwr.vddioOk = true) →
       exec (.safetyInputChange input chanB value) s = 
         let b1 := updIn input (fun i => if chanB then { i with rawB := value, fB := value }
                                         else { i with rawA := value, fA := value }) b
         became s (inputsChanged (inTimes input b b1))) ∧
    (∀ (missedOwn foreign : List (Nat × Bool)) (readback : Nat),
     b.pwr.anvilDown = false →
       exec (.testPulseCycle missedOwn foreign readback) s = 
         let b1 := safNums.foldl (fun x k => pulseCheck missedOwn foreign k true (pulseCheck missedOwn foreign k false x)) b
         let b2 := countSelfTest 3 (b1.saf.cntFault != b.saf.cntFault) b1
         let b3 := (upto 1 8).foldl (fun x k => readbackCheck readback k x) b2
         became s (fnEvalAll (countSelfTest 4 (b3.saf.cntFault != b2.saf.cntFault) b3))) ∧
    (∀ (input : Nat),
     b.pwr.anvilDown = false → safOk input = true →
       ((b.inType input = 1 ∨ b.inType input = 3) ∧ (b.sin input).fA ≠ (b.sin input).fB ∨
       b.inType input = 2 ∧ (b.sin input).fA = (b.sin input).fB) →
       exec (.discrepancyTimeout input) s = became s (fnEvalAll (latchInput input (if b.inType input = 2 then 4 else 3) true true
         (timeAt ((b.sin input).diffAt + u16At b.saf.pset (16 + 8 * input + 4)) b)))) ∧
    (∀ (input : Nat),
     b.pwr.anvilDown = false → safOk input = true →
       ((b.sin input).fcause ≠ 0 ∨ (safNums.any fun f => b.fnEdm f == input && (b.fn f).edm) = true) →
       (b.sin input).relSeen = true → inHealthy input b = true → b.pwr.vddioOk = true →
       exec (.inputFaultClear input) s = 
         let b0 := timeAt ((b.sin input).since + 1000) b
         let b1 := updIn input (fun i => { i with fcause := 0, faultA := false, faultB := false, relSeen := false }) b0
         let b2 := if (b0.sin input).fcause != 0 then raise 171 (input * 256) b1 else b1
         became s (fnEvalAll (safNums.foldl (fun x f =>
           if x.fnEdm f == input then updFn f (fun y => { y with edm := false }) x else x) b2))) ∧
    (∀ (fn : Nat),
     b.pwr.anvilDown = false → safOk fn = true → (b.fn fn).st = .demand → fnHealthy fn b = true →
       exec (.functionHealthy fn) s = became s (if psFn b.saf.pset fn 3 = 0xFF then fnSatisfy fn (timeAt (fnSince fn b + 100) b)
         else fnGo fn .waitReset (timeAt (fnSince fn b + 100) b))) ∧
    (∀ (input heldMs : Nat),
     b.pwr.anvilDown = false → safOk input = true → b.inType input = 4 →
       safNums.any (fun f => b.fnKind f != 0 && psFn b.saf.pset f 3 == input) = true →
       exec (.safetyResetAct input heldMs) s = 
         let b1 := updIn input (fun i => { i with rawA := false, fA := false }) b
         became s (if 100 ≤ heldMs ∧ heldMs ≤ 3000 then resetAct input b1
           else raise 172 (input * 65536 + 0xFF) b1)) ∧
    (∀ (input : Nat) (q : Nat),
     b.pwr.anvilDown = false →
       ((safNums.filter fun f => b.fnKind f != 0 && b.fnEdm f == input).map b.fnPair).headD 0 = q →
       safOk input = true → q ≠ 0 → inHealthy input b = bit b.saf.pairs (q - 1) →
       exec (.edmTimeout input) s = 
         let b0 := timeAt (tget b.saf.pairAt (q - 1) + edmTime q b) b
         let b1 := updIn input (fun i => { i with relSeen := inDemanding input b0 }) b0
         let b2 := (fnsOfPair q b0).foldl (fun x f => updFn f (fun y => { y with edm := true }) x) b1
         became s (fnEvalAll (safFault 3 input 0 (raise 174 (input * 256 + q) b2)))) ∧
    (∀ (fn : Nat) (pairUs coilUs : Nat) (r : CmdRef),
     (b.fn fn).test = some r →
       exec (.demandTestEnd fn pairUs coilUs) s = 
         became s (complete r stOk (p32 (if b.fnPair fn == 0 then 0xFFFFFFFF else pairUs) ++
             p32 (if b.fnMask fn == 0 then 0xFFFFFFFF else coilUs))
           (updFn fn (fun x => { x with test := none }) (timeAt (b.fn fn).testEnd b))))

/-- What each row of a tamper source, of the debug unit, of the random-number generator, of a grant and of an Ethernet
handshake does where its condition holds. The next state is named whole. Where the spec leaves a point open, the
model’s choice stands in log entries 102 to 115. -/
def Obligations.SecurityRows : Prop :=
  ∀ (s : State) (b : Block),
    s.blk = b →
    (∀ (k : Nat),
     watched b && 1 ≤ k && k ≤ 8 && !bit b.cru.tmpOpen (k - 1) →
       exec (.tamperInput k) s = became s (tmpLeft k b)) ∧
    (∀ (k : Nat),
     watched b && 1 ≤ k && k ≤ 8 →
       exec (.tamperInputNormal k) s = became s (tmpRead k true b)) ∧
    (watched b →
       exec .lidMeshBreak s = became s (zeroise 9 0 (updCru (fun c => { c with mesh := false }) b))) ∧
    (∀ (clock : Bool),
     watched b = true →
       exec (.glitchDetected clock) s = became s (zeroise (if clock then 11 else 10) 0 b)) ∧
    (∀ (m : Nat) (fieldDmT : Option Nat),
     watched b && 1 ≤ m && m ≤ 4 && magAddr m b != 0 →
       exec (.magSensorRead m fieldDmT) s = became s (magReading m fieldDmT b)) ∧
    (∀ (blocked : Option Nat),
     b.cru.dbgState ≠ 1 → b.pwr.heldBy = .no →
       exec (.debugPortAccess blocked) s = 
         let b1 := raise 196 2 (updCru (fun c => { c with denied := satInc 65535 c.denied }) b)
         became s (if b.cru.attempt || !watched b then b1
           else tamper 15 1 0 (updCru (fun c => { c with attempt := true }) b1))) ∧
    (∀ (core : Nat),
     core < 4 && b.cru.dbgState == 1 && b.inMode mHalt && larkspurRuns core b →
       exec (.dbgCoreHalt core) s = became s (updCru (fun c => { c with halted := setBit c.halted core }) b)) ∧
    (∀ (core : Nat),
     core < 4 && b.cru.dbgState == 1 →
       exec (.dbgCoreResume core) s = became s (updCru (fun c => { c with halted := clrBit c.halted core }) b)) ∧
    (crucRuns b && b.cru.drbgOk →
       exec .drbgReseed s = became s (engOp 11 (updCru (fun c => { c with drbgAt := b.sys.mtime }) b))) ∧
    (∀ (kind : Nat),
     crucRuns b && b.cru.drbgOk →
       exec (.drbgHealthFail kind) s = became s (drbgFailed kind b)) ∧
    (∀ (pass : Bool),
     crucRuns b = true → b.cru.drbgOk = false →
       exec (.drbgRetest pass) s = 
         let b1 := timeAt (b.cru.drbgFailAt + 1000) b
         became s (if pass then
             raise 197 b1.cru.drbgFailKind
               (countSelfTest 11 false (updCru (fun c => { c with drbgOk := true, drbgAt := b1.sys.mtime }) b1))
           else drbgFailed 3 b1)) ∧
    (∀ (g : Grant),
     b.cru.grant = some g → g.expiry ≤ b.sys.mtime →
       exec .grantExpired s = became s (grantGone (raise 36 0 { b with cru.grant := none }))) ∧
    (∀ (port : Nat) (tls13 suiteOk : Bool) (certChain : List Byte),
     (port = 1 ∨ port = 2) → tls13 = true → suiteOk = true → served b = true → crucRuns b = true →
       b.cru.drbgOk = true → b.lnk.conns.any (fun c => c.port == port && c.service == 0) = true →
       tget b.cru.tls (port - 1) = false → slotValid 19 b = true → (lookupN 19 b.cru.chains).isSome = true →
       exec (.ethTlsClienthello port tls13 suiteOk certChain) s = became s (if clientOk certChain b then
           tlsKeys port (engOp 4 (updCru (fun c => { c with tls := tput c.tls (port - 1) true }) b))
         else b))

/-- What each row of an antenna, of a card and of the tag’s RF port does where its condition holds: for a tag frame the
answer and the state it leaves. The next state is named whole. Where the spec leaves a point open, the model’s choice
stands in log entries 116 to 127. -/
def Obligations.ContactlessRows : Prop :=
  ∀ (s : State) (b : Block),
    s.blk = b →
    (∀ (ant icoilMA : Nat) (found : PollResult),
     polled ant b = true → (b.ant ant).fault = 0 →
       exec (.readerPoll ant icoilMA found) s = 
         let b1 := engRound ant (currentSeen ant icoilMA b)
         became s (if (b1.ant ant).fault = 0 ∧ currentCause ant icoilMA b ≠ 2 then drainSes (pollFound ant found b1) else b1)) ∧
    (∀ (uid : List Byte) (d : Decided),
     b.cls.decided.find? (fun d => d.uid == uid) = some d →
       antennas.any (fun k => (b.ant k).present && (b.ant k).uid == uid) = false →
       exec (.cardDebounceExpiry uid) s = 
         became s (updCls (fun c => { c with decided := c.decided.filter fun d => d.uid != uid })
           (timeAt (d.seen + b.cfg16 0x000A 2) b))) ∧
    (∀ (ant icoilMA : Nat),
     polled ant b = true → (b.ant ant).fault ≠ 0 →
       exec (.antennaFaultCheck ant icoilMA) s = 
         let b1 := updAnt ant (fun a => { a with icoil := min icoilMA 65535 }) (countSelfTest 6 (currentCause ant icoilMA b != 0) b)
         became s (if currentCause ant icoilMA b = 0 then
             raise 210 ((b.ant ant).fault * 65536 + ant) (updAnt ant (fun a => { a with fault := 0, bad := 0 }) b1)
           else b1)) ∧
    (∀ (x : CardHold),
     b.cls.hold = some x →
       exec .cardHoldExpiry s = became s (updCls (fun c => { c with hold := none }) (timeAt (x.since + 2000) b))) ∧
    (∀ (icoilMA : Nat) (t : FieldTest),
     b.cls.test = some t →
       exec (.clsFieldTestEnd icoilMA) s = became s (complete t.cmd stOk (p16 (min icoilMA 65535) ++ p16 0) (updCls (fun c => { c with test := none }) (timeAt t.ends b)))) ∧
    (∀ (vhMV : Nat),
     ¬ (b.tag.field) →
       exec (.tagFieldOn vhMV) s = became s (rollForward (tagRaise 213 256 (updTag (fun t => { t with field := true, vh := vhMV, st := 1, rats := false }) b)))) ∧
    (b.tag.field = true →
       exec .tagFieldLost s = 
         let b1 := match b.tag.pend with
           | some w => collapse w b
           | none => b
         became s (tagRaise 213 0 (tagSessionEnd (updTag (fun t =>
           { t with field := false, vh := 0, st := 0, rats := false }) b1)))) ∧
    (∀ (wupa : Bool),
     (b.tag.st = 1 ∨ b.tag.st = 2 ∨ (b.tag.st = 4 ∧ wupa = true)) →
       exec (.tagReqa wupa) s = 
         became s (if b.tag.st = 1 then tagReady b
           else if b.tag.st = 2 then updTag (fun t => { t with st := 1 }) b
           else updTag (fun t => { t with st := 2 }) b)) ∧
    (∀ (uid : List Byte),
     b.tag.st = 2 →
       exec (.tagSelect uid) s = 
         became s (if uid = b.tag.uid then updTag (fun t => { t with st := 3, rats := false, rfCnt := inc32 t.rfCnt }) b
           else updTag (fun t => { t with st := 1 }) b)) ∧
    (∀ (deselect : Bool),
     b.tag.st = 3 → deselect = b.tag.rats →
       exec (.tagHalt deselect) s = became s (tagSessionEnd (updTag (fun t => { t with st := 4, rats := false }) (rfFinish b)))) ∧
    (b.tag.st == 3 && !b.tag.rats →
       exec .tagRats s = became s (updTag (fun t => { t with rats := true, tx := [0x04, 0x68, 0x80, 0x00] }) b)) ∧
    (b.tag.st == 2 →
       exec .tagOtherFrame s = became s (updTag (fun t => { t with st := 1 }) b)) ∧
    (∀ (c : Block),
     b.tag.st = 3 → b.tag.rats = true → tagServed b = c →
       exec .tagGetInfo s = became s (tagSay (p8 1 ++ p8 (b2n c.tag.key.isSome)) 0x9000 c)) ∧
    (∀ (toolId : Nat) (rndT : List Byte) (c : Block) (key : List Byte),
     b.tag.st = 3 → b.tag.rats = true → tagServed b = c → c.tag.key = some key → c.tag.toolMin ≤ toolId →
       c.tag.blocked = false →
       exec (.tagAuth1 toolId rndT) s = 
         let d := (tagSessionEnd c).draw
         let g := leBytes 16 (Config.random d.1).toNat
         became s (tagSay (g ++ tagMac (toolKey key toolId) 1 (fixLen 16 rndT) g) 0x9000
           (updTag (fun x => { x with auth1 := some toolId, rndT := fixLen 16 rndT, rndG := g }) d.2))) ∧
    (∀ (macT : List Byte) (c : Block) (tool : Nat) (key : List Byte),
     b.tag.st = 3 → b.tag.rats = true → tagServed b = c → c.tag.auth1 = some tool → c.tag.key = some key →
       exec (.tagAuth2 macT) s = 
         became s (if tagMac (toolKey key tool) 2 c.tag.rndG c.tag.rndT == macT then
             tagRaise 214 (tool % 65536 * 65536 + 256) (tagSay (p32 c.tag.lastCC ++ p32 c.tag.toolMin) 0x9000
               (updTag (fun t => { t with session := true, auth1 := none, tool, ssc := 0 }) c))
           else tagRaise 214 (tool % 65536 * 65536) (tagSay [] 0x6983
             (updTag (fun t => { t with auth1 := none, blocked := true, blockedAt := c.sys.mtime, authFail := inc32 t.authFail }) c)))) ∧
    (b.tag.blocked →
       exec .tagAuthBlockEnd s = became s (updTag (fun t => { t with blocked := false }) (timeAt (b.tag.blockedAt + 1000) b))) ∧
    (∀ (block : Nat) (ccmOk : Bool) (c : Block),
     b.tag.st = 3 → b.tag.rats = true → tagServed b = c → block < 256 →
       (rfAccess block = 1 ∨ (rfAccess block = 2 ∧ c.tag.session = true)) → (c.tag.session = true → ccmOk = true) →
       c.tag.bad.contains block = false →
       exec (.tagRead block ccmOk) s = became s (tagSay (memBytes (128 * block) 128 (applyWrites c.tag.out s.tagMem)) 0x9000 c)) ∧
    (∀ (block cc : Nat) (data : List Byte) (ccmOk : Bool) (step : Nat) (c : Block),
     b.tag.st = 3 → b.tag.rats = true → tagServed b = c → 64 ≤ block → block ≤ 127 → c.tag.session = true →
       ccmOk = true → c.tag.lastCC < cc →
       exec (.tagWrite block cc data ccmOk step) s = 
         let w : RfWrite := ⟨block, cc, fixLen 128 data, step⟩
         let c1 := tagSay [] 0x9000 (rfCommit w (updTag (fun t => { t with pend := some w }) c))
         became s (if step ≤ 4 then updTag (fun t => { t with pend := some w, tx := [] }) c
           else if step = 5 then c1 else rfApply w c1)) ∧
    (∀ (first count : Nat) (ccmOk : Bool) (c : Block),
     b.tag.st = 3 → b.tag.rats = true → tagServed b = c → 1 ≤ count → first + count ≤ 256 → 128 ≤ first →
       c.tag.session = true → ccmOk = true →
       exec (.tagLock first count ccmOk) s = 
         became s (tagRaise 217 (b2n true * 65536 + first * 256 + count) (tagSay [] 0x9000 (updTag (fun t => { t with
           locks := (upto (first - 128) (first - 129 + count)).foldl (fun l j => putBit l j true) c.tag.locks }) c)))) ∧
    (∀ (first count : Nat) (ccmOk : Bool) (c : Block),
     b.tag.st = 3 → b.tag.rats = true → tagServed b = c → 1 ≤ count → first + count ≤ 256 → 128 ≤ first →
       c.tag.session = true → ccmOk = true →
       exec (.tagUnlock first count ccmOk) s = 
         became s (tagRaise 217 (b2n false * 65536 + first * 256 + count) (tagSay [] 0x9000 (updTag (fun t => { t with
           locks := (upto (first - 128) (first - 129 + count)).foldl (fun l j => putBit l j false) c.tag.locks }) c)))) ∧
    (∀ (pass : Bool),
     b.tag.port = false → b.tag.key.isSome → crucRuns b = true → slotValid 5 b = true →
       exec (.tagPortRetry pass) s = 
         became s (if pass then
             raise 220 0 (updTag (fun t => { t with port := true })
               (slotPut 62 (leBytes 16 (Config.random b.draw.1).toNat) b.draw.2))
           else raise 220 256 b))

/-- A frame of each type that the mains link hears, neither erased nor wrong in its check, leaves the outcome of its type
and its acknowledgement; and what each row of a window, a block, a phase search and a coupling does where its
condition holds. The next state is named whole. Where the spec leaves a point open, the model’s choice stands in log
entries 128 to 136. -/
def Obligations.MainsLinkRows : Prop :=
  ∀ (s : State) (b : Block),
    s.blk = b →
    (∀ (f : RxFrame),
     mlkHears b = true → ofType 1 f.raw = true → verdict true f b ≠ .crc → verdict true f b ≠ .erased →
       exec (.mlkTokenFrame f) s = 
         let b1 := frOutcome 0 0 f (verdict true f b) b
         became s (if acked (verdict true f b) f b then sendAck (frSrc f.raw) [frFcnt f.raw] b1 else b1)) ∧
    (∀ (f : RxFrame),
     mlkHears b = true → ofType 2 f.raw = true → verdict true f b ≠ .crc → verdict true f b ≠ .erased →
       exec (.mlkTariffFrame f) s = 
         let b1 := frOutcome 0 0 f (verdict true f b) b
         became s (if acked (verdict true f b) f b then sendAck (frSrc f.raw) [frFcnt f.raw] b1 else b1)) ∧
    (∀ (f : RxFrame) (sinceMs : Nat),
     mlkHears b = true → ofType 3 f.raw = true → verdict true f b ≠ .crc → verdict true f b ≠ .erased →
       exec (.mlkTimeFrame f sinceMs) s = 
         let b1 := frOutcome 0 sinceMs f (verdict true f b) b
         became s (if acked (verdict true f b) f b then sendAck (frSrc f.raw) [frFcnt f.raw] b1 else b1)) ∧
    (∀ (f : RxFrame),
     mlkHears b = true → ofType 4 f.raw = true → verdict true f b ≠ .crc → verdict true f b ≠ .erased →
       exec (.mlkLoadLimitFrame f) s = 
         let b1 := frOutcome 0 0 f (verdict true f b) b
         became s (if acked (verdict true f b) f b then sendAck (frSrc f.raw) [frFcnt f.raw] b1 else b1)) ∧
    (∀ (f : RxFrame),
     mlkHears b = true → ofType 5 f.raw = true → verdict true f b ≠ .crc → verdict true f b ≠ .erased →
       exec (.mlkUpdatePiece f) s = 
         let b1 := frOutcome 0 0 f (verdict true f b) b
         became s (if acked (verdict true f b) f b then sendAck (frSrc f.raw) [frFcnt f.raw] b1 else b1)) ∧
    (∀ (f : RxFrame),
     mlkHears b = true → ofCtrl 1 f.raw = true → verdict true f b ≠ .crc → verdict true f b ≠ .erased →
       exec (.mlkUpdateOpen f) s = 
         let b1 := frOutcome 0 0 f (verdict true f b) b
         became s (if acked (verdict true f b) f b then sendAck (frSrc f.raw) [frFcnt f.raw] b1 else b1)) ∧
    (∀ (f : RxFrame),
     mlkHears b = true → ofCtrl 2 f.raw = true → verdict true f b ≠ .crc → verdict true f b ≠ .erased →
       exec (.mlkUpdateSchedule f) s = 
         let b1 := frOutcome 0 0 f (verdict true f b) b
         became s (if acked (verdict true f b) f b then sendAck (frSrc f.raw) [frFcnt f.raw] b1 else b1)) ∧
    (∀ (f : RxFrame),
     mlkHears b = true → ofCtrl 3 f.raw = true → verdict true f b ≠ .crc → verdict true f b ≠ .erased →
       exec (.mlkUpdateCancel f) s = 
         let b1 := frOutcome 0 0 f (verdict true f b) b
         became s (if acked (verdict true f b) f b then sendAck (frSrc f.raw) [frFcnt f.raw] b1 else b1)) ∧
    (∀ (f : RxFrame),
     mlkHears b = true → ofCtrl 4 f.raw = true → verdict true f b ≠ .crc → verdict true f b ≠ .erased →
       exec (.mlkUpdateReportReq f) s = 
         let b1 := frOutcome 0 0 f (verdict true f b) b
         became s (if acked (verdict true f b) f b then sendAck (frSrc f.raw) [frFcnt f.raw] b1 else b1)) ∧
    (∀ (f : RxFrame),
     mlkHears b = true → ofType 7 f.raw = true → verdict true f b ≠ .crc → verdict true f b ≠ .erased →
       exec (.mlkRepeatReq f) s = 
         let b1 := frOutcome 0 0 f (verdict true f b) b
         became s (if acked (verdict true f b) f b then sendAck (frSrc f.raw) [frFcnt f.raw] b1 else b1)) ∧
    (∀ (f : RxFrame),
     mlkHears b = true → ofType 8 f.raw = true → verdict true f b ≠ .crc → verdict true f b ≠ .erased →
       exec (.mlkAck f) s = 
         let b1 := frOutcome 0 0 f (verdict true f b) b
         became s (if acked (verdict true f b) f b then sendAck (frSrc f.raw) [frFcnt f.raw] b1 else b1)) ∧
    (∀ (f : RxFrame),
     mlkHears b = true → ofType 10 f.raw = true → verdict true f b ≠ .crc → verdict true f b ≠ .erased →
       exec (.mlkStatusReq f) s = 
         let b1 := frOutcome 0 0 f (verdict true f b) b
         became s (if acked (verdict true f b) f b then sendAck (frSrc f.raw) [frFcnt f.raw] b1 else b1)) ∧
    (∀ (f : RxFrame),
     mlkHears b = true → ofType 11 f.raw = true → verdict true f b ≠ .crc → verdict true f b ≠ .erased →
       exec (.mlkRawFrame f) s = 
         let b1 := frOutcome 0 0 f (verdict true f b) b
         became s (if acked (verdict true f b) f b then sendAck (frSrc f.raw) [frFcnt f.raw] b1 else b1)) ∧
    (∀ (w : RxWin) (timer : Bool),
     b.mlk.st ≠ 0 →
       exec (.mlkWindow w timer) s = became s (windowOf w timer (mlkFollow timer b))) ∧
    (∀ (x : RxBlock), mlkHears b = true → b.mlk.rx.length = 512 →
       exec (.mlkBlockReceived x) s =
         let hd := blockHead x b.mlk.rx
         let b1 := cpMeasure (fun v c => { c with snr := sgn 16 v }) (mlkCount 0 b)
         let b2 := updMlk (fun m => { m with
           emap := erasureMap m.rx, rx := []
           bseqRx := if hd.hdrOk && isHead hd.src then hd.bseq else m.bseqRx }) b1
         let b3 := if hd.codeOk then b2 else mlkCount 1 b2
         let p := ((List.range hd.frames.length).zip hd.frames).foldl (passFrame x.sinceMs) ⟨b3, hd.codeOk, 0, false, []⟩
         became s (if !hd.hdrOk then askRepeat hd.src hd.bseq 0xFFFFFFFF false b3
           else if p.fails == 0 then sendAcks p.acks p.s
           else askRepeat hd.src hd.bseq p.fails p.again (sendAcks p.acks p.s))) ∧
    ((b.mlk.st = 1 ∨ b.mlk.st = 3) → b.mlk.test = none → b.mlk.txq ≠ [] → b.mlk.wait = some 0 →
       exec .mlkTxBlockStart s = 
         let r := pack 760 31 (packOrder b.mlk.txq)
         became s (updMlk (fun m => { m with
           st := 4, win := 0, clear := 0, wait := none, defer := 0, warned := false
           out := r.1, txq := r.2, bseqTx := (m.bseqTx + 1) % 65536
           blk := blockOf (blockData ((m.bseqTx + 1) % 65536) r.2.isEmpty r.1) }) b)) ∧
    (b.mlk.st ≠ 0 →
       exec .mlkBlockEnd s = 
         let b1 := if b.mlk.st = 4 then
             mlkCount 9 (updMlk (fun m => { m with
               st := 1, win := 0, out := [], blk := [], burst := []
               sent := ((m.bseqTx, m.out) :: m.sent).take 8
               await := m.await ++ (m.out.filter fun f => frFlag 1 f.raw).map fun f => { f with sentAt := b.sys.mtime } }) b)
           else if b.mlk.st = 2 then updMlk (fun m => { m with st := 1, win := 0, rx := [] }) b
           else b
         became s (mlkApply (hostReturn 5 b1))) ∧
    (b.mlk.st ≠ 0 → b.mlk.lock = false → b.m8 2 = 3 →
       exec .mlkPhaseSearchTimeout s = 
         let b1 := timeAt (b.mlk.searchAt + 60000) b
         became s (if b.mlk.found then mlkSeek b1
           else updMlk (fun m => { m with ph := (m.ph + 1) % 3, searchAt := b1.sys.mtime }) b1)) ∧
    (∀ (fcnt : Nat) (f : TxFrame),
     b.mlk.await.find? (fun f => frFcnt f.raw == fcnt) = some f →
       (f.tries < b.m8 32 → b.mlk.txq.length + b.mlk.out.length < 16) →
       exec (.mlkAckTimeout fcnt) s = 
         let rest := b.mlk.await.filter fun g => frFcnt g.raw != fcnt
         let b1 := timeAt (f.sentAt + u16At b.mlk.cfg 30 * 1000) b
         became s (if f.tries ≥ b.m8 32 then raise 228 fcnt (mlkCount 7 (updMlk (fun m => { m with await := rest }) b1))
           else updMlk (fun m => { m with await := rest, txq := m.txq ++ [{ f with cls := 3, tries := f.tries + 1 }] }) b1)) ∧
    (¬ (b.mlk.st == 0 || u16At b.mlk.cfg 34 == 0) →
       exec .mlkStatusTimer s = became s (
          let b1 := timeAt (b.mlk.statAt + u16At b.mlk.cfg 34 * 60000) b
          mlkStatus (headEnd b1) (updMlk (fun m => { m with statAt := b1.sys.mtime }) b1))) ∧
    (∀ (coupling : Nat) (pass : Bool),
     1 ≤ coupling → coupling ≤ 3 → b.mlk.st ≠ 0 → (tget b.mlk.cps (coupling - 1)).fault = true →
       exec (.mlkCouplingCheck coupling pass) s = 
         let b1 := countSelfTest 7 (!pass) b
         became s (if pass then raise 231 coupling (updMlk (fun m => { m with
             cps := tupd m.cps (coupling - 1) fun c => { c with fault := false, bad := 0 } }) b1)
           else b1)) ∧
    (∀ (coupling : Nat),
     1 ≤ coupling && coupling ≤ 3 && b.mlk.st != 0 && cpOn coupling b →
       exec (.mlkCouplingFault coupling) s = became s (
          raise 231 (256 + coupling) (updMlk (fun m => { m with
            cps := tupd m.cps (coupling - 1) fun c => { c with fault := true, bad := 3 } }) b))) ∧
    (∀ (itxMA : Nat) (t : Nat × Nat × Nat × CmdRef),
     b.mlk.test = some t →
       exec (.mlkTxTestEnd itxMA) s = became s (complete t.2.2.2 stOk (p16 (min itxMA 65535) ++ p16 0) (updMlk (fun m => { m with test := none }) (timeAt t.2.2.1 b))))

/-- What each row of the matrix, of a cue, of the badge display and of their tests does where its condition holds. The
next state is named whole. Where the spec leaves a point open, the model’s choice stands in log entries 137 to 138. -/
def Obligations.DisplayRows : Prop :=
  ∀ (s : State) (b : Block),
    s.blk = b →
    (∀ (o : FrameObs),
     ¬ (b.pwr.heldBy != .no) →
       exec (.matrixFrame o) s = became s (boundary 6 0 (matrixFrame o b))) ∧
    (∀ (faultyOpen faultyShort faultyRows : List Nat),
     b.dis.mstate = 1 → disCause b = 0 →
       exec (.matrixStart faultyOpen faultyShort faultyRows) s = became s (disLit (if b.dis.short then b else disDiagnose (maskOf faultyOpen) (maskOf faultyShort) (maskOf faultyRows) b))) ∧
    (∀ (pageMs : Nat),
     b.dis.shown.isSome →
       exec (.cueDwellEnd pageMs) s = became s (
          let b1 := timeAt (b.dis.shownAt + max pageMs (b.cfg16 0x000C 14)) b
          { b1 with dis.shown := none })) ∧
    (∀ (driveMA : Nat),
     bsdRuns b = true → b.dis.bsd.seg ≤ 47 →
       exec (.bsdSegmentDriveDone driveMA) s = 
         let x := b.dis.bsd
         let inWindow := 40 ≤ driveMA && driveMA ≤ 250
         let b1 := updBsd (fun y => { y with
           drives := tupd y.drives x.seg fun n => (n + 1) % 65536, ipeak := tput y.ipeak x.seg (min driveMA 255)
           faults := if inWindow then y.faults else satInc 65535 y.faults }) b
         let b2 := if inWindow == !bit x.fault x.seg then b1
           else raise 237 (b2n (!inWindow) * 256 + x.seg)
             (updBsd (fun y => { y with fault := putBit y.fault x.seg (!inWindow) }) b1)
         became s (if !inWindow && !x.again then updBsd (fun y => { y with again := true }) b1
           else if x.testPh == 1 || x.testPh == 2 then bsdTestStep b2 else bsdAfter b2)) ∧
    (∀ (openCols shortCols rows : Nat) (t : DisTest),
     b.dis.test = some t →
       exec (.disTestEnd openCols shortCols rows) s = 
         let b1 := { timeAt t.ends b with dis.test := none }
         became s (if t.op = 3 then
             complete t.cmd stOk (p8 (countBits openCols 96) ++ p8 (countBits shortCols 96) ++
               p8 (countBits rows 24) ++ p8 0) (disSync (disDiagnose openCols shortCols rows b1))
           else if t.op = 4 then complete t.cmd stOk [] (bsdRedrive (updBsd (fun x => { x with testPh := 0 }) b1))
           else complete t.cmd stOk [] b1))

/-- What each row of a load switch does where its condition holds. The next state is named whole. Where the spec leaves a
point open, the model’s choice stands in log entries 139 to 141. -/
def Obligations.LoadSwitchRows : Prop :=
  ∀ (s : State) (b : Block),
    s.blk = b →
    (∀ (ch peakDA : Nat),
     lsOk ch && (b.ls ch).st == .on →
       exec (.lswOvercurrent ch peakDA) s = became s (lsTrip ch 1 peakDA b)) ∧
    (∀ (ch peakDA : Nat),
     lsOk ch = true → ((b.ls ch).st = .on ∨ (b.ls ch).st = .inrush) →
       exec (.lswShort ch peakDA) s = became s (lsTrip ch 2 peakDA b)) ∧
    (∀ (ch peakDA : Nat) (tjDC : Int),
     b.pwr.heldBy == .no && lsOk ch && !(b.ls ch).latch →
       exec (.lswThermalSet ch peakDA tjDC) s = became s (lsTrip ch 3 peakDA (raise 243 (256 + ch) (updLs ch (fun c => { c with latch := true, latchAt := b.sys.mtime, tj := tjDC }) b)))) ∧
    (∀ (ch : Nat) (tjDC : Int),
     lsOk ch && (b.ls ch).latch && tjDC ≤ 1500 →
       exec (.lswThermalClear ch tjDC) s = became s (
          lsWait ch (raise 243 ch (updLs ch (fun c => { c with latch := false, tj := tjDC })
            (timeAt ((b.ls ch).latchAt + 1000) b))))) ∧
    (∀ (ch : Nat),
     lsOk ch && (b.ls ch).st == .inrush →
       exec (.lswInrushEnd ch) s = became s (
          let b1 := timeAt ((b.ls ch).startAt + u16At (profInUse ch b) 4) b
          lsGo ch .on (updLs ch (fun c => { c with onAt := b1.sys.mtime }) b1))) ∧
    (∀ (ch : Nat),
     lsOk ch && (b.ls ch).tripped && (b.ls ch).st != .suspended →
       exec (.lswRwaitExpiry ch) s = became s (
          lsWait ch (updLs ch (fun c => { c with waited := true })
            (timeAt ((b.ls ch).tripAt + u16At (profInUse ch b) 14 * 1000) b)))) ∧
    (∀ (ch : Nat),
     lsOk ch && (b.ls ch).st == .on →
       exec (.lswRcntRestore ch) s = became s (
          updLs ch (fun c => { c with rcnt := u8At (profInUse ch b) 12, tripped := false })
            (timeAt ((b.ls ch).onAt + 60000) b))) ∧
    (∀ (ch : Nat) (pass : Bool),
     lsOk ch = true → (b.ls ch).st = .off → b.lsEn ch = true →
       exec (.lswDiagPulse ch pass) s = 
         became s (match b.lsw.test with
           | some t =>
             if t.ch == ch && t.op == 1 then
               lsTestDone t ((Config.freeWord b.draw.1).toNat % 65536) (if pass then 0 else 7) (diagResult ch pass b.draw.2)
             else b
           | none => if bit (b.l8 ch 6) 1 && b.cfg16 0x000D 0 != 0 && lsRuns b then diagResult ch pass b else b)) ∧
    (∀ (ch cause : Nat) (found : Bool),
     lsOk ch = true → 4 ≤ cause → cause ≤ 6 →
       (if found then flagLive ch cause b = true ∧ bit (b.ls ch).flags cause = false else bit (b.ls ch).flags cause = true) →
       exec (.lswDiagFlag ch cause found) s = 
         became s (if found then lsFlag ch cause b
           else raise 244 (cause * 65536 + ch) (updLs ch (fun x => { x with flags := clrBit x.flags cause }) b))) ∧
    (∀ (ch peakMA : Nat) (t : LsTest),
     b.lsw.test = some t → t.ch = ch → t.op = 2 →
       exec (.lswTestEnd ch peakMA) s = became s (lsTestDone t peakMA t.cause (lsRequest ch false 
         (updLs ch (fun c => { c with ipeak := min peakMA 65535 }) (timeAt t.ends b)))))

/-- What each row of the update engine does where its condition holds. The next state is named whole. Where the spec
leaves a point open, the model’s choice stands in log entries 142 to 147. -/
def Obligations.UpdateRows : Prop :=
  ∀ (s : State) (b : Block),
    s.blk = b →
    (¬ (b.upd.st != .erasing || !updRuns b) →
       exec .updEraseDone s = became s (
          let b1 := updGo .receiving (b.upd.head.reverse.foldl (fun s x => updUnit x.1 x.2 s) { b with upd.units := [] })
          updAllHere (completeOpt b.upd.cmd stOk [] { b1 with upd.head := [], upd.cmd := none }))) ∧
    (b.upd.st == .verifying && updRuns b →
       exec .updVerifyDone s = became s (updVerified b)) ∧
    (b.upd.st = .scheduled → updRuns b = true → b.inMode [.standby, .service, .degraded] = true →
       b.sys.trans = none → updDue b ≤ b.sys.mtime → b.sys.mtime ≤ updWindowEnd b →
       exec .updActivationDue s = 
         let b1 := updGo .activating (enterMode .activate 0x11 { b with sys.preActivate := b.sys.mode })
         became s (if updStopping b1 then cstopBegin 9 { b1 with upd.act := .stopping } else activateHitless b1)) ∧
    (b.upd.st == .scheduled && updWindowEnd b ≤ b.sys.mtime && b.pwr.heldBy == .no →
       exec .updWindowLapse s = became s (updUnschedule (updLast 4 0 0xFF b))) ∧
    (∀ (x : Nat),
     b.sys.mode = .activate → b.upd.act = .trial x →
       exec .updCommitPoint s = 
         let b1 := if b.pwr.larkspurDown then bylithUp b else b
         became s (if b.pwr.larkspurDown = true ∧ x + 7000 < b.sys.mtime then
             activateOver (revertPoint 1 0xFF (larkspurReset b))
           else match assayChange b1 with
             | some b2 => handClear (activateOver (commitPoint b2))
             | none => activateOver (revertPoint 3 2 (larkspurReset b1)))) ∧
    (∀ (code part : Nat) (x : _),
     b.upd.act = .trial x →
       exec (.updRevert code part) s = became s (activateOver (revertPoint code part (larkspurReset b)))) ∧
    (b.upd.st = .activating → b.upd.act = .stopping → outletsOpen b = true → b.pwr.heldBy = .no →
       b.sys.mode ≠ .outage →
       exec .updStoppingReset s = 
         let b1 := dueCompleted (cstopCheck b)
         let b2 := wholeReset 4 .ready (if metering b1 then commit comFull b1 else b1)
         became s { b2 with upd.act := .trialStop, sys.bankB := !b2.sys.bankB }) ∧
    (∀ (outlet : Nat),
     (outletOk outlet && b.upd.gpmLoad == 0 && updRuns b && bit b.upd.gpmPend (outlet - 1) && noSession outlet b && (upto 1 (outlet - 1)).all (fun k => !bit b.upd.gpmPend (k - 1) || !noSession k b)) →
       exec (.updGpmLoad outlet) s = became s ({ b with upd.gpmLoad := outlet })) ∧
    (∀ (outlet : Nat) (failed : Bool),
     outletOk outlet && b.upd.gpmLoad == outlet →
       exec (.gpmLoadDone outlet failed) s = became s (
          raise 251 (b2n failed * 256 + outlet) (updUpd (fun u => { u with
            gpmLoad := 0, gpmPend := clrBit u.gpmPend (outlet - 1), gpmFail := putBit u.gpmFail (outlet - 1) failed }) b)))

/-- What each row of an Ethernet port, a connection, a serial link and a bridge does where its condition holds. The next
state is named whole. Where the spec leaves a point open, the model’s choice stands in log entries 148 to 153. -/
def Obligations.LinkRows : Prop :=
  ∀ (s : State) (b : Block),
    s.blk = b →
    (b.pwr.heldBy == .no && !b.lnk.phyRst →
       exec .ethPhyRelease s = became s (updLnk (fun l => { l with phyRst := true }) (timeAt b.lnk.phyAt b))) ∧
    (∀ (port : Nat) (up direct : Bool),
     ((port == 1 || port == 2) && (direct || b.lnk.phyRst)) →
       exec (.ethLinkChange port up direct) s = became s (updLnk (fun l => { l with linkUp := tput l.linkUp (port - 1) up, direct := tput l.direct (port - 1) direct }) b)) ∧
    (∀ (port dst src : Nat) (frame : List Byte),
     forwards port b →
       exec (.ethFrameForward port dst src frame) s = became s (
          let b1 := macLearn (src % 2 ^ 48) port b
          updLnk (fun l => { l with fwdMask := switchTo port (dst % 2 ^ 48) b1, fwd := frame }) b1)) ∧
    (∀ (mac : Nat) (x : MacEntry),
     b.lnk.macs.find? (fun e => e.mac == mac % 2 ^ 48) = some x →
       exec (.ethMacAgeing mac) s = became s (updLnk (fun l => { l with macs := l.macs.filter fun y => y.mac != x.mac }) (timeAt (x.seen + 300000) b))) ∧
    (∀ (port client tcpPort : Nat),
     (port = 1 ∨ port = 2) → tcpOffered b = true →
       exec (.tcpConnect port client tcpPort) s = 
         became s (match tcpAccepts port client tcpPort b with
           | some v => updLnk (fun l => { l with
               conns := l.conns ++ [⟨l.nextConn, port, client, v⟩], nextConn := l.nextConn + 1 }) b
           | none => updLnk (fun l => { l with refused := client }) b)) ∧
    (∀ (conn : Nat) (c : TcpConn),
     b.lnk.conns.find? (fun c => c.id == conn) = some c →
       exec (.tcpConnectionClose conn) s = 
         let b1 := updLnk (fun l => { l with
           conns := l.conns.filter fun x => x.id != conn
           serial := l.serial.map fun x => { x with queue := x.queue.filter fun r => r.conn != conn } }) b
         became s (if c.service = 0 then tlsEnd c.port b1 else b1)) ∧
    (∀ (conn tid unit : Nat) (pdu : List Byte),
     tcpOffered b = true → b.lnk.conns.any (fun c => c.id == conn && c.service == 1) = true →
       exec (.modbusTcpRequest conn tid unit pdu) s = 
         let r : MbReq := ⟨conn, tid % 65536, unit % 256, pdu⟩
         became s (match linkOf r.unit b with
           | none => mbException 0x0A r b
           | some i =>
             if (b.ser i).cur.isNone then rtuSend i r b
             else if (b.ser i).queue.length ≥ 16 then mbException 0x06 r b
             else updSer i (fun l => { l with queue := l.queue ++ [r] }) b)) ∧
    (∀ (link unit : Nat) (pdu : List Byte) (crcOk : Bool) (r : MbReq),
     1 ≤ link → link ≤ 10 → (b.ser link).cur = some r → crcOk = true → unit = r.unit →
       u8At pdu 0 % 128 = u8At r.pdu 0 % 128 →
       exec (.modbusRtuResponse link unit pdu crcOk) s = became s (rtuNext link (mbapSend r pdu b))) ∧
    (∀ (link : Nat) (r : MbReq),
     1 ≤ link → link ≤ 10 → (b.ser link).cur = some r →
       exec (.modbusTimeout link) s = became s (rtuNext link (mbException 0x0B r (timeAt (b.ser link).due b)))) ∧
    (∀ (uart : Nat) (data : List Byte),
     isBridge uart b && (bridgeConn uart b).isSome →
       exec (.bridgeTcpData uart data) s = became s (updSer (6 + uart) (fun l => { l with tx := data }) b)) ∧
    (∀ (uart : Nat) (data : List Byte) (c : TcpConn),
     isBridge uart b = true → bridgeConn uart b = some c →
       exec (.bridgeUartRx uart data) s = 
         let b1 := tcpSend c.id (data.take 4096) b
         became s (if bit (serRec (6 + uart) 2 b) 3 then b1
           else updSer (6 + uart) (fun l => { l with lost := l.lost + (data.length - 4096) }) b1))

/-- COMMAND_START starts the first ready entry of the mailbox, where no entry resumes, and then does what an ended command
leaves due. The next state is named whole. Where the spec leaves a point open, the model’s choice stands in log
entries 37 to 47 and 154 to 157. -/
def Obligations.CommandStart : Prop :=
  ∀ (s : State) (b : Block),
    s.blk = b →
    (∀ (mb : Nat) (e : Entry),
     mayStart b = true → (b.box mb).entries.find? (fun e => e.phase == .resume && e.final.isNone) = none →
       nextReady (b.box mb).entries false = some e →
       exec (.commandStart mb) s = became s (softCheck (refreshMasks (boundary 0 0 (drainSes (startEntry s.tagMem mb e b))))))
end

