-- ==== Sys2Proof/Laws/Commands.lean ====
section
/-!
SUPPORT. What a mailbox command row does once its request is accepted and starts at once: everything `runCmd` can do in the
states of `starts`, and what acceptance leaves unchanged.
-/

namespace Sys2Proof.Machine

theorem tupd_length {α : Type} (l : List α) (i : Nat) (f : α → α) : (tupd l i f).length = l.length := by
  induction l generalizing i with
  | nil => rfl
  | cons a r ih => cases i <;> simp [tupd, ih]

theorem tget_tupd_same {α : Type} [Inhabited α] (l : List α) (i : Nat) (f : α → α) (h : i < l.length) :
    tget (tupd l i f) i = f (tget l i) := by
  induction l generalizing i with
  | nil => simp at h
  | cons a r ih =>
    cases i with
    | zero => simp [tupd, tget]
    | succ k => simpa [tupd, tget] using ih k (by simpa using h)

theorem tget_tupd_ne {α : Type} [Inhabited α] (l : List α) (i j : Nat) (f : α → α) (h : j ≠ i) :
    tget (tupd l i f) j = tget l j := by
  induction l generalizing i j with
  | nil => simp [tupd]
  | cons a r ih =>
    cases i with
    | zero => cases j with
      | zero => exact absurd rfl h
      | succ k => simp [tupd, tget]
    | succ k => cases j with
      | zero => simp [tupd, tget]
      | succ m => simpa [tupd, tget] using ih k m (by omega)

/-! ### Raising an event changes the events and the log only -/

/-- Two blocks that differ at most in the EVT and DBG blocks, and agree on the dump. -/
def SameButEvents (s t : Block) : Prop :=
  ∃ e d, t = { s with evt := e, dbg := d } ∧ d.writing = s.dbg.writing ∧ d.dram = s.dbg.dram ∧ d.parts = s.dbg.parts

theorem SameButEvents.refl (s : Block) : SameButEvents s s := ⟨s.evt, s.dbg, rfl, rfl, rfl, rfl⟩

theorem SameButEvents.trans {s t u : Block} (h : SameButEvents s t) (k : SameButEvents t u) : SameButEvents s u := by
  obtain ⟨e, d, rfl, a, b, c⟩ := h
  obtain ⟨e2, d2, rfl, a2, b2, c2⟩ := k
  exact ⟨e2, d2, rfl, a2.trans a, b2.trans b, c2.trans c⟩

theorem latchEvent_same (e : Nat) (s : Block) : SameButEvents s (latchEvent e s) := ⟨_, s.dbg, rfl, rfl, rfl, rfl⟩

theorem queueEvent_same (t : Bool) (e x : Nat) (s : Block) : SameButEvents s (queueEvent t e x s) := by
  unfold queueEvent
  split
  · exact .refl s
  · split <;> exact ⟨_, s.dbg, rfl, rfl, rfl, rfl⟩

theorem logPut_same (ev fl mt : Nat) (w : Int) (x : Nat) (s : Block) : SameButEvents s (logPut ev fl mt w x s) :=
  ⟨s.evt, _, rfl, rfl, rfl, rfl⟩

theorem logOccurrence_same (t : Bool) (e x : Nat) (s : Block) : SameButEvents s (logOccurrence t e x s) := by
  unfold logOccurrence
  split
  · exact .refl s
  · split
    · exact logPut_same ..
    · split <;> exact ⟨s.evt, _, rfl, rfl, rfl, rfl⟩

theorem raiseOnce_same (t : Bool) (e x : Nat) (s : Block) : SameButEvents s (raiseOnce t e x s) :=
  ((latchEvent_same e s).trans (queueEvent_same ..)).trans (logOccurrence_same ..)

/-- An occurrence changes the EVT block and the event log, nothing else (05 R143–R147, 21 R577). -/
theorem raiseAs_same (t : Bool) (e x : Nat) (s : Block) : SameButEvents s (raiseAs t e x s) := by
  unfold raiseAs
  have h1 := raiseOnce_same t e x s
  dsimp only
  split
  · split
    · exact (h1.trans (raiseOnce_same ..)).trans (raiseOnce_same ..)
    · exact h1.trans (raiseOnce_same ..)
  · split
    · exact h1.trans (raiseOnce_same ..)
    · exact h1

theorem raise_same (e x : Nat) (s : Block) : SameButEvents s (raise e x s) := raiseAs_same ..

/-! ### Acceptance -/

/-- Two blocks that differ at most in the mailboxes, the events and the log. -/
def SameButBoxes (s t : Block) : Prop :=
  ∃ m e d, t = { s with mbx := m, evt := e, dbg := d } ∧ d.writing = s.dbg.writing ∧ m.boxes.length = s.mbx.boxes.length

theorem SameButBoxes.trans {s t u : Block} (h : SameButBoxes s t) (k : SameButBoxes t u) : SameButBoxes s u := by
  obtain ⟨m, e, d, rfl, a, b⟩ := h
  obtain ⟨m2, e2, d2, rfl, a2, b2⟩ := k
  exact ⟨m2, e2, d2, rfl, a2.trans a, b2.trans b⟩

theorem SameButEvents.boxes {s t : Block} (h : SameButEvents s t) : SameButBoxes s t := by
  obtain ⟨e, d, rfl, a, _, _⟩ := h
  exact ⟨s.mbx, e, d, rfl, a, rfl⟩

theorem updBox_same (mb : Nat) (f : Mailbox → Mailbox) (s : Block) : SameButBoxes s (updBox mb f s) :=
  ⟨_, s.evt, s.dbg, rfl, rfl, tupd_length ..⟩

theorem hostFrame_same (s : Block) : SameButBoxes s (hostFrame s) := by
  unfold hostFrame
  split
  · exact ⟨_, s.evt, s.dbg, rfl, rfl, rfl⟩
  · refine SameButBoxes.trans ?_ (raise_same _ _ _).boxes
    exact ⟨_, s.evt, s.dbg, rfl, rfl, rfl⟩

theorem hostFrame_boxes (s : Block) : (hostFrame s).mbx.boxes = s.mbx.boxes := by
  unfold hostFrame
  split
  · rfl
  · obtain ⟨e, d, h, _⟩ := raise_same 35 ((s.sys.mtime - _) / 1000) { s with mbx := { s.mbx with
      lastHost := s.sys.mtime, chanAt := s.sys.mtime, silent := none
      fallback := clrBit (clrBit (clrBit s.mbx.fallback 2) 7) 8 } }
    rw [h]

theorem box_updBox (mb : Nat) (f : Mailbox → Mailbox) (s : Block) (h : mb < s.mbx.boxes.length) :
    (updBox mb f s).box mb = f (s.box mb) := tget_tupd_same _ _ _ h

theorem box_hostFrame (mb : Nat) (s : Block) : (hostFrame s).box mb = s.box mb := by
  simp only [Block.box, hostFrame_boxes]

/-- What acceptance leaves in the block, where no other entry is occupied and SEQ is the one expected (R128, R129). -/
theorem arrive_idle (mb via : Nat) (a : Arrived) (s : Block)
    (hc : a.chkOk = true) (hl : a.len ≤ 4080) (hf : a.flags = 0) (he : (s.box mb).entries = [])
    (hb : mb < s.mbx.boxes.length) (hs : ∀ l, (s.box mb).last = some l → a.seq = (l.seq + 1) % 4294967296) (hm : s.sys.mode ≠ .outage) :
    arrive mb via a s =
      updBox mb (fun b => { b with last := some { seq := a.seq, id := (s.box mb).nextId, final := none } })
        (newEntry mb a .waiting (hostFrame (updBox mb (fun b => { b with bind := via }) s))).2 := by
  have hd : isDup (s.box mb) a = none := by
    unfold isDup
    split
    · rfl
    · split
      · rfl
      · rename_i l hl'
        have := hs l hl'
        split
        · rename_i e
          have e := eq_of_beq e
          omega
        · rfl
  have hq : seqOk (s.box mb) a = true := by
    unfold seqOk
    cases hl' : (s.box mb).last with
    | none => simp
    | some l => simp [hs l hl']
  obtain ⟨m, e, d, hst, _, _⟩ := (updBox_same mb (fun b => { b with bind := via }) s).trans (hostFrame_same _)
  have hn := congrArg (fun t : Block => (t.box mb).nextId) hst
  simp only [box_hostFrame, box_updBox _ _ _ hb] at hn
  simp only [arrive, hc, hd, hq, hf, he]
  simp only [newEntry, hst, ← hn]
  simp [updBox, hm, Nat.not_lt.mpr hl]

theorem newEntry_same (mb : Nat) (a : Arrived) (ph : Phase) (s : Block) : SameButBoxes s (newEntry mb a ph s).2 :=
  updBox_same _ _ _

theorem viaOf_request (c : CmdSpec) (h : Req) (p : List Byte) : reqArrived c h p = request c.op h p := rfl

/-- What acceptance leaves unchanged: everything but the mailboxes, the events and the log. -/
theorem arrive_same (op via : Nat) (h : Req) (p : List Byte) (s : Block) (hb : h.mb.toNat < s.mbx.boxes.length)
    (he : (s.box h.mb.toNat).entries = []) (hf : h.flags = 0) (hl : p.length ≤ 4080) (hs : seqNext h s = true)
    (hm : s.sys.mode ≠ .outage) : SameButBoxes s (arrive h.mb.toNat via (request op h p) s) := by
  rw [arrive_idle _ _ _ _ rfl hl (by simp [request, hf]) he hb ?_ hm]
  · exact (((updBox_same _ _ _).trans (hostFrame_same _)).trans (newEntry_same _ _ _ _)).trans (updBox_same _ _ _)
  · intro l e
    simpa [seqNext, e, request] using hs

/-- What acceptance and the start of a command leave unchanged. -/
theorem begun_same (op : Nat) (h : Req) (p : List Byte) (s : Block) (hb : h.mb.toNat < s.mbx.boxes.length)
    (he : (s.box h.mb.toNat).entries = []) (hf : h.flags = 0) (hl : p.length ≤ 4080) (hs : seqNext h s = true)
    (hm : s.sys.mode ≠ .outage) : SameButBoxes s (begun op h p s) :=
  (arrive_same op _ h p s hb he hf hl hs hm).trans (updBox_same _ _ _)

theorem accepted_iff (h : Req) (p : List Byte) (s : Block) :
    accepted h p s = true ↔
      mayStart s = true ∧ h.mb.toNat < s.mbx.boxes.length ∧ (s.box h.mb.toNat).entries = [] ∧ seqNext h s = true ∧
        h.flags = 0 ∧ p.length ≤ 4080 := by
  simp [accepted, and_assoc, List.isEmpty_iff]

theorem starts_iff (op : Nat) (role : Role) (modes : List Mode) (h : Req) (p : List Byte) (s : Block) :
    starts op role modes h p s = true ↔
      accepted h p s = true ∧ role.accepts h.mb.toNat = true ∧ s.inMode modes = true ∧
        (isExpert op = true → grantValid s = true) := by
  simp [starts, and_assoc]
  intros
  cases isExpert op <;> simp

/-- In the states of `accepted` every field but the mailboxes, the events and the log is as it was. -/
theorem begun_accepted {h : Req} {p : List Byte} {s : Block} (op : Nat) (H : accepted h p s = true) :
    ∃ m e d, begun op h p s = { s with mbx := m, evt := e, dbg := d } ∧ d.writing = s.dbg.writing := by
  obtain ⟨a, hb, he, hs, hf, hl⟩ := (accepted_iff ..).mp H
  simp only [mayStart, Bool.and_eq_true, bne_iff_ne] at a
  obtain ⟨m, e, d, q, w, _⟩ := begun_same op h p s hb he hf hl hs a.1.2
  exact ⟨m, e, d, q, w⟩

/-- In the states of `starts` every field but the mailboxes, the events and the log is as it was. -/
theorem begun_eq {op : Nat} {role : Role} {modes : List Mode} {h : Req} {p : List Byte} {s : Block}
    (H : starts op role modes h p s = true) :
    ∃ m e d, begun op h p s = { s with mbx := m, evt := e, dbg := d } ∧ d.writing = s.dbg.writing :=
  begun_accepted op ((starts_iff ..).mp H).1

/-- A command row whose request is accepted and starts at once runs as a started command. -/
theorem runCmd_accepted (c : CmdSpec) (h : Req) (p : List Byte) (s : Block) (H : accepted h p s = true) :
    runCmd c h p s = runStarted c (refOf h s) p (begun c.op h p s) := by
  obtain ⟨a, hb, he, hs, hf, hl⟩ := (accepted_iff ..).mp H
  have a' := a
  simp only [mayStart, Bool.and_eq_true, bne_iff_ne] at a'
  obtain ⟨⟨⟨sv, _⟩, hm⟩, _⟩ := a'
  have hs' : ∀ l, (s.box h.mb.toNat).last = some l → (request c.op h p).seq = (l.seq + 1) % 4294967296 := by
    intro l e
    simpa [seqNext, e, request] using hs
  have harr := arrive_idle h.mb.toNat (viaOf h s) (request c.op h p) s rfl hl (by simp [request, hf]) he hb hs' hm
  have hfree : ((s.box h.mb.toNat).free == 0) = false := by simp [Mailbox.free, he]
  have hbox : (arrive h.mb.toNat (viaOf h s) (request c.op h p) s).box h.mb.toNat =
      { s.box h.mb.toNat with
        bind := viaOf h s, nextId := (s.box h.mb.toNat).nextId + 1
        last := some { seq := h.seq.toNat, id := (s.box h.mb.toNat).nextId, final := none }
        entries := [{ id := (s.box h.mb.toNat).nextId, opcode := c.op, tag := h.tag.toNat, flags := 0, seq := h.seq.toNat
                      len := p.length, payload := p, phase := .waiting, final := none, acc := false }] } := by
    rw [harr, newEntry]
    have l1 : h.mb.toNat < (hostFrame (updBox h.mb.toNat (fun b => { b with bind := viaOf h s }) s)).mbx.boxes.length := by
      rw [hostFrame_boxes]; simpa [updBox, tupd_length] using hb
    have l2 : ∀ f, h.mb.toNat <
        (updBox h.mb.toNat f (hostFrame (updBox h.mb.toNat (fun b => { b with bind := viaOf h s }) s))).mbx.boxes.length := by
      intro f; simpa [updBox, tupd_length] using l1
    rw [box_updBox _ _ _ (l2 _), box_updBox _ _ _ l1, box_hostFrame, box_updBox _ _ _ hb]
    simp [he, request, hf]
  have hmay : mayStart (arrive h.mb.toNat (viaOf h s) (request c.op h p) s) = true := by
    obtain ⟨m', e', d', q, w, _⟩ := arrive_same c.op (viaOf h s) h p s hb he hf hl hs hm
    rw [q]
    simpa [mayStart, w, served] using a
  have hrun : runCmd c h p s =
      match nextReady ((arrive h.mb.toNat (viaOf h s) (request c.op h p) s).box h.mb.toNat).entries false with
      | none => arrive h.mb.toNat (viaOf h s) (request c.op h p) s
      | some e =>
        if e.id == (s.box h.mb.toNat).nextId && mayStart (arrive h.mb.toNat (viaOf h s) (request c.op h p) s) then
          runStarted c (refOf h s) p (begun c.op h p s)
        else arrive h.mb.toNat (viaOf h s) (request c.op h p) s := by
    unfold runCmd
    rw [if_neg (by simp [sv, hfree])]
    rfl
  have hz : bit 0 1 = false := by decide
  rw [hrun, hbox]
  simp only [nextReady, hmay, hz, Bool.false_eq_true, if_false, beq_self_eq_true, Bool.and_self, if_true]

/-- A command row whose request is accepted and starts: the LENGTH check, then the command's own checks, locks and body. -/
theorem runCmd_starts (c : CmdSpec) (h : Req) (p : List Byte) (s : Block)
    (H : starts c.op c.role c.modes h p s = true) (hmode : c.modeOf p (begun c.op h p s) = true := by rfl) :
    runCmd c h p s =
      if c.len p then runChecked c (refOf h s) p (begun c.op h p s)
      else complete (refOf h s) stBadLength [] (begun c.op h p s) := by
  obtain ⟨ac, ha, hi, hx⟩ := (starts_iff ..).mp H
  obtain ⟨m, e, d, hsame, hw⟩ := begun_accepted c.op ac
  have hchk : checkFails c h.mb.toNat p (begun c.op h p s) = if c.len p then none else some stBadLength := by
    rw [hsame] at hmode ⊢
    have i' : Block.inMode { s with mbx := m, evt := e, dbg := d } c.modes = true := hi
    have g' : grantValid { s with mbx := m, evt := e, dbg := d } = grantValid s := rfl
    simp only [checkFails, ha, i', g', hmode]
    cases hxx : isExpert c.op
    · cases c.len p <;> simp
    · cases c.len p <;> simp [hx hxx]
  rw [runCmd_accepted c h p s ac, runStarted, show (refOf h s).mb = h.mb.toNat from rfl, hchk]
  cases c.len p <;> simp

/-- A command row whose request is accepted and starts, with the right LENGTH and no check failed before its locks, all of
them taken: its body, and the response of its body. -/
theorem runCmd_locked (c : CmdSpec) (h : Req) (p : List Byte) (s a : Block) (H : starts c.op c.role c.modes h p s = true)
    (hl : c.len p = true) (hp : c.pre (refOf h s) p (begun c.op h p s) = none)
    (hk : takeLocks (refOf h s) (c.lock p (begun c.op h p s)) (begun c.op h p s) = .all a)
    (hmode : c.modeOf p (begun c.op h p s) = true := by rfl) :
    runCmd c h p s = answer (refOf h s) (c.body (refOf h s) p a) := by
  rw [runCmd_starts c h p s H hmode, hl]
  simp [runChecked, hp, hk]

/-- The same where the command takes no lock. -/
theorem runCmd_answer (c : CmdSpec) (h : Req) (p : List Byte) (s : Block) (H : starts c.op c.role c.modes h p s = true)
    (hl : c.len p = true) (hp : c.pre (refOf h s) p (begun c.op h p s) = none) (hk : c.lock p (begun c.op h p s) = [])
    (hmode : c.modeOf p (begun c.op h p s) = true := by rfl) :
    runCmd c h p s = answer (refOf h s) (c.body (refOf h s) p (begun c.op h p s)) :=
  runCmd_locked c h p s _ H hl hp (by rw [hk]; rfl) hmode

/-! ### Responses -/

theorem queueRsp_same (mb id : Nat) (fr : Bool) (ws : List Word) (s : Block) :
    SameButBoxes s (queueRsp mb id fr ws s) := by
  have hsp : ∀ k : Nat, SameButBoxes s
      (if k == 1 then raise 32 mb (updBox mb (fun b => { b with rsps := b.rsps ++ [{ id, frees := fr, words := ws }] }) s)
       else updBox mb (fun b => { b with rsps := b.rsps ++ [{ id, frees := fr, words := ws }] }) s) := by
    intro k
    split
    · exact (updBox_same _ _ _).trans (raise_same _ _ _).boxes
    · exact updBox_same _ _ _
  have eth : SameButBoxes s
      (let port := (s.box mb).bind - 2
       let d := wordBytes ws
       let n := 16 + u16At d 6
       let s1 := ethOut port (p8 mb ++ p8 0 ++ p16 n ++ d.take n) s
       if fr then updBox mb (fun b => { b with entries := b.entries.filter fun e => e.id != id }) s1 else s1) := by
    dsimp only
    split
    · exact SameButBoxes.trans ⟨_, s.evt, s.dbg, rfl, rfl, rfl⟩ (updBox_same _ _ _)
    · exact ⟨_, s.evt, s.dbg, rfl, rfl, rfl⟩
  unfold queueRsp
  split
  · exact eth
  · exact eth
  · exact hsp _

theorem respondWith_same (x : Nat) (r : CmdRef) (f : Bool) (st : Nat) (d : List Byte) (s : Block) :
    SameButBoxes s (respondWith x r f st d s) := by
  unfold respondWith
  split
  · exact ⟨s.mbx, s.evt, s.dbg, rfl, rfl, rfl⟩
  · cases f
    · exact queueRsp_same _ _ _ _ _
    · exact (updBox_same _ _ _).trans (queueRsp_same _ _ _ _ _)

theorem finalMade_same (r : CmdRef) (st : Nat) (d : List Byte) (s : Block) : SameButBoxes s (finalMade r st d s) := by
  unfold finalMade
  dsimp only
  split
  · exact respondWith_same _ _ _ _ _ _
  · refine ((respondWith_same 0 r true st d s).trans ?_).trans (raise_same _ _ _).boxes
    exact ⟨_, _, _, rfl, rfl, rfl⟩

theorem respondFinal_same (r : CmdRef) (st : Nat) (d : List Byte) (s : Block) : SameButBoxes s (respondFinal r st d s) := by
  unfold respondFinal
  split
  · exact ⟨_, s.evt, s.dbg, rfl, rfl, rfl⟩
  · exact finalMade_same r st d s

/-- The final response of a command, where no command holds locks that it took for itself: only the mailboxes, the events and
the log change (R132). -/
theorem complete_same (r : CmdRef) (st : Nat) (d : List Byte) (s : Block) (h : s.pln.taken = []) :
    SameButBoxes s (complete r st d s) := by
  have e : ∀ t : Block, t.pln.taken = [] → { t with pln := { t.pln with taken := [] } } = t := by
    intro t ht
    rw [← ht]
  have h1 : releaseTaken r s = s := by
    simp only [releaseTaken, h, List.filter_nil, List.foldl_nil]
    exact e s h
  obtain ⟨m, v, g, q, hw, hl⟩ := respondFinal_same r st d s
  have h2 : (respondFinal r st d s).pln.taken = [] := by rw [q]; exact h
  have h3 : sweepTaken (respondFinal r st d s) = respondFinal r st d s := by
    simp only [sweepTaken, h2, List.filter_nil, List.foldl_nil]
    exact e _ h2
  rw [complete, h1, h3]
  exact ⟨m, v, g, q, hw, hl⟩

/-- A command that does not read the tag memory is a function of the block and of the tag memory. -/
theorem act_lift (f : Block → Block) : ∃ g, act f = lift g := ⟨fun _ b => f b, rfl⟩

theorem lift_lift (f : List Host.Cell → Block → Block) : ∃ g, lift f = lift g := ⟨_, rfl⟩

/-- Every command is a function of the block and of the tag memory it reads. -/
theorem exec_lift (c : Instr) : ∃ f, exec c = lift f := by
  cases c <;> unfold exec <;>
    first | exact act_lift _ | exact lift_lift _

/-- Every command answers a next state: the block it leaves, with its writes to the tag memory made. -/
theorem exec_wrote (c : Instr) (s : State) : ∃ b, exec c s = .next (wrote s b) := by
  obtain ⟨f, h⟩ := exec_lift c
  exact ⟨_, congrFun h s⟩

/-- What a command does depends neither on the queue nor changes it. -/
theorem exec_queue (c : Instr) (s : State) :
    ∃ b, ∀ q, exec c { s with pending := q } = .next { wrote s b with pending := q } := by
  obtain ⟨f, h⟩ := exec_lift c
  exact ⟨f s.tagMem s.blk, fun q => congrFun h _⟩

end Sys2Proof.Machine
end

