-- ==== Sys2Proof/Laws/Memory.lean ====
section
/-!
SUPPORT. The tag memory: every write keeps its canonical form and stays within its 32 KiB, a read after a write.
-/

namespace Sys2Proof.Machine

theorem memWfFrom_mono {l k : Nat} {m : List Host.Cell} (h : memWfFrom l m = true) (hk : k ≤ l) : memWfFrom k m = true := by
  cases m with
  | nil => rfl
  | cons c r =>
    simp only [memWfFrom, Bool.and_eq_true, decide_eq_true_eq] at h ⊢
    exact ⟨⟨by omega, h.1.2⟩, h.2⟩

theorem memWfFrom_cons (lo b : Nat) (v : Byte) (r : List Host.Cell) :
    memWfFrom lo ((b, v) :: r) = true ↔ lo ≤ b ∧ v ≠ 0 ∧ memWfFrom (b + 1) r = true := by
  simp [memWfFrom, and_assoc]

theorem memWfFrom_memWrite (a : Nat) (v : Byte) (m : List Host.Cell) (lo : Nat) (hlo : lo ≤ a) (h : memWfFrom lo m = true) :
    memWfFrom lo (memWrite a v m) = true := by
  induction m generalizing lo with
  | nil =>
    unfold memWrite
    split
    · rfl
    · rename_i hv
      exact (memWfFrom_cons ..).mpr ⟨hlo, fun e => hv (by simp [e]), rfl⟩
  | cons c r ih =>
    obtain ⟨b, w⟩ := c
    obtain ⟨hb, hw, hr⟩ := (memWfFrom_cons ..).mp h
    unfold memWrite
    by_cases h1 : a < b
    · rw [if_pos h1]
      split
      · exact h
      · rename_i hv
        exact (memWfFrom_cons ..).mpr ⟨hlo, fun e => hv (by simp [e]), (memWfFrom_cons ..).mpr ⟨h1, hw, hr⟩⟩
    · rw [if_neg h1]
      by_cases h2 : a = b
      · subst h2
        rw [if_pos (by simp)]
        split
        · exact memWfFrom_mono hr (by omega)
        · rename_i hv
          exact (memWfFrom_cons ..).mpr ⟨hb, fun e => hv (by simp [e]), hr⟩
      · rw [if_neg (by simpa using h2)]
        exact (memWfFrom_cons ..).mpr ⟨hb, hw, ih (b + 1) (by omega) hr⟩

/-- Writing one byte keeps the canonical form. -/
theorem memWf_memWrite (a : Nat) (v : Byte) (m : List Host.Cell) (h : memWf m = true) : memWf (memWrite a v m) = true :=
  memWfFrom_memWrite a v m 0 (Nat.zero_le _) h

theorem memRead_below {lo : Nat} {m : List Host.Cell} (h : memWfFrom lo m = true) (x : Nat) (hx : x < lo) :
    memRead x m = 0 := by
  induction m generalizing lo with
  | nil => rfl
  | cons c r ih =>
    obtain ⟨b, w⟩ := c
    simp only [memWfFrom, Bool.and_eq_true, decide_eq_true_eq] at h
    obtain ⟨⟨hb, -⟩, hr⟩ := h
    have : (x == b) = false := by simp; omega
    simp only [memRead, this]
    exact ih hr (by omega)

theorem memRead_memWriteFrom (a : Nat) (v : Byte) (m : List Host.Cell) (lo x : Nat) (h : memWfFrom lo m = true) :
    memRead x (memWrite a v m) = if x = a then v else memRead x m := by
  induction m generalizing lo with
  | nil =>
    unfold memWrite
    by_cases hx : x = a <;> split <;> simp_all [memRead]
  | cons c r ih =>
    obtain ⟨b, w⟩ := c
    simp only [memWfFrom, Bool.and_eq_true, decide_eq_true_eq] at h
    obtain ⟨⟨hb, -⟩, hr⟩ := h
    unfold memWrite
    by_cases h1 : a < b
    · rw [if_pos h1]
      have h0 : memRead a ((b, w) :: r) = 0 := by
        have hne : (a == b) = false := by simp; omega
        simp only [memRead, hne]
        exact memRead_below hr a (by omega)
      by_cases hx : x = a
      · subst hx
        split
        · rename_i hv
          simp only [beq_iff_eq] at hv
          simpa [hv] using h0
        · simp [memRead]
      · split <;> simp [memRead, hx]
    · rw [if_neg h1]
      by_cases h2 : a = b
      · subst h2
        rw [if_pos (by simp)]
        by_cases hx : x = a
        · subst hx
          split
          · rename_i hv
            simp only [beq_iff_eq] at hv
            simpa [hv] using memRead_below hr x (by omega)
          · simp [memRead]
        · split <;> simp [memRead, hx]
      · rw [if_neg (by simpa using h2)]
        simp only [memRead]
        by_cases hx : x = b
        · subst hx
          have : ¬ x = a := fun e => h2 e.symm
          simp [this]
        · simp [hx, ih (b + 1) hr]

/-- A read after one byte is written. -/
theorem memRead_memWrite (a : Nat) (v : Byte) (m : List Host.Cell) (x : Nat) (h : memWf m = true) :
    memRead x (memWrite a v m) = if x = a then v else memRead x m := memRead_memWriteFrom a v m 0 x h

theorem memInside_cons (b : Nat) (v : Byte) (r : List Host.Cell) :
    memInside ((b, v) :: r) = true ↔ b < 32768 ∧ memInside r = true := by
  simp only [memInside, List.all_cons, Bool.and_eq_true, decide_eq_true_eq]

theorem memInside_memWrite (a : Nat) (v : Byte) (m : List Host.Cell) (ha : a < 32768) (h : memInside m = true) :
    memInside (memWrite a v m) = true := by
  induction m with
  | nil =>
    unfold memWrite
    split
    · rfl
    · exact (memInside_cons ..).mpr ⟨ha, rfl⟩
  | cons c r ih =>
    obtain ⟨b, w⟩ := c
    obtain ⟨hb, hr⟩ := (memInside_cons ..).mp h
    unfold memWrite
    split
    · split
      · exact h
      · exact (memInside_cons ..).mpr ⟨ha, h⟩
    · split
      · split
        · exact hr
        · exact (memInside_cons ..).mpr ⟨ha, hr⟩
      · exact (memInside_cons ..).mpr ⟨hb, ih hr⟩

/-- Writing bytes keeps the canonical form. -/
theorem memWf_memWrites (d : List Byte) (a : Nat) (m : List Host.Cell) (h : memWf m = true) :
    memWf (memWrites a d m) = true := by
  induction d generalizing a m with
  | nil => exact h
  | cons v r ih =>
    unfold memWrites
    apply ih
    split
    · exact memWf_memWrite a v m h
    · exact h

theorem memInside_memWrites (d : List Byte) (a : Nat) (m : List Host.Cell) (h : memInside m = true) :
    memInside (memWrites a d m) = true := by
  induction d generalizing a m with
  | nil => exact h
  | cons v r ih =>
    unfold memWrites
    apply ih
    split
    · exact memInside_memWrite a v m ‹_› h
    · exact h

/-- The writes of one command keep the canonical form. -/
theorem memWf_applyWrites (ws : List (Nat × List Byte)) (m : List Host.Cell) (h : memWf m = true) :
    memWf (applyWrites ws m) = true := by
  induction ws generalizing m with
  | nil => exact h
  | cons w r ih => exact ih _ (memWf_memWrites w.2 w.1 m h)

theorem memInside_applyWrites (ws : List (Nat × List Byte)) (m : List Host.Cell) (h : memInside m = true) :
    memInside (applyWrites ws m) = true := by
  induction ws generalizing m with
  | nil => exact h
  | cons w r ih => exact ih _ (memInside_memWrites w.2 w.1 m h)

end Sys2Proof.Machine
end

