-- ==== Sys2Proof/Laws/State.lean ====
section
/-!
SUPPORT. What each named update of the block leaves in each of its fields, and what a command's writes to the tag memory leave:
one lemma per field and update.
-/

namespace Sys2Proof.Machine

/-! ### Updates of a whole field -/

@[simp] theorem updUpd_upd (f : Upd → Upd) (s : Block) : (updUpd f s).upd = f s.upd := rfl
@[simp] theorem updUpd_sys (f : Upd → Upd) (s : Block) : (updUpd f s).sys = s.sys := rfl
@[simp] theorem updUpd_pwr (f : Upd → Upd) (s : Block) : (updUpd f s).pwr = s.pwr := rfl
@[simp] theorem updUpd_hst (f : Upd → Upd) (s : Block) : (updUpd f s).hst = s.hst := rfl
@[simp] theorem updUpd_pin (f : Upd → Upd) (s : Block) : (updUpd f s).pin = s.pin := rfl
@[simp] theorem updUpd_shadows (f : Upd → Upd) (s : Block) : (updUpd f s).shadows = s.shadows := rfl
@[simp] theorem updUpd_mbx (f : Upd → Upd) (s : Block) : (updUpd f s).mbx = s.mbx := rfl
@[simp] theorem updUpd_evt (f : Upd → Upd) (s : Block) : (updUpd f s).evt = s.evt := rfl
@[simp] theorem updUpd_cfg (f : Upd → Upd) (s : Block) : (updUpd f s).cfg = s.cfg := rfl
@[simp] theorem updUpd_pln (f : Upd → Upd) (s : Block) : (updUpd f s).pln = s.pln := rfl
@[simp] theorem updUpd_asy (f : Upd → Upd) (s : Block) : (updUpd f s).asy = s.asy := rfl
@[simp] theorem updUpd_nrg (f : Upd → Upd) (s : Block) : (updUpd f s).nrg = s.nrg := rfl
@[simp] theorem updUpd_bil (f : Upd → Upd) (s : Block) : (updUpd f s).bil = s.bil := rfl
@[simp] theorem updUpd_out (f : Upd → Upd) (s : Block) : (updUpd f s).out = s.out := rfl
@[simp] theorem updUpd_alc (f : Upd → Upd) (s : Block) : (updUpd f s).alc = s.alc := rfl
@[simp] theorem updUpd_rcm (f : Upd → Upd) (s : Block) : (updUpd f s).rcm = s.rcm := rfl
@[simp] theorem updUpd_saf (f : Upd → Upd) (s : Block) : (updUpd f s).saf = s.saf := rfl
@[simp] theorem updUpd_cru (f : Upd → Upd) (s : Block) : (updUpd f s).cru = s.cru := rfl
@[simp] theorem updUpd_cls (f : Upd → Upd) (s : Block) : (updUpd f s).cls = s.cls := rfl
@[simp] theorem updUpd_tag (f : Upd → Upd) (s : Block) : (updUpd f s).tag = s.tag := rfl
@[simp] theorem updUpd_mlk (f : Upd → Upd) (s : Block) : (updUpd f s).mlk = s.mlk := rfl
@[simp] theorem updUpd_dis (f : Upd → Upd) (s : Block) : (updUpd f s).dis = s.dis := rfl
@[simp] theorem updUpd_lsw (f : Upd → Upd) (s : Block) : (updUpd f s).lsw = s.lsw := rfl
@[simp] theorem updUpd_lnk (f : Upd → Upd) (s : Block) : (updUpd f s).lnk = s.lnk := rfl
@[simp] theorem updUpd_dbg (f : Upd → Upd) (s : Block) : (updUpd f s).dbg = s.dbg := rfl
@[simp] theorem updUpd_coms (f : Upd → Upd) (s : Block) : (updUpd f s).coms = s.coms := rfl
@[simp] theorem updUpd_free (f : Upd → Upd) (s : Block) : (updUpd f s).free = s.free := rfl

@[simp] theorem updBil_bil (f : Bil → Bil) (s : Block) : (updBil f s).bil = f s.bil := rfl
@[simp] theorem updBil_sys (f : Bil → Bil) (s : Block) : (updBil f s).sys = s.sys := rfl
@[simp] theorem updBil_pwr (f : Bil → Bil) (s : Block) : (updBil f s).pwr = s.pwr := rfl
@[simp] theorem updBil_hst (f : Bil → Bil) (s : Block) : (updBil f s).hst = s.hst := rfl
@[simp] theorem updBil_pin (f : Bil → Bil) (s : Block) : (updBil f s).pin = s.pin := rfl
@[simp] theorem updBil_shadows (f : Bil → Bil) (s : Block) : (updBil f s).shadows = s.shadows := rfl
@[simp] theorem updBil_mbx (f : Bil → Bil) (s : Block) : (updBil f s).mbx = s.mbx := rfl
@[simp] theorem updBil_evt (f : Bil → Bil) (s : Block) : (updBil f s).evt = s.evt := rfl
@[simp] theorem updBil_cfg (f : Bil → Bil) (s : Block) : (updBil f s).cfg = s.cfg := rfl
@[simp] theorem updBil_pln (f : Bil → Bil) (s : Block) : (updBil f s).pln = s.pln := rfl
@[simp] theorem updBil_asy (f : Bil → Bil) (s : Block) : (updBil f s).asy = s.asy := rfl
@[simp] theorem updBil_nrg (f : Bil → Bil) (s : Block) : (updBil f s).nrg = s.nrg := rfl
@[simp] theorem updBil_out (f : Bil → Bil) (s : Block) : (updBil f s).out = s.out := rfl
@[simp] theorem updBil_alc (f : Bil → Bil) (s : Block) : (updBil f s).alc = s.alc := rfl
@[simp] theorem updBil_rcm (f : Bil → Bil) (s : Block) : (updBil f s).rcm = s.rcm := rfl
@[simp] theorem updBil_saf (f : Bil → Bil) (s : Block) : (updBil f s).saf = s.saf := rfl
@[simp] theorem updBil_cru (f : Bil → Bil) (s : Block) : (updBil f s).cru = s.cru := rfl
@[simp] theorem updBil_cls (f : Bil → Bil) (s : Block) : (updBil f s).cls = s.cls := rfl
@[simp] theorem updBil_tag (f : Bil → Bil) (s : Block) : (updBil f s).tag = s.tag := rfl
@[simp] theorem updBil_mlk (f : Bil → Bil) (s : Block) : (updBil f s).mlk = s.mlk := rfl
@[simp] theorem updBil_dis (f : Bil → Bil) (s : Block) : (updBil f s).dis = s.dis := rfl
@[simp] theorem updBil_lsw (f : Bil → Bil) (s : Block) : (updBil f s).lsw = s.lsw := rfl
@[simp] theorem updBil_upd (f : Bil → Bil) (s : Block) : (updBil f s).upd = s.upd := rfl
@[simp] theorem updBil_lnk (f : Bil → Bil) (s : Block) : (updBil f s).lnk = s.lnk := rfl
@[simp] theorem updBil_dbg (f : Bil → Bil) (s : Block) : (updBil f s).dbg = s.dbg := rfl
@[simp] theorem updBil_coms (f : Bil → Bil) (s : Block) : (updBil f s).coms = s.coms := rfl
@[simp] theorem updBil_free (f : Bil → Bil) (s : Block) : (updBil f s).free = s.free := rfl

@[simp] theorem updCls_cls (f : Cls → Cls) (s : Block) : (updCls f s).cls = f s.cls := rfl
@[simp] theorem updCls_sys (f : Cls → Cls) (s : Block) : (updCls f s).sys = s.sys := rfl
@[simp] theorem updCls_pwr (f : Cls → Cls) (s : Block) : (updCls f s).pwr = s.pwr := rfl
@[simp] theorem updCls_hst (f : Cls → Cls) (s : Block) : (updCls f s).hst = s.hst := rfl
@[simp] theorem updCls_pin (f : Cls → Cls) (s : Block) : (updCls f s).pin = s.pin := rfl
@[simp] theorem updCls_shadows (f : Cls → Cls) (s : Block) : (updCls f s).shadows = s.shadows := rfl
@[simp] theorem updCls_mbx (f : Cls → Cls) (s : Block) : (updCls f s).mbx = s.mbx := rfl
@[simp] theorem updCls_evt (f : Cls → Cls) (s : Block) : (updCls f s).evt = s.evt := rfl
@[simp] theorem updCls_cfg (f : Cls → Cls) (s : Block) : (updCls f s).cfg = s.cfg := rfl
@[simp] theorem updCls_pln (f : Cls → Cls) (s : Block) : (updCls f s).pln = s.pln := rfl
@[simp] theorem updCls_asy (f : Cls → Cls) (s : Block) : (updCls f s).asy = s.asy := rfl
@[simp] theorem updCls_nrg (f : Cls → Cls) (s : Block) : (updCls f s).nrg = s.nrg := rfl
@[simp] theorem updCls_bil (f : Cls → Cls) (s : Block) : (updCls f s).bil = s.bil := rfl
@[simp] theorem updCls_out (f : Cls → Cls) (s : Block) : (updCls f s).out = s.out := rfl
@[simp] theorem updCls_alc (f : Cls → Cls) (s : Block) : (updCls f s).alc = s.alc := rfl
@[simp] theorem updCls_rcm (f : Cls → Cls) (s : Block) : (updCls f s).rcm = s.rcm := rfl
@[simp] theorem updCls_saf (f : Cls → Cls) (s : Block) : (updCls f s).saf = s.saf := rfl
@[simp] theorem updCls_cru (f : Cls → Cls) (s : Block) : (updCls f s).cru = s.cru := rfl
@[simp] theorem updCls_tag (f : Cls → Cls) (s : Block) : (updCls f s).tag = s.tag := rfl
@[simp] theorem updCls_mlk (f : Cls → Cls) (s : Block) : (updCls f s).mlk = s.mlk := rfl
@[simp] theorem updCls_dis (f : Cls → Cls) (s : Block) : (updCls f s).dis = s.dis := rfl
@[simp] theorem updCls_lsw (f : Cls → Cls) (s : Block) : (updCls f s).lsw = s.lsw := rfl
@[simp] theorem updCls_upd (f : Cls → Cls) (s : Block) : (updCls f s).upd = s.upd := rfl
@[simp] theorem updCls_lnk (f : Cls → Cls) (s : Block) : (updCls f s).lnk = s.lnk := rfl
@[simp] theorem updCls_dbg (f : Cls → Cls) (s : Block) : (updCls f s).dbg = s.dbg := rfl
@[simp] theorem updCls_coms (f : Cls → Cls) (s : Block) : (updCls f s).coms = s.coms := rfl
@[simp] theorem updCls_free (f : Cls → Cls) (s : Block) : (updCls f s).free = s.free := rfl

@[simp] theorem updDbg_dbg (f : Dbg → Dbg) (s : Block) : (updDbg f s).dbg = f s.dbg := rfl
@[simp] theorem updDbg_sys (f : Dbg → Dbg) (s : Block) : (updDbg f s).sys = s.sys := rfl
@[simp] theorem updDbg_pwr (f : Dbg → Dbg) (s : Block) : (updDbg f s).pwr = s.pwr := rfl
@[simp] theorem updDbg_hst (f : Dbg → Dbg) (s : Block) : (updDbg f s).hst = s.hst := rfl
@[simp] theorem updDbg_pin (f : Dbg → Dbg) (s : Block) : (updDbg f s).pin = s.pin := rfl
@[simp] theorem updDbg_shadows (f : Dbg → Dbg) (s : Block) : (updDbg f s).shadows = s.shadows := rfl
@[simp] theorem updDbg_mbx (f : Dbg → Dbg) (s : Block) : (updDbg f s).mbx = s.mbx := rfl
@[simp] theorem updDbg_evt (f : Dbg → Dbg) (s : Block) : (updDbg f s).evt = s.evt := rfl
@[simp] theorem updDbg_cfg (f : Dbg → Dbg) (s : Block) : (updDbg f s).cfg = s.cfg := rfl
@[simp] theorem updDbg_pln (f : Dbg → Dbg) (s : Block) : (updDbg f s).pln = s.pln := rfl
@[simp] theorem updDbg_asy (f : Dbg → Dbg) (s : Block) : (updDbg f s).asy = s.asy := rfl
@[simp] theorem updDbg_nrg (f : Dbg → Dbg) (s : Block) : (updDbg f s).nrg = s.nrg := rfl
@[simp] theorem updDbg_bil (f : Dbg → Dbg) (s : Block) : (updDbg f s).bil = s.bil := rfl
@[simp] theorem updDbg_out (f : Dbg → Dbg) (s : Block) : (updDbg f s).out = s.out := rfl
@[simp] theorem updDbg_alc (f : Dbg → Dbg) (s : Block) : (updDbg f s).alc = s.alc := rfl
@[simp] theorem updDbg_rcm (f : Dbg → Dbg) (s : Block) : (updDbg f s).rcm = s.rcm := rfl
@[simp] theorem updDbg_saf (f : Dbg → Dbg) (s : Block) : (updDbg f s).saf = s.saf := rfl
@[simp] theorem updDbg_cru (f : Dbg → Dbg) (s : Block) : (updDbg f s).cru = s.cru := rfl
@[simp] theorem updDbg_cls (f : Dbg → Dbg) (s : Block) : (updDbg f s).cls = s.cls := rfl
@[simp] theorem updDbg_tag (f : Dbg → Dbg) (s : Block) : (updDbg f s).tag = s.tag := rfl
@[simp] theorem updDbg_mlk (f : Dbg → Dbg) (s : Block) : (updDbg f s).mlk = s.mlk := rfl
@[simp] theorem updDbg_dis (f : Dbg → Dbg) (s : Block) : (updDbg f s).dis = s.dis := rfl
@[simp] theorem updDbg_lsw (f : Dbg → Dbg) (s : Block) : (updDbg f s).lsw = s.lsw := rfl
@[simp] theorem updDbg_upd (f : Dbg → Dbg) (s : Block) : (updDbg f s).upd = s.upd := rfl
@[simp] theorem updDbg_lnk (f : Dbg → Dbg) (s : Block) : (updDbg f s).lnk = s.lnk := rfl
@[simp] theorem updDbg_coms (f : Dbg → Dbg) (s : Block) : (updDbg f s).coms = s.coms := rfl
@[simp] theorem updDbg_free (f : Dbg → Dbg) (s : Block) : (updDbg f s).free = s.free := rfl

@[simp] theorem updHst_hst (f : Hst → Hst) (s : Block) : (updHst f s).hst = f s.hst := rfl
@[simp] theorem updHst_sys (f : Hst → Hst) (s : Block) : (updHst f s).sys = s.sys := rfl
@[simp] theorem updHst_pwr (f : Hst → Hst) (s : Block) : (updHst f s).pwr = s.pwr := rfl
@[simp] theorem updHst_pin (f : Hst → Hst) (s : Block) : (updHst f s).pin = s.pin := rfl
@[simp] theorem updHst_shadows (f : Hst → Hst) (s : Block) : (updHst f s).shadows = s.shadows := rfl
@[simp] theorem updHst_mbx (f : Hst → Hst) (s : Block) : (updHst f s).mbx = s.mbx := rfl
@[simp] theorem updHst_evt (f : Hst → Hst) (s : Block) : (updHst f s).evt = s.evt := rfl
@[simp] theorem updHst_cfg (f : Hst → Hst) (s : Block) : (updHst f s).cfg = s.cfg := rfl
@[simp] theorem updHst_pln (f : Hst → Hst) (s : Block) : (updHst f s).pln = s.pln := rfl
@[simp] theorem updHst_asy (f : Hst → Hst) (s : Block) : (updHst f s).asy = s.asy := rfl
@[simp] theorem updHst_nrg (f : Hst → Hst) (s : Block) : (updHst f s).nrg = s.nrg := rfl
@[simp] theorem updHst_bil (f : Hst → Hst) (s : Block) : (updHst f s).bil = s.bil := rfl
@[simp] theorem updHst_out (f : Hst → Hst) (s : Block) : (updHst f s).out = s.out := rfl
@[simp] theorem updHst_alc (f : Hst → Hst) (s : Block) : (updHst f s).alc = s.alc := rfl
@[simp] theorem updHst_rcm (f : Hst → Hst) (s : Block) : (updHst f s).rcm = s.rcm := rfl
@[simp] theorem updHst_saf (f : Hst → Hst) (s : Block) : (updHst f s).saf = s.saf := rfl
@[simp] theorem updHst_cru (f : Hst → Hst) (s : Block) : (updHst f s).cru = s.cru := rfl
@[simp] theorem updHst_cls (f : Hst → Hst) (s : Block) : (updHst f s).cls = s.cls := rfl
@[simp] theorem updHst_tag (f : Hst → Hst) (s : Block) : (updHst f s).tag = s.tag := rfl
@[simp] theorem updHst_mlk (f : Hst → Hst) (s : Block) : (updHst f s).mlk = s.mlk := rfl
@[simp] theorem updHst_dis (f : Hst → Hst) (s : Block) : (updHst f s).dis = s.dis := rfl
@[simp] theorem updHst_lsw (f : Hst → Hst) (s : Block) : (updHst f s).lsw = s.lsw := rfl
@[simp] theorem updHst_upd (f : Hst → Hst) (s : Block) : (updHst f s).upd = s.upd := rfl
@[simp] theorem updHst_lnk (f : Hst → Hst) (s : Block) : (updHst f s).lnk = s.lnk := rfl
@[simp] theorem updHst_dbg (f : Hst → Hst) (s : Block) : (updHst f s).dbg = s.dbg := rfl
@[simp] theorem updHst_coms (f : Hst → Hst) (s : Block) : (updHst f s).coms = s.coms := rfl
@[simp] theorem updHst_free (f : Hst → Hst) (s : Block) : (updHst f s).free = s.free := rfl

@[simp] theorem updLnk_lnk (f : Lnk → Lnk) (s : Block) : (updLnk f s).lnk = f s.lnk := rfl
@[simp] theorem updLnk_sys (f : Lnk → Lnk) (s : Block) : (updLnk f s).sys = s.sys := rfl
@[simp] theorem updLnk_pwr (f : Lnk → Lnk) (s : Block) : (updLnk f s).pwr = s.pwr := rfl
@[simp] theorem updLnk_hst (f : Lnk → Lnk) (s : Block) : (updLnk f s).hst = s.hst := rfl
@[simp] theorem updLnk_pin (f : Lnk → Lnk) (s : Block) : (updLnk f s).pin = s.pin := rfl
@[simp] theorem updLnk_shadows (f : Lnk → Lnk) (s : Block) : (updLnk f s).shadows = s.shadows := rfl
@[simp] theorem updLnk_mbx (f : Lnk → Lnk) (s : Block) : (updLnk f s).mbx = s.mbx := rfl
@[simp] theorem updLnk_evt (f : Lnk → Lnk) (s : Block) : (updLnk f s).evt = s.evt := rfl
@[simp] theorem updLnk_cfg (f : Lnk → Lnk) (s : Block) : (updLnk f s).cfg = s.cfg := rfl
@[simp] theorem updLnk_pln (f : Lnk → Lnk) (s : Block) : (updLnk f s).pln = s.pln := rfl
@[simp] theorem updLnk_asy (f : Lnk → Lnk) (s : Block) : (updLnk f s).asy = s.asy := rfl
@[simp] theorem updLnk_nrg (f : Lnk → Lnk) (s : Block) : (updLnk f s).nrg = s.nrg := rfl
@[simp] theorem updLnk_bil (f : Lnk → Lnk) (s : Block) : (updLnk f s).bil = s.bil := rfl
@[simp] theorem updLnk_out (f : Lnk → Lnk) (s : Block) : (updLnk f s).out = s.out := rfl
@[simp] theorem updLnk_alc (f : Lnk → Lnk) (s : Block) : (updLnk f s).alc = s.alc := rfl
@[simp] theorem updLnk_rcm (f : Lnk → Lnk) (s : Block) : (updLnk f s).rcm = s.rcm := rfl
@[simp] theorem updLnk_saf (f : Lnk → Lnk) (s : Block) : (updLnk f s).saf = s.saf := rfl
@[simp] theorem updLnk_cru (f : Lnk → Lnk) (s : Block) : (updLnk f s).cru = s.cru := rfl
@[simp] theorem updLnk_cls (f : Lnk → Lnk) (s : Block) : (updLnk f s).cls = s.cls := rfl
@[simp] theorem updLnk_tag (f : Lnk → Lnk) (s : Block) : (updLnk f s).tag = s.tag := rfl
@[simp] theorem updLnk_mlk (f : Lnk → Lnk) (s : Block) : (updLnk f s).mlk = s.mlk := rfl
@[simp] theorem updLnk_dis (f : Lnk → Lnk) (s : Block) : (updLnk f s).dis = s.dis := rfl
@[simp] theorem updLnk_lsw (f : Lnk → Lnk) (s : Block) : (updLnk f s).lsw = s.lsw := rfl
@[simp] theorem updLnk_upd (f : Lnk → Lnk) (s : Block) : (updLnk f s).upd = s.upd := rfl
@[simp] theorem updLnk_dbg (f : Lnk → Lnk) (s : Block) : (updLnk f s).dbg = s.dbg := rfl
@[simp] theorem updLnk_coms (f : Lnk → Lnk) (s : Block) : (updLnk f s).coms = s.coms := rfl
@[simp] theorem updLnk_free (f : Lnk → Lnk) (s : Block) : (updLnk f s).free = s.free := rfl

@[simp] theorem updMlk_mlk (f : Mlk → Mlk) (s : Block) : (updMlk f s).mlk = f s.mlk := rfl
@[simp] theorem updMlk_sys (f : Mlk → Mlk) (s : Block) : (updMlk f s).sys = s.sys := rfl
@[simp] theorem updMlk_pwr (f : Mlk → Mlk) (s : Block) : (updMlk f s).pwr = s.pwr := rfl
@[simp] theorem updMlk_hst (f : Mlk → Mlk) (s : Block) : (updMlk f s).hst = s.hst := rfl
@[simp] theorem updMlk_pin (f : Mlk → Mlk) (s : Block) : (updMlk f s).pin = s.pin := rfl
@[simp] theorem updMlk_shadows (f : Mlk → Mlk) (s : Block) : (updMlk f s).shadows = s.shadows := rfl
@[simp] theorem updMlk_mbx (f : Mlk → Mlk) (s : Block) : (updMlk f s).mbx = s.mbx := rfl
@[simp] theorem updMlk_evt (f : Mlk → Mlk) (s : Block) : (updMlk f s).evt = s.evt := rfl
@[simp] theorem updMlk_cfg (f : Mlk → Mlk) (s : Block) : (updMlk f s).cfg = s.cfg := rfl
@[simp] theorem updMlk_pln (f : Mlk → Mlk) (s : Block) : (updMlk f s).pln = s.pln := rfl
@[simp] theorem updMlk_asy (f : Mlk → Mlk) (s : Block) : (updMlk f s).asy = s.asy := rfl
@[simp] theorem updMlk_nrg (f : Mlk → Mlk) (s : Block) : (updMlk f s).nrg = s.nrg := rfl
@[simp] theorem updMlk_bil (f : Mlk → Mlk) (s : Block) : (updMlk f s).bil = s.bil := rfl
@[simp] theorem updMlk_out (f : Mlk → Mlk) (s : Block) : (updMlk f s).out = s.out := rfl
@[simp] theorem updMlk_alc (f : Mlk → Mlk) (s : Block) : (updMlk f s).alc = s.alc := rfl
@[simp] theorem updMlk_rcm (f : Mlk → Mlk) (s : Block) : (updMlk f s).rcm = s.rcm := rfl
@[simp] theorem updMlk_saf (f : Mlk → Mlk) (s : Block) : (updMlk f s).saf = s.saf := rfl
@[simp] theorem updMlk_cru (f : Mlk → Mlk) (s : Block) : (updMlk f s).cru = s.cru := rfl
@[simp] theorem updMlk_cls (f : Mlk → Mlk) (s : Block) : (updMlk f s).cls = s.cls := rfl
@[simp] theorem updMlk_tag (f : Mlk → Mlk) (s : Block) : (updMlk f s).tag = s.tag := rfl
@[simp] theorem updMlk_dis (f : Mlk → Mlk) (s : Block) : (updMlk f s).dis = s.dis := rfl
@[simp] theorem updMlk_lsw (f : Mlk → Mlk) (s : Block) : (updMlk f s).lsw = s.lsw := rfl
@[simp] theorem updMlk_upd (f : Mlk → Mlk) (s : Block) : (updMlk f s).upd = s.upd := rfl
@[simp] theorem updMlk_lnk (f : Mlk → Mlk) (s : Block) : (updMlk f s).lnk = s.lnk := rfl
@[simp] theorem updMlk_dbg (f : Mlk → Mlk) (s : Block) : (updMlk f s).dbg = s.dbg := rfl
@[simp] theorem updMlk_coms (f : Mlk → Mlk) (s : Block) : (updMlk f s).coms = s.coms := rfl
@[simp] theorem updMlk_free (f : Mlk → Mlk) (s : Block) : (updMlk f s).free = s.free := rfl

@[simp] theorem updCru_cru (f : Cru → Cru) (s : Block) : (updCru f s).cru = f s.cru := rfl
@[simp] theorem updCru_sys (f : Cru → Cru) (s : Block) : (updCru f s).sys = s.sys := rfl
@[simp] theorem updCru_pwr (f : Cru → Cru) (s : Block) : (updCru f s).pwr = s.pwr := rfl
@[simp] theorem updCru_hst (f : Cru → Cru) (s : Block) : (updCru f s).hst = s.hst := rfl
@[simp] theorem updCru_pin (f : Cru → Cru) (s : Block) : (updCru f s).pin = s.pin := rfl
@[simp] theorem updCru_shadows (f : Cru → Cru) (s : Block) : (updCru f s).shadows = s.shadows := rfl
@[simp] theorem updCru_mbx (f : Cru → Cru) (s : Block) : (updCru f s).mbx = s.mbx := rfl
@[simp] theorem updCru_evt (f : Cru → Cru) (s : Block) : (updCru f s).evt = s.evt := rfl
@[simp] theorem updCru_cfg (f : Cru → Cru) (s : Block) : (updCru f s).cfg = s.cfg := rfl
@[simp] theorem updCru_pln (f : Cru → Cru) (s : Block) : (updCru f s).pln = s.pln := rfl
@[simp] theorem updCru_asy (f : Cru → Cru) (s : Block) : (updCru f s).asy = s.asy := rfl
@[simp] theorem updCru_nrg (f : Cru → Cru) (s : Block) : (updCru f s).nrg = s.nrg := rfl
@[simp] theorem updCru_bil (f : Cru → Cru) (s : Block) : (updCru f s).bil = s.bil := rfl
@[simp] theorem updCru_out (f : Cru → Cru) (s : Block) : (updCru f s).out = s.out := rfl
@[simp] theorem updCru_alc (f : Cru → Cru) (s : Block) : (updCru f s).alc = s.alc := rfl
@[simp] theorem updCru_rcm (f : Cru → Cru) (s : Block) : (updCru f s).rcm = s.rcm := rfl
@[simp] theorem updCru_saf (f : Cru → Cru) (s : Block) : (updCru f s).saf = s.saf := rfl
@[simp] theorem updCru_cls (f : Cru → Cru) (s : Block) : (updCru f s).cls = s.cls := rfl
@[simp] theorem updCru_tag (f : Cru → Cru) (s : Block) : (updCru f s).tag = s.tag := rfl
@[simp] theorem updCru_mlk (f : Cru → Cru) (s : Block) : (updCru f s).mlk = s.mlk := rfl
@[simp] theorem updCru_dis (f : Cru → Cru) (s : Block) : (updCru f s).dis = s.dis := rfl
@[simp] theorem updCru_lsw (f : Cru → Cru) (s : Block) : (updCru f s).lsw = s.lsw := rfl
@[simp] theorem updCru_upd (f : Cru → Cru) (s : Block) : (updCru f s).upd = s.upd := rfl
@[simp] theorem updCru_lnk (f : Cru → Cru) (s : Block) : (updCru f s).lnk = s.lnk := rfl
@[simp] theorem updCru_dbg (f : Cru → Cru) (s : Block) : (updCru f s).dbg = s.dbg := rfl
@[simp] theorem updCru_coms (f : Cru → Cru) (s : Block) : (updCru f s).coms = s.coms := rfl
@[simp] theorem updCru_free (f : Cru → Cru) (s : Block) : (updCru f s).free = s.free := rfl

@[simp] theorem updTag_tag (f : Tag → Tag) (s : Block) : (updTag f s).tag = f s.tag := rfl
@[simp] theorem updTag_sys (f : Tag → Tag) (s : Block) : (updTag f s).sys = s.sys := rfl
@[simp] theorem updTag_pwr (f : Tag → Tag) (s : Block) : (updTag f s).pwr = s.pwr := rfl
@[simp] theorem updTag_hst (f : Tag → Tag) (s : Block) : (updTag f s).hst = s.hst := rfl
@[simp] theorem updTag_pin (f : Tag → Tag) (s : Block) : (updTag f s).pin = s.pin := rfl
@[simp] theorem updTag_shadows (f : Tag → Tag) (s : Block) : (updTag f s).shadows = s.shadows := rfl
@[simp] theorem updTag_mbx (f : Tag → Tag) (s : Block) : (updTag f s).mbx = s.mbx := rfl
@[simp] theorem updTag_evt (f : Tag → Tag) (s : Block) : (updTag f s).evt = s.evt := rfl
@[simp] theorem updTag_cfg (f : Tag → Tag) (s : Block) : (updTag f s).cfg = s.cfg := rfl
@[simp] theorem updTag_pln (f : Tag → Tag) (s : Block) : (updTag f s).pln = s.pln := rfl
@[simp] theorem updTag_asy (f : Tag → Tag) (s : Block) : (updTag f s).asy = s.asy := rfl
@[simp] theorem updTag_nrg (f : Tag → Tag) (s : Block) : (updTag f s).nrg = s.nrg := rfl
@[simp] theorem updTag_bil (f : Tag → Tag) (s : Block) : (updTag f s).bil = s.bil := rfl
@[simp] theorem updTag_out (f : Tag → Tag) (s : Block) : (updTag f s).out = s.out := rfl
@[simp] theorem updTag_alc (f : Tag → Tag) (s : Block) : (updTag f s).alc = s.alc := rfl
@[simp] theorem updTag_rcm (f : Tag → Tag) (s : Block) : (updTag f s).rcm = s.rcm := rfl
@[simp] theorem updTag_saf (f : Tag → Tag) (s : Block) : (updTag f s).saf = s.saf := rfl
@[simp] theorem updTag_cru (f : Tag → Tag) (s : Block) : (updTag f s).cru = s.cru := rfl
@[simp] theorem updTag_cls (f : Tag → Tag) (s : Block) : (updTag f s).cls = s.cls := rfl
@[simp] theorem updTag_mlk (f : Tag → Tag) (s : Block) : (updTag f s).mlk = s.mlk := rfl
@[simp] theorem updTag_dis (f : Tag → Tag) (s : Block) : (updTag f s).dis = s.dis := rfl
@[simp] theorem updTag_lsw (f : Tag → Tag) (s : Block) : (updTag f s).lsw = s.lsw := rfl
@[simp] theorem updTag_upd (f : Tag → Tag) (s : Block) : (updTag f s).upd = s.upd := rfl
@[simp] theorem updTag_lnk (f : Tag → Tag) (s : Block) : (updTag f s).lnk = s.lnk := rfl
@[simp] theorem updTag_dbg (f : Tag → Tag) (s : Block) : (updTag f s).dbg = s.dbg := rfl
@[simp] theorem updTag_coms (f : Tag → Tag) (s : Block) : (updTag f s).coms = s.coms := rfl
@[simp] theorem updTag_free (f : Tag → Tag) (s : Block) : (updTag f s).free = s.free := rfl

/-! ### Updates of one entry of a field -/

@[simp] theorem updAnt_sys (n : Nat) (f : Ant → Ant) (s : Block) : (updAnt n f s).sys = s.sys := rfl
@[simp] theorem updAnt_pwr (n : Nat) (f : Ant → Ant) (s : Block) : (updAnt n f s).pwr = s.pwr := rfl
@[simp] theorem updAnt_hst (n : Nat) (f : Ant → Ant) (s : Block) : (updAnt n f s).hst = s.hst := rfl
@[simp] theorem updAnt_pin (n : Nat) (f : Ant → Ant) (s : Block) : (updAnt n f s).pin = s.pin := rfl
@[simp] theorem updAnt_shadows (n : Nat) (f : Ant → Ant) (s : Block) : (updAnt n f s).shadows = s.shadows := rfl
@[simp] theorem updAnt_mbx (n : Nat) (f : Ant → Ant) (s : Block) : (updAnt n f s).mbx = s.mbx := rfl
@[simp] theorem updAnt_evt (n : Nat) (f : Ant → Ant) (s : Block) : (updAnt n f s).evt = s.evt := rfl
@[simp] theorem updAnt_cfg (n : Nat) (f : Ant → Ant) (s : Block) : (updAnt n f s).cfg = s.cfg := rfl
@[simp] theorem updAnt_pln (n : Nat) (f : Ant → Ant) (s : Block) : (updAnt n f s).pln = s.pln := rfl
@[simp] theorem updAnt_asy (n : Nat) (f : Ant → Ant) (s : Block) : (updAnt n f s).asy = s.asy := rfl
@[simp] theorem updAnt_nrg (n : Nat) (f : Ant → Ant) (s : Block) : (updAnt n f s).nrg = s.nrg := rfl
@[simp] theorem updAnt_bil (n : Nat) (f : Ant → Ant) (s : Block) : (updAnt n f s).bil = s.bil := rfl
@[simp] theorem updAnt_out (n : Nat) (f : Ant → Ant) (s : Block) : (updAnt n f s).out = s.out := rfl
@[simp] theorem updAnt_alc (n : Nat) (f : Ant → Ant) (s : Block) : (updAnt n f s).alc = s.alc := rfl
@[simp] theorem updAnt_rcm (n : Nat) (f : Ant → Ant) (s : Block) : (updAnt n f s).rcm = s.rcm := rfl
@[simp] theorem updAnt_saf (n : Nat) (f : Ant → Ant) (s : Block) : (updAnt n f s).saf = s.saf := rfl
@[simp] theorem updAnt_cru (n : Nat) (f : Ant → Ant) (s : Block) : (updAnt n f s).cru = s.cru := rfl
@[simp] theorem updAnt_tag (n : Nat) (f : Ant → Ant) (s : Block) : (updAnt n f s).tag = s.tag := rfl
@[simp] theorem updAnt_mlk (n : Nat) (f : Ant → Ant) (s : Block) : (updAnt n f s).mlk = s.mlk := rfl
@[simp] theorem updAnt_dis (n : Nat) (f : Ant → Ant) (s : Block) : (updAnt n f s).dis = s.dis := rfl
@[simp] theorem updAnt_lsw (n : Nat) (f : Ant → Ant) (s : Block) : (updAnt n f s).lsw = s.lsw := rfl
@[simp] theorem updAnt_upd (n : Nat) (f : Ant → Ant) (s : Block) : (updAnt n f s).upd = s.upd := rfl
@[simp] theorem updAnt_lnk (n : Nat) (f : Ant → Ant) (s : Block) : (updAnt n f s).lnk = s.lnk := rfl
@[simp] theorem updAnt_dbg (n : Nat) (f : Ant → Ant) (s : Block) : (updAnt n f s).dbg = s.dbg := rfl
@[simp] theorem updAnt_coms (n : Nat) (f : Ant → Ant) (s : Block) : (updAnt n f s).coms = s.coms := rfl
@[simp] theorem updAnt_free (n : Nat) (f : Ant → Ant) (s : Block) : (updAnt n f s).free = s.free := rfl

@[simp] theorem updPt_sys (n : Nat) (f : Point → Point) (s : Block) : (updPt n f s).sys = s.sys := rfl
@[simp] theorem updPt_pwr (n : Nat) (f : Point → Point) (s : Block) : (updPt n f s).pwr = s.pwr := rfl
@[simp] theorem updPt_hst (n : Nat) (f : Point → Point) (s : Block) : (updPt n f s).hst = s.hst := rfl
@[simp] theorem updPt_pin (n : Nat) (f : Point → Point) (s : Block) : (updPt n f s).pin = s.pin := rfl
@[simp] theorem updPt_shadows (n : Nat) (f : Point → Point) (s : Block) : (updPt n f s).shadows = s.shadows := rfl
@[simp] theorem updPt_mbx (n : Nat) (f : Point → Point) (s : Block) : (updPt n f s).mbx = s.mbx := rfl
@[simp] theorem updPt_evt (n : Nat) (f : Point → Point) (s : Block) : (updPt n f s).evt = s.evt := rfl
@[simp] theorem updPt_cfg (n : Nat) (f : Point → Point) (s : Block) : (updPt n f s).cfg = s.cfg := rfl
@[simp] theorem updPt_pln (n : Nat) (f : Point → Point) (s : Block) : (updPt n f s).pln = s.pln := rfl
@[simp] theorem updPt_nrg (n : Nat) (f : Point → Point) (s : Block) : (updPt n f s).nrg = s.nrg := rfl
@[simp] theorem updPt_bil (n : Nat) (f : Point → Point) (s : Block) : (updPt n f s).bil = s.bil := rfl
@[simp] theorem updPt_out (n : Nat) (f : Point → Point) (s : Block) : (updPt n f s).out = s.out := rfl
@[simp] theorem updPt_alc (n : Nat) (f : Point → Point) (s : Block) : (updPt n f s).alc = s.alc := rfl
@[simp] theorem updPt_rcm (n : Nat) (f : Point → Point) (s : Block) : (updPt n f s).rcm = s.rcm := rfl
@[simp] theorem updPt_saf (n : Nat) (f : Point → Point) (s : Block) : (updPt n f s).saf = s.saf := rfl
@[simp] theorem updPt_cru (n : Nat) (f : Point → Point) (s : Block) : (updPt n f s).cru = s.cru := rfl
@[simp] theorem updPt_cls (n : Nat) (f : Point → Point) (s : Block) : (updPt n f s).cls = s.cls := rfl
@[simp] theorem updPt_tag (n : Nat) (f : Point → Point) (s : Block) : (updPt n f s).tag = s.tag := rfl
@[simp] theorem updPt_mlk (n : Nat) (f : Point → Point) (s : Block) : (updPt n f s).mlk = s.mlk := rfl
@[simp] theorem updPt_dis (n : Nat) (f : Point → Point) (s : Block) : (updPt n f s).dis = s.dis := rfl
@[simp] theorem updPt_lsw (n : Nat) (f : Point → Point) (s : Block) : (updPt n f s).lsw = s.lsw := rfl
@[simp] theorem updPt_upd (n : Nat) (f : Point → Point) (s : Block) : (updPt n f s).upd = s.upd := rfl
@[simp] theorem updPt_lnk (n : Nat) (f : Point → Point) (s : Block) : (updPt n f s).lnk = s.lnk := rfl
@[simp] theorem updPt_dbg (n : Nat) (f : Point → Point) (s : Block) : (updPt n f s).dbg = s.dbg := rfl
@[simp] theorem updPt_coms (n : Nat) (f : Point → Point) (s : Block) : (updPt n f s).coms = s.coms := rfl
@[simp] theorem updPt_free (n : Nat) (f : Point → Point) (s : Block) : (updPt n f s).free = s.free := rfl

@[simp] theorem updPq_sys (n : Nat) (f : PointQ → PointQ) (s : Block) : (updPq n f s).sys = s.sys := rfl
@[simp] theorem updPq_pwr (n : Nat) (f : PointQ → PointQ) (s : Block) : (updPq n f s).pwr = s.pwr := rfl
@[simp] theorem updPq_hst (n : Nat) (f : PointQ → PointQ) (s : Block) : (updPq n f s).hst = s.hst := rfl
@[simp] theorem updPq_pin (n : Nat) (f : PointQ → PointQ) (s : Block) : (updPq n f s).pin = s.pin := rfl
@[simp] theorem updPq_shadows (n : Nat) (f : PointQ → PointQ) (s : Block) : (updPq n f s).shadows = s.shadows := rfl
@[simp] theorem updPq_mbx (n : Nat) (f : PointQ → PointQ) (s : Block) : (updPq n f s).mbx = s.mbx := rfl
@[simp] theorem updPq_evt (n : Nat) (f : PointQ → PointQ) (s : Block) : (updPq n f s).evt = s.evt := rfl
@[simp] theorem updPq_cfg (n : Nat) (f : PointQ → PointQ) (s : Block) : (updPq n f s).cfg = s.cfg := rfl
@[simp] theorem updPq_pln (n : Nat) (f : PointQ → PointQ) (s : Block) : (updPq n f s).pln = s.pln := rfl
@[simp] theorem updPq_asy (n : Nat) (f : PointQ → PointQ) (s : Block) : (updPq n f s).asy = s.asy := rfl
@[simp] theorem updPq_bil (n : Nat) (f : PointQ → PointQ) (s : Block) : (updPq n f s).bil = s.bil := rfl
@[simp] theorem updPq_out (n : Nat) (f : PointQ → PointQ) (s : Block) : (updPq n f s).out = s.out := rfl
@[simp] theorem updPq_alc (n : Nat) (f : PointQ → PointQ) (s : Block) : (updPq n f s).alc = s.alc := rfl
@[simp] theorem updPq_rcm (n : Nat) (f : PointQ → PointQ) (s : Block) : (updPq n f s).rcm = s.rcm := rfl
@[simp] theorem updPq_saf (n : Nat) (f : PointQ → PointQ) (s : Block) : (updPq n f s).saf = s.saf := rfl
@[simp] theorem updPq_cru (n : Nat) (f : PointQ → PointQ) (s : Block) : (updPq n f s).cru = s.cru := rfl
@[simp] theorem updPq_cls (n : Nat) (f : PointQ → PointQ) (s : Block) : (updPq n f s).cls = s.cls := rfl
@[simp] theorem updPq_tag (n : Nat) (f : PointQ → PointQ) (s : Block) : (updPq n f s).tag = s.tag := rfl
@[simp] theorem updPq_mlk (n : Nat) (f : PointQ → PointQ) (s : Block) : (updPq n f s).mlk = s.mlk := rfl
@[simp] theorem updPq_dis (n : Nat) (f : PointQ → PointQ) (s : Block) : (updPq n f s).dis = s.dis := rfl
@[simp] theorem updPq_lsw (n : Nat) (f : PointQ → PointQ) (s : Block) : (updPq n f s).lsw = s.lsw := rfl
@[simp] theorem updPq_upd (n : Nat) (f : PointQ → PointQ) (s : Block) : (updPq n f s).upd = s.upd := rfl
@[simp] theorem updPq_lnk (n : Nat) (f : PointQ → PointQ) (s : Block) : (updPq n f s).lnk = s.lnk := rfl
@[simp] theorem updPq_dbg (n : Nat) (f : PointQ → PointQ) (s : Block) : (updPq n f s).dbg = s.dbg := rfl
@[simp] theorem updPq_coms (n : Nat) (f : PointQ → PointQ) (s : Block) : (updPq n f s).coms = s.coms := rfl
@[simp] theorem updPq_free (n : Nat) (f : PointQ → PointQ) (s : Block) : (updPq n f s).free = s.free := rfl

@[simp] theorem updPls_sys (n : Nat) (f : Pulse → Pulse) (s : Block) : (updPls n f s).sys = s.sys := rfl
@[simp] theorem updPls_pwr (n : Nat) (f : Pulse → Pulse) (s : Block) : (updPls n f s).pwr = s.pwr := rfl
@[simp] theorem updPls_hst (n : Nat) (f : Pulse → Pulse) (s : Block) : (updPls n f s).hst = s.hst := rfl
@[simp] theorem updPls_pin (n : Nat) (f : Pulse → Pulse) (s : Block) : (updPls n f s).pin = s.pin := rfl
@[simp] theorem updPls_shadows (n : Nat) (f : Pulse → Pulse) (s : Block) : (updPls n f s).shadows = s.shadows := rfl
@[simp] theorem updPls_mbx (n : Nat) (f : Pulse → Pulse) (s : Block) : (updPls n f s).mbx = s.mbx := rfl
@[simp] theorem updPls_evt (n : Nat) (f : Pulse → Pulse) (s : Block) : (updPls n f s).evt = s.evt := rfl
@[simp] theorem updPls_cfg (n : Nat) (f : Pulse → Pulse) (s : Block) : (updPls n f s).cfg = s.cfg := rfl
@[simp] theorem updPls_pln (n : Nat) (f : Pulse → Pulse) (s : Block) : (updPls n f s).pln = s.pln := rfl
@[simp] theorem updPls_asy (n : Nat) (f : Pulse → Pulse) (s : Block) : (updPls n f s).asy = s.asy := rfl
@[simp] theorem updPls_bil (n : Nat) (f : Pulse → Pulse) (s : Block) : (updPls n f s).bil = s.bil := rfl
@[simp] theorem updPls_out (n : Nat) (f : Pulse → Pulse) (s : Block) : (updPls n f s).out = s.out := rfl
@[simp] theorem updPls_alc (n : Nat) (f : Pulse → Pulse) (s : Block) : (updPls n f s).alc = s.alc := rfl
@[simp] theorem updPls_rcm (n : Nat) (f : Pulse → Pulse) (s : Block) : (updPls n f s).rcm = s.rcm := rfl
@[simp] theorem updPls_saf (n : Nat) (f : Pulse → Pulse) (s : Block) : (updPls n f s).saf = s.saf := rfl
@[simp] theorem updPls_cru (n : Nat) (f : Pulse → Pulse) (s : Block) : (updPls n f s).cru = s.cru := rfl
@[simp] theorem updPls_cls (n : Nat) (f : Pulse → Pulse) (s : Block) : (updPls n f s).cls = s.cls := rfl
@[simp] theorem updPls_tag (n : Nat) (f : Pulse → Pulse) (s : Block) : (updPls n f s).tag = s.tag := rfl
@[simp] theorem updPls_mlk (n : Nat) (f : Pulse → Pulse) (s : Block) : (updPls n f s).mlk = s.mlk := rfl
@[simp] theorem updPls_dis (n : Nat) (f : Pulse → Pulse) (s : Block) : (updPls n f s).dis = s.dis := rfl
@[simp] theorem updPls_lsw (n : Nat) (f : Pulse → Pulse) (s : Block) : (updPls n f s).lsw = s.lsw := rfl
@[simp] theorem updPls_upd (n : Nat) (f : Pulse → Pulse) (s : Block) : (updPls n f s).upd = s.upd := rfl
@[simp] theorem updPls_lnk (n : Nat) (f : Pulse → Pulse) (s : Block) : (updPls n f s).lnk = s.lnk := rfl
@[simp] theorem updPls_dbg (n : Nat) (f : Pulse → Pulse) (s : Block) : (updPls n f s).dbg = s.dbg := rfl
@[simp] theorem updPls_coms (n : Nat) (f : Pulse → Pulse) (s : Block) : (updPls n f s).coms = s.coms := rfl
@[simp] theorem updPls_free (n : Nat) (f : Pulse → Pulse) (s : Block) : (updPls n f s).free = s.free := rfl

@[simp] theorem updGroup_sys (n : Nat) (f : EvtGroup → EvtGroup) (s : Block) : (updGroup n f s).sys = s.sys := rfl
@[simp] theorem updGroup_pwr (n : Nat) (f : EvtGroup → EvtGroup) (s : Block) : (updGroup n f s).pwr = s.pwr := rfl
@[simp] theorem updGroup_hst (n : Nat) (f : EvtGroup → EvtGroup) (s : Block) : (updGroup n f s).hst = s.hst := rfl
@[simp] theorem updGroup_pin (n : Nat) (f : EvtGroup → EvtGroup) (s : Block) : (updGroup n f s).pin = s.pin := rfl
@[simp] theorem updGroup_shadows (n : Nat) (f : EvtGroup → EvtGroup) (s : Block) : (updGroup n f s).shadows = s.shadows := rfl
@[simp] theorem updGroup_mbx (n : Nat) (f : EvtGroup → EvtGroup) (s : Block) : (updGroup n f s).mbx = s.mbx := rfl
@[simp] theorem updGroup_cfg (n : Nat) (f : EvtGroup → EvtGroup) (s : Block) : (updGroup n f s).cfg = s.cfg := rfl
@[simp] theorem updGroup_pln (n : Nat) (f : EvtGroup → EvtGroup) (s : Block) : (updGroup n f s).pln = s.pln := rfl
@[simp] theorem updGroup_asy (n : Nat) (f : EvtGroup → EvtGroup) (s : Block) : (updGroup n f s).asy = s.asy := rfl
@[simp] theorem updGroup_nrg (n : Nat) (f : EvtGroup → EvtGroup) (s : Block) : (updGroup n f s).nrg = s.nrg := rfl
@[simp] theorem updGroup_bil (n : Nat) (f : EvtGroup → EvtGroup) (s : Block) : (updGroup n f s).bil = s.bil := rfl
@[simp] theorem updGroup_out (n : Nat) (f : EvtGroup → EvtGroup) (s : Block) : (updGroup n f s).out = s.out := rfl
@[simp] theorem updGroup_alc (n : Nat) (f : EvtGroup → EvtGroup) (s : Block) : (updGroup n f s).alc = s.alc := rfl
@[simp] theorem updGroup_rcm (n : Nat) (f : EvtGroup → EvtGroup) (s : Block) : (updGroup n f s).rcm = s.rcm := rfl
@[simp] theorem updGroup_saf (n : Nat) (f : EvtGroup → EvtGroup) (s : Block) : (updGroup n f s).saf = s.saf := rfl
@[simp] theorem updGroup_cru (n : Nat) (f : EvtGroup → EvtGroup) (s : Block) : (updGroup n f s).cru = s.cru := rfl
@[simp] theorem updGroup_cls (n : Nat) (f : EvtGroup → EvtGroup) (s : Block) : (updGroup n f s).cls = s.cls := rfl
@[simp] theorem updGroup_tag (n : Nat) (f : EvtGroup → EvtGroup) (s : Block) : (updGroup n f s).tag = s.tag := rfl
@[simp] theorem updGroup_mlk (n : Nat) (f : EvtGroup → EvtGroup) (s : Block) : (updGroup n f s).mlk = s.mlk := rfl
@[simp] theorem updGroup_dis (n : Nat) (f : EvtGroup → EvtGroup) (s : Block) : (updGroup n f s).dis = s.dis := rfl
@[simp] theorem updGroup_lsw (n : Nat) (f : EvtGroup → EvtGroup) (s : Block) : (updGroup n f s).lsw = s.lsw := rfl
@[simp] theorem updGroup_upd (n : Nat) (f : EvtGroup → EvtGroup) (s : Block) : (updGroup n f s).upd = s.upd := rfl
@[simp] theorem updGroup_lnk (n : Nat) (f : EvtGroup → EvtGroup) (s : Block) : (updGroup n f s).lnk = s.lnk := rfl
@[simp] theorem updGroup_dbg (n : Nat) (f : EvtGroup → EvtGroup) (s : Block) : (updGroup n f s).dbg = s.dbg := rfl
@[simp] theorem updGroup_coms (n : Nat) (f : EvtGroup → EvtGroup) (s : Block) : (updGroup n f s).coms = s.coms := rfl
@[simp] theorem updGroup_free (n : Nat) (f : EvtGroup → EvtGroup) (s : Block) : (updGroup n f s).free = s.free := rfl

@[simp] theorem updSer_sys (n : Nat) (f : Serial → Serial) (s : Block) : (updSer n f s).sys = s.sys := rfl
@[simp] theorem updSer_pwr (n : Nat) (f : Serial → Serial) (s : Block) : (updSer n f s).pwr = s.pwr := rfl
@[simp] theorem updSer_hst (n : Nat) (f : Serial → Serial) (s : Block) : (updSer n f s).hst = s.hst := rfl
@[simp] theorem updSer_pin (n : Nat) (f : Serial → Serial) (s : Block) : (updSer n f s).pin = s.pin := rfl
@[simp] theorem updSer_shadows (n : Nat) (f : Serial → Serial) (s : Block) : (updSer n f s).shadows = s.shadows := rfl
@[simp] theorem updSer_mbx (n : Nat) (f : Serial → Serial) (s : Block) : (updSer n f s).mbx = s.mbx := rfl
@[simp] theorem updSer_evt (n : Nat) (f : Serial → Serial) (s : Block) : (updSer n f s).evt = s.evt := rfl
@[simp] theorem updSer_cfg (n : Nat) (f : Serial → Serial) (s : Block) : (updSer n f s).cfg = s.cfg := rfl
@[simp] theorem updSer_pln (n : Nat) (f : Serial → Serial) (s : Block) : (updSer n f s).pln = s.pln := rfl
@[simp] theorem updSer_asy (n : Nat) (f : Serial → Serial) (s : Block) : (updSer n f s).asy = s.asy := rfl
@[simp] theorem updSer_nrg (n : Nat) (f : Serial → Serial) (s : Block) : (updSer n f s).nrg = s.nrg := rfl
@[simp] theorem updSer_bil (n : Nat) (f : Serial → Serial) (s : Block) : (updSer n f s).bil = s.bil := rfl
@[simp] theorem updSer_out (n : Nat) (f : Serial → Serial) (s : Block) : (updSer n f s).out = s.out := rfl
@[simp] theorem updSer_alc (n : Nat) (f : Serial → Serial) (s : Block) : (updSer n f s).alc = s.alc := rfl
@[simp] theorem updSer_rcm (n : Nat) (f : Serial → Serial) (s : Block) : (updSer n f s).rcm = s.rcm := rfl
@[simp] theorem updSer_saf (n : Nat) (f : Serial → Serial) (s : Block) : (updSer n f s).saf = s.saf := rfl
@[simp] theorem updSer_cru (n : Nat) (f : Serial → Serial) (s : Block) : (updSer n f s).cru = s.cru := rfl
@[simp] theorem updSer_cls (n : Nat) (f : Serial → Serial) (s : Block) : (updSer n f s).cls = s.cls := rfl
@[simp] theorem updSer_tag (n : Nat) (f : Serial → Serial) (s : Block) : (updSer n f s).tag = s.tag := rfl
@[simp] theorem updSer_mlk (n : Nat) (f : Serial → Serial) (s : Block) : (updSer n f s).mlk = s.mlk := rfl
@[simp] theorem updSer_dis (n : Nat) (f : Serial → Serial) (s : Block) : (updSer n f s).dis = s.dis := rfl
@[simp] theorem updSer_lsw (n : Nat) (f : Serial → Serial) (s : Block) : (updSer n f s).lsw = s.lsw := rfl
@[simp] theorem updSer_upd (n : Nat) (f : Serial → Serial) (s : Block) : (updSer n f s).upd = s.upd := rfl
@[simp] theorem updSer_dbg (n : Nat) (f : Serial → Serial) (s : Block) : (updSer n f s).dbg = s.dbg := rfl
@[simp] theorem updSer_coms (n : Nat) (f : Serial → Serial) (s : Block) : (updSer n f s).coms = s.coms := rfl
@[simp] theorem updSer_free (n : Nat) (f : Serial → Serial) (s : Block) : (updSer n f s).free = s.free := rfl

@[simp] theorem updLs_sys (n : Nat) (f : LsChan → LsChan) (s : Block) : (updLs n f s).sys = s.sys := rfl
@[simp] theorem updLs_pwr (n : Nat) (f : LsChan → LsChan) (s : Block) : (updLs n f s).pwr = s.pwr := rfl
@[simp] theorem updLs_hst (n : Nat) (f : LsChan → LsChan) (s : Block) : (updLs n f s).hst = s.hst := rfl
@[simp] theorem updLs_pin (n : Nat) (f : LsChan → LsChan) (s : Block) : (updLs n f s).pin = s.pin := rfl
@[simp] theorem updLs_shadows (n : Nat) (f : LsChan → LsChan) (s : Block) : (updLs n f s).shadows = s.shadows := rfl
@[simp] theorem updLs_mbx (n : Nat) (f : LsChan → LsChan) (s : Block) : (updLs n f s).mbx = s.mbx := rfl
@[simp] theorem updLs_evt (n : Nat) (f : LsChan → LsChan) (s : Block) : (updLs n f s).evt = s.evt := rfl
@[simp] theorem updLs_cfg (n : Nat) (f : LsChan → LsChan) (s : Block) : (updLs n f s).cfg = s.cfg := rfl
@[simp] theorem updLs_pln (n : Nat) (f : LsChan → LsChan) (s : Block) : (updLs n f s).pln = s.pln := rfl
@[simp] theorem updLs_asy (n : Nat) (f : LsChan → LsChan) (s : Block) : (updLs n f s).asy = s.asy := rfl
@[simp] theorem updLs_nrg (n : Nat) (f : LsChan → LsChan) (s : Block) : (updLs n f s).nrg = s.nrg := rfl
@[simp] theorem updLs_bil (n : Nat) (f : LsChan → LsChan) (s : Block) : (updLs n f s).bil = s.bil := rfl
@[simp] theorem updLs_out (n : Nat) (f : LsChan → LsChan) (s : Block) : (updLs n f s).out = s.out := rfl
@[simp] theorem updLs_alc (n : Nat) (f : LsChan → LsChan) (s : Block) : (updLs n f s).alc = s.alc := rfl
@[simp] theorem updLs_rcm (n : Nat) (f : LsChan → LsChan) (s : Block) : (updLs n f s).rcm = s.rcm := rfl
@[simp] theorem updLs_saf (n : Nat) (f : LsChan → LsChan) (s : Block) : (updLs n f s).saf = s.saf := rfl
@[simp] theorem updLs_cru (n : Nat) (f : LsChan → LsChan) (s : Block) : (updLs n f s).cru = s.cru := rfl
@[simp] theorem updLs_cls (n : Nat) (f : LsChan → LsChan) (s : Block) : (updLs n f s).cls = s.cls := rfl
@[simp] theorem updLs_tag (n : Nat) (f : LsChan → LsChan) (s : Block) : (updLs n f s).tag = s.tag := rfl
@[simp] theorem updLs_mlk (n : Nat) (f : LsChan → LsChan) (s : Block) : (updLs n f s).mlk = s.mlk := rfl
@[simp] theorem updLs_dis (n : Nat) (f : LsChan → LsChan) (s : Block) : (updLs n f s).dis = s.dis := rfl
@[simp] theorem updLs_upd (n : Nat) (f : LsChan → LsChan) (s : Block) : (updLs n f s).upd = s.upd := rfl
@[simp] theorem updLs_lnk (n : Nat) (f : LsChan → LsChan) (s : Block) : (updLs n f s).lnk = s.lnk := rfl
@[simp] theorem updLs_dbg (n : Nat) (f : LsChan → LsChan) (s : Block) : (updLs n f s).dbg = s.dbg := rfl
@[simp] theorem updLs_coms (n : Nat) (f : LsChan → LsChan) (s : Block) : (updLs n f s).coms = s.coms := rfl
@[simp] theorem updLs_free (n : Nat) (f : LsChan → LsChan) (s : Block) : (updLs n f s).free = s.free := rfl

@[simp] theorem updSrc_sys (n : Nat) (f : TempSrc → TempSrc) (s : Block) : (updSrc n f s).sys = s.sys := rfl
@[simp] theorem updSrc_pwr (n : Nat) (f : TempSrc → TempSrc) (s : Block) : (updSrc n f s).pwr = s.pwr := rfl
@[simp] theorem updSrc_hst (n : Nat) (f : TempSrc → TempSrc) (s : Block) : (updSrc n f s).hst = s.hst := rfl
@[simp] theorem updSrc_pin (n : Nat) (f : TempSrc → TempSrc) (s : Block) : (updSrc n f s).pin = s.pin := rfl
@[simp] theorem updSrc_shadows (n : Nat) (f : TempSrc → TempSrc) (s : Block) : (updSrc n f s).shadows = s.shadows := rfl
@[simp] theorem updSrc_mbx (n : Nat) (f : TempSrc → TempSrc) (s : Block) : (updSrc n f s).mbx = s.mbx := rfl
@[simp] theorem updSrc_evt (n : Nat) (f : TempSrc → TempSrc) (s : Block) : (updSrc n f s).evt = s.evt := rfl
@[simp] theorem updSrc_cfg (n : Nat) (f : TempSrc → TempSrc) (s : Block) : (updSrc n f s).cfg = s.cfg := rfl
@[simp] theorem updSrc_pln (n : Nat) (f : TempSrc → TempSrc) (s : Block) : (updSrc n f s).pln = s.pln := rfl
@[simp] theorem updSrc_nrg (n : Nat) (f : TempSrc → TempSrc) (s : Block) : (updSrc n f s).nrg = s.nrg := rfl
@[simp] theorem updSrc_bil (n : Nat) (f : TempSrc → TempSrc) (s : Block) : (updSrc n f s).bil = s.bil := rfl
@[simp] theorem updSrc_out (n : Nat) (f : TempSrc → TempSrc) (s : Block) : (updSrc n f s).out = s.out := rfl
@[simp] theorem updSrc_alc (n : Nat) (f : TempSrc → TempSrc) (s : Block) : (updSrc n f s).alc = s.alc := rfl
@[simp] theorem updSrc_rcm (n : Nat) (f : TempSrc → TempSrc) (s : Block) : (updSrc n f s).rcm = s.rcm := rfl
@[simp] theorem updSrc_saf (n : Nat) (f : TempSrc → TempSrc) (s : Block) : (updSrc n f s).saf = s.saf := rfl
@[simp] theorem updSrc_cru (n : Nat) (f : TempSrc → TempSrc) (s : Block) : (updSrc n f s).cru = s.cru := rfl
@[simp] theorem updSrc_cls (n : Nat) (f : TempSrc → TempSrc) (s : Block) : (updSrc n f s).cls = s.cls := rfl
@[simp] theorem updSrc_tag (n : Nat) (f : TempSrc → TempSrc) (s : Block) : (updSrc n f s).tag = s.tag := rfl
@[simp] theorem updSrc_mlk (n : Nat) (f : TempSrc → TempSrc) (s : Block) : (updSrc n f s).mlk = s.mlk := rfl
@[simp] theorem updSrc_dis (n : Nat) (f : TempSrc → TempSrc) (s : Block) : (updSrc n f s).dis = s.dis := rfl
@[simp] theorem updSrc_lsw (n : Nat) (f : TempSrc → TempSrc) (s : Block) : (updSrc n f s).lsw = s.lsw := rfl
@[simp] theorem updSrc_upd (n : Nat) (f : TempSrc → TempSrc) (s : Block) : (updSrc n f s).upd = s.upd := rfl
@[simp] theorem updSrc_lnk (n : Nat) (f : TempSrc → TempSrc) (s : Block) : (updSrc n f s).lnk = s.lnk := rfl
@[simp] theorem updSrc_dbg (n : Nat) (f : TempSrc → TempSrc) (s : Block) : (updSrc n f s).dbg = s.dbg := rfl
@[simp] theorem updSrc_coms (n : Nat) (f : TempSrc → TempSrc) (s : Block) : (updSrc n f s).coms = s.coms := rfl
@[simp] theorem updSrc_free (n : Nat) (f : TempSrc → TempSrc) (s : Block) : (updSrc n f s).free = s.free := rfl

@[simp] theorem updBox_sys (n : Nat) (f : Mailbox → Mailbox) (s : Block) : (updBox n f s).sys = s.sys := rfl
@[simp] theorem updBox_pwr (n : Nat) (f : Mailbox → Mailbox) (s : Block) : (updBox n f s).pwr = s.pwr := rfl
@[simp] theorem updBox_hst (n : Nat) (f : Mailbox → Mailbox) (s : Block) : (updBox n f s).hst = s.hst := rfl
@[simp] theorem updBox_pin (n : Nat) (f : Mailbox → Mailbox) (s : Block) : (updBox n f s).pin = s.pin := rfl
@[simp] theorem updBox_shadows (n : Nat) (f : Mailbox → Mailbox) (s : Block) : (updBox n f s).shadows = s.shadows := rfl
@[simp] theorem updBox_evt (n : Nat) (f : Mailbox → Mailbox) (s : Block) : (updBox n f s).evt = s.evt := rfl
@[simp] theorem updBox_cfg (n : Nat) (f : Mailbox → Mailbox) (s : Block) : (updBox n f s).cfg = s.cfg := rfl
@[simp] theorem updBox_pln (n : Nat) (f : Mailbox → Mailbox) (s : Block) : (updBox n f s).pln = s.pln := rfl
@[simp] theorem updBox_asy (n : Nat) (f : Mailbox → Mailbox) (s : Block) : (updBox n f s).asy = s.asy := rfl
@[simp] theorem updBox_nrg (n : Nat) (f : Mailbox → Mailbox) (s : Block) : (updBox n f s).nrg = s.nrg := rfl
@[simp] theorem updBox_bil (n : Nat) (f : Mailbox → Mailbox) (s : Block) : (updBox n f s).bil = s.bil := rfl
@[simp] theorem updBox_out (n : Nat) (f : Mailbox → Mailbox) (s : Block) : (updBox n f s).out = s.out := rfl
@[simp] theorem updBox_alc (n : Nat) (f : Mailbox → Mailbox) (s : Block) : (updBox n f s).alc = s.alc := rfl
@[simp] theorem updBox_rcm (n : Nat) (f : Mailbox → Mailbox) (s : Block) : (updBox n f s).rcm = s.rcm := rfl
@[simp] theorem updBox_saf (n : Nat) (f : Mailbox → Mailbox) (s : Block) : (updBox n f s).saf = s.saf := rfl
@[simp] theorem updBox_cru (n : Nat) (f : Mailbox → Mailbox) (s : Block) : (updBox n f s).cru = s.cru := rfl
@[simp] theorem updBox_cls (n : Nat) (f : Mailbox → Mailbox) (s : Block) : (updBox n f s).cls = s.cls := rfl
@[simp] theorem updBox_tag (n : Nat) (f : Mailbox → Mailbox) (s : Block) : (updBox n f s).tag = s.tag := rfl
@[simp] theorem updBox_mlk (n : Nat) (f : Mailbox → Mailbox) (s : Block) : (updBox n f s).mlk = s.mlk := rfl
@[simp] theorem updBox_dis (n : Nat) (f : Mailbox → Mailbox) (s : Block) : (updBox n f s).dis = s.dis := rfl
@[simp] theorem updBox_lsw (n : Nat) (f : Mailbox → Mailbox) (s : Block) : (updBox n f s).lsw = s.lsw := rfl
@[simp] theorem updBox_upd (n : Nat) (f : Mailbox → Mailbox) (s : Block) : (updBox n f s).upd = s.upd := rfl
@[simp] theorem updBox_lnk (n : Nat) (f : Mailbox → Mailbox) (s : Block) : (updBox n f s).lnk = s.lnk := rfl
@[simp] theorem updBox_dbg (n : Nat) (f : Mailbox → Mailbox) (s : Block) : (updBox n f s).dbg = s.dbg := rfl
@[simp] theorem updBox_coms (n : Nat) (f : Mailbox → Mailbox) (s : Block) : (updBox n f s).coms = s.coms := rfl
@[simp] theorem updBox_free (n : Nat) (f : Mailbox → Mailbox) (s : Block) : (updBox n f s).free = s.free := rfl

@[simp] theorem updLock_sys (n : Nat) (f : Lock → Lock) (s : Block) : (updLock n f s).sys = s.sys := rfl
@[simp] theorem updLock_pwr (n : Nat) (f : Lock → Lock) (s : Block) : (updLock n f s).pwr = s.pwr := rfl
@[simp] theorem updLock_hst (n : Nat) (f : Lock → Lock) (s : Block) : (updLock n f s).hst = s.hst := rfl
@[simp] theorem updLock_pin (n : Nat) (f : Lock → Lock) (s : Block) : (updLock n f s).pin = s.pin := rfl
@[simp] theorem updLock_shadows (n : Nat) (f : Lock → Lock) (s : Block) : (updLock n f s).shadows = s.shadows := rfl
@[simp] theorem updLock_mbx (n : Nat) (f : Lock → Lock) (s : Block) : (updLock n f s).mbx = s.mbx := rfl
@[simp] theorem updLock_evt (n : Nat) (f : Lock → Lock) (s : Block) : (updLock n f s).evt = s.evt := rfl
@[simp] theorem updLock_cfg (n : Nat) (f : Lock → Lock) (s : Block) : (updLock n f s).cfg = s.cfg := rfl
@[simp] theorem updLock_asy (n : Nat) (f : Lock → Lock) (s : Block) : (updLock n f s).asy = s.asy := rfl
@[simp] theorem updLock_nrg (n : Nat) (f : Lock → Lock) (s : Block) : (updLock n f s).nrg = s.nrg := rfl
@[simp] theorem updLock_bil (n : Nat) (f : Lock → Lock) (s : Block) : (updLock n f s).bil = s.bil := rfl
@[simp] theorem updLock_out (n : Nat) (f : Lock → Lock) (s : Block) : (updLock n f s).out = s.out := rfl
@[simp] theorem updLock_alc (n : Nat) (f : Lock → Lock) (s : Block) : (updLock n f s).alc = s.alc := rfl
@[simp] theorem updLock_rcm (n : Nat) (f : Lock → Lock) (s : Block) : (updLock n f s).rcm = s.rcm := rfl
@[simp] theorem updLock_saf (n : Nat) (f : Lock → Lock) (s : Block) : (updLock n f s).saf = s.saf := rfl
@[simp] theorem updLock_cru (n : Nat) (f : Lock → Lock) (s : Block) : (updLock n f s).cru = s.cru := rfl
@[simp] theorem updLock_cls (n : Nat) (f : Lock → Lock) (s : Block) : (updLock n f s).cls = s.cls := rfl
@[simp] theorem updLock_tag (n : Nat) (f : Lock → Lock) (s : Block) : (updLock n f s).tag = s.tag := rfl
@[simp] theorem updLock_mlk (n : Nat) (f : Lock → Lock) (s : Block) : (updLock n f s).mlk = s.mlk := rfl
@[simp] theorem updLock_dis (n : Nat) (f : Lock → Lock) (s : Block) : (updLock n f s).dis = s.dis := rfl
@[simp] theorem updLock_lsw (n : Nat) (f : Lock → Lock) (s : Block) : (updLock n f s).lsw = s.lsw := rfl
@[simp] theorem updLock_upd (n : Nat) (f : Lock → Lock) (s : Block) : (updLock n f s).upd = s.upd := rfl
@[simp] theorem updLock_lnk (n : Nat) (f : Lock → Lock) (s : Block) : (updLock n f s).lnk = s.lnk := rfl
@[simp] theorem updLock_dbg (n : Nat) (f : Lock → Lock) (s : Block) : (updLock n f s).dbg = s.dbg := rfl
@[simp] theorem updLock_coms (n : Nat) (f : Lock → Lock) (s : Block) : (updLock n f s).coms = s.coms := rfl
@[simp] theorem updLock_free (n : Nat) (f : Lock → Lock) (s : Block) : (updLock n f s).free = s.free := rfl

@[simp] theorem updSlac_sys (n : Nat) (f : Slac → Slac) (s : Block) : (updSlac n f s).sys = s.sys := rfl
@[simp] theorem updSlac_pwr (n : Nat) (f : Slac → Slac) (s : Block) : (updSlac n f s).pwr = s.pwr := rfl
@[simp] theorem updSlac_hst (n : Nat) (f : Slac → Slac) (s : Block) : (updSlac n f s).hst = s.hst := rfl
@[simp] theorem updSlac_pin (n : Nat) (f : Slac → Slac) (s : Block) : (updSlac n f s).pin = s.pin := rfl
@[simp] theorem updSlac_shadows (n : Nat) (f : Slac → Slac) (s : Block) : (updSlac n f s).shadows = s.shadows := rfl
@[simp] theorem updSlac_mbx (n : Nat) (f : Slac → Slac) (s : Block) : (updSlac n f s).mbx = s.mbx := rfl
@[simp] theorem updSlac_evt (n : Nat) (f : Slac → Slac) (s : Block) : (updSlac n f s).evt = s.evt := rfl
@[simp] theorem updSlac_cfg (n : Nat) (f : Slac → Slac) (s : Block) : (updSlac n f s).cfg = s.cfg := rfl
@[simp] theorem updSlac_pln (n : Nat) (f : Slac → Slac) (s : Block) : (updSlac n f s).pln = s.pln := rfl
@[simp] theorem updSlac_asy (n : Nat) (f : Slac → Slac) (s : Block) : (updSlac n f s).asy = s.asy := rfl
@[simp] theorem updSlac_nrg (n : Nat) (f : Slac → Slac) (s : Block) : (updSlac n f s).nrg = s.nrg := rfl
@[simp] theorem updSlac_bil (n : Nat) (f : Slac → Slac) (s : Block) : (updSlac n f s).bil = s.bil := rfl
@[simp] theorem updSlac_alc (n : Nat) (f : Slac → Slac) (s : Block) : (updSlac n f s).alc = s.alc := rfl
@[simp] theorem updSlac_rcm (n : Nat) (f : Slac → Slac) (s : Block) : (updSlac n f s).rcm = s.rcm := rfl
@[simp] theorem updSlac_saf (n : Nat) (f : Slac → Slac) (s : Block) : (updSlac n f s).saf = s.saf := rfl
@[simp] theorem updSlac_cru (n : Nat) (f : Slac → Slac) (s : Block) : (updSlac n f s).cru = s.cru := rfl
@[simp] theorem updSlac_cls (n : Nat) (f : Slac → Slac) (s : Block) : (updSlac n f s).cls = s.cls := rfl
@[simp] theorem updSlac_tag (n : Nat) (f : Slac → Slac) (s : Block) : (updSlac n f s).tag = s.tag := rfl
@[simp] theorem updSlac_mlk (n : Nat) (f : Slac → Slac) (s : Block) : (updSlac n f s).mlk = s.mlk := rfl
@[simp] theorem updSlac_dis (n : Nat) (f : Slac → Slac) (s : Block) : (updSlac n f s).dis = s.dis := rfl
@[simp] theorem updSlac_lsw (n : Nat) (f : Slac → Slac) (s : Block) : (updSlac n f s).lsw = s.lsw := rfl
@[simp] theorem updSlac_upd (n : Nat) (f : Slac → Slac) (s : Block) : (updSlac n f s).upd = s.upd := rfl
@[simp] theorem updSlac_lnk (n : Nat) (f : Slac → Slac) (s : Block) : (updSlac n f s).lnk = s.lnk := rfl
@[simp] theorem updSlac_dbg (n : Nat) (f : Slac → Slac) (s : Block) : (updSlac n f s).dbg = s.dbg := rfl
@[simp] theorem updSlac_coms (n : Nat) (f : Slac → Slac) (s : Block) : (updSlac n f s).coms = s.coms := rfl
@[simp] theorem updSlac_free (n : Nat) (f : Slac → Slac) (s : Block) : (updSlac n f s).free = s.free := rfl

@[simp] theorem updStage_sys (n : Nat) (f : Staging → Staging) (s : Block) : (updStage n f s).sys = s.sys := rfl
@[simp] theorem updStage_pwr (n : Nat) (f : Staging → Staging) (s : Block) : (updStage n f s).pwr = s.pwr := rfl
@[simp] theorem updStage_hst (n : Nat) (f : Staging → Staging) (s : Block) : (updStage n f s).hst = s.hst := rfl
@[simp] theorem updStage_pin (n : Nat) (f : Staging → Staging) (s : Block) : (updStage n f s).pin = s.pin := rfl
@[simp] theorem updStage_shadows (n : Nat) (f : Staging → Staging) (s : Block) : (updStage n f s).shadows = s.shadows := rfl
@[simp] theorem updStage_mbx (n : Nat) (f : Staging → Staging) (s : Block) : (updStage n f s).mbx = s.mbx := rfl
@[simp] theorem updStage_evt (n : Nat) (f : Staging → Staging) (s : Block) : (updStage n f s).evt = s.evt := rfl
@[simp] theorem updStage_cfg (n : Nat) (f : Staging → Staging) (s : Block) : (updStage n f s).cfg = s.cfg := rfl
@[simp] theorem updStage_asy (n : Nat) (f : Staging → Staging) (s : Block) : (updStage n f s).asy = s.asy := rfl
@[simp] theorem updStage_nrg (n : Nat) (f : Staging → Staging) (s : Block) : (updStage n f s).nrg = s.nrg := rfl
@[simp] theorem updStage_bil (n : Nat) (f : Staging → Staging) (s : Block) : (updStage n f s).bil = s.bil := rfl
@[simp] theorem updStage_out (n : Nat) (f : Staging → Staging) (s : Block) : (updStage n f s).out = s.out := rfl
@[simp] theorem updStage_alc (n : Nat) (f : Staging → Staging) (s : Block) : (updStage n f s).alc = s.alc := rfl
@[simp] theorem updStage_rcm (n : Nat) (f : Staging → Staging) (s : Block) : (updStage n f s).rcm = s.rcm := rfl
@[simp] theorem updStage_saf (n : Nat) (f : Staging → Staging) (s : Block) : (updStage n f s).saf = s.saf := rfl
@[simp] theorem updStage_cru (n : Nat) (f : Staging → Staging) (s : Block) : (updStage n f s).cru = s.cru := rfl
@[simp] theorem updStage_cls (n : Nat) (f : Staging → Staging) (s : Block) : (updStage n f s).cls = s.cls := rfl
@[simp] theorem updStage_tag (n : Nat) (f : Staging → Staging) (s : Block) : (updStage n f s).tag = s.tag := rfl
@[simp] theorem updStage_mlk (n : Nat) (f : Staging → Staging) (s : Block) : (updStage n f s).mlk = s.mlk := rfl
@[simp] theorem updStage_dis (n : Nat) (f : Staging → Staging) (s : Block) : (updStage n f s).dis = s.dis := rfl
@[simp] theorem updStage_lsw (n : Nat) (f : Staging → Staging) (s : Block) : (updStage n f s).lsw = s.lsw := rfl
@[simp] theorem updStage_upd (n : Nat) (f : Staging → Staging) (s : Block) : (updStage n f s).upd = s.upd := rfl
@[simp] theorem updStage_lnk (n : Nat) (f : Staging → Staging) (s : Block) : (updStage n f s).lnk = s.lnk := rfl
@[simp] theorem updStage_dbg (n : Nat) (f : Staging → Staging) (s : Block) : (updStage n f s).dbg = s.dbg := rfl
@[simp] theorem updStage_coms (n : Nat) (f : Staging → Staging) (s : Block) : (updStage n f s).coms = s.coms := rfl
@[simp] theorem updStage_free (n : Nat) (f : Staging → Staging) (s : Block) : (updStage n f s).free = s.free := rfl

@[simp] theorem updOl_sys (n : Nat) (f : Outlet → Outlet) (s : Block) : (updOl n f s).sys = s.sys := rfl
@[simp] theorem updOl_pwr (n : Nat) (f : Outlet → Outlet) (s : Block) : (updOl n f s).pwr = s.pwr := rfl
@[simp] theorem updOl_hst (n : Nat) (f : Outlet → Outlet) (s : Block) : (updOl n f s).hst = s.hst := rfl
@[simp] theorem updOl_pin (n : Nat) (f : Outlet → Outlet) (s : Block) : (updOl n f s).pin = s.pin := rfl
@[simp] theorem updOl_shadows (n : Nat) (f : Outlet → Outlet) (s : Block) : (updOl n f s).shadows = s.shadows := rfl
@[simp] theorem updOl_mbx (n : Nat) (f : Outlet → Outlet) (s : Block) : (updOl n f s).mbx = s.mbx := rfl
@[simp] theorem updOl_evt (n : Nat) (f : Outlet → Outlet) (s : Block) : (updOl n f s).evt = s.evt := rfl
@[simp] theorem updOl_cfg (n : Nat) (f : Outlet → Outlet) (s : Block) : (updOl n f s).cfg = s.cfg := rfl
@[simp] theorem updOl_pln (n : Nat) (f : Outlet → Outlet) (s : Block) : (updOl n f s).pln = s.pln := rfl
@[simp] theorem updOl_asy (n : Nat) (f : Outlet → Outlet) (s : Block) : (updOl n f s).asy = s.asy := rfl
@[simp] theorem updOl_nrg (n : Nat) (f : Outlet → Outlet) (s : Block) : (updOl n f s).nrg = s.nrg := rfl
@[simp] theorem updOl_bil (n : Nat) (f : Outlet → Outlet) (s : Block) : (updOl n f s).bil = s.bil := rfl
@[simp] theorem updOl_alc (n : Nat) (f : Outlet → Outlet) (s : Block) : (updOl n f s).alc = s.alc := rfl
@[simp] theorem updOl_rcm (n : Nat) (f : Outlet → Outlet) (s : Block) : (updOl n f s).rcm = s.rcm := rfl
@[simp] theorem updOl_saf (n : Nat) (f : Outlet → Outlet) (s : Block) : (updOl n f s).saf = s.saf := rfl
@[simp] theorem updOl_cru (n : Nat) (f : Outlet → Outlet) (s : Block) : (updOl n f s).cru = s.cru := rfl
@[simp] theorem updOl_cls (n : Nat) (f : Outlet → Outlet) (s : Block) : (updOl n f s).cls = s.cls := rfl
@[simp] theorem updOl_tag (n : Nat) (f : Outlet → Outlet) (s : Block) : (updOl n f s).tag = s.tag := rfl
@[simp] theorem updOl_mlk (n : Nat) (f : Outlet → Outlet) (s : Block) : (updOl n f s).mlk = s.mlk := rfl
@[simp] theorem updOl_dis (n : Nat) (f : Outlet → Outlet) (s : Block) : (updOl n f s).dis = s.dis := rfl
@[simp] theorem updOl_lsw (n : Nat) (f : Outlet → Outlet) (s : Block) : (updOl n f s).lsw = s.lsw := rfl
@[simp] theorem updOl_upd (n : Nat) (f : Outlet → Outlet) (s : Block) : (updOl n f s).upd = s.upd := rfl
@[simp] theorem updOl_lnk (n : Nat) (f : Outlet → Outlet) (s : Block) : (updOl n f s).lnk = s.lnk := rfl
@[simp] theorem updOl_dbg (n : Nat) (f : Outlet → Outlet) (s : Block) : (updOl n f s).dbg = s.dbg := rfl
@[simp] theorem updOl_coms (n : Nat) (f : Outlet → Outlet) (s : Block) : (updOl n f s).coms = s.coms := rfl
@[simp] theorem updOl_free (n : Nat) (f : Outlet → Outlet) (s : Block) : (updOl n f s).free = s.free := rfl

@[simp] theorem updSes_sys (n : Nat) (f : Session → Session) (s : Block) : (updSes n f s).sys = s.sys := rfl
@[simp] theorem updSes_pwr (n : Nat) (f : Session → Session) (s : Block) : (updSes n f s).pwr = s.pwr := rfl
@[simp] theorem updSes_hst (n : Nat) (f : Session → Session) (s : Block) : (updSes n f s).hst = s.hst := rfl
@[simp] theorem updSes_pin (n : Nat) (f : Session → Session) (s : Block) : (updSes n f s).pin = s.pin := rfl
@[simp] theorem updSes_shadows (n : Nat) (f : Session → Session) (s : Block) : (updSes n f s).shadows = s.shadows := rfl
@[simp] theorem updSes_mbx (n : Nat) (f : Session → Session) (s : Block) : (updSes n f s).mbx = s.mbx := rfl
@[simp] theorem updSes_evt (n : Nat) (f : Session → Session) (s : Block) : (updSes n f s).evt = s.evt := rfl
@[simp] theorem updSes_cfg (n : Nat) (f : Session → Session) (s : Block) : (updSes n f s).cfg = s.cfg := rfl
@[simp] theorem updSes_pln (n : Nat) (f : Session → Session) (s : Block) : (updSes n f s).pln = s.pln := rfl
@[simp] theorem updSes_asy (n : Nat) (f : Session → Session) (s : Block) : (updSes n f s).asy = s.asy := rfl
@[simp] theorem updSes_nrg (n : Nat) (f : Session → Session) (s : Block) : (updSes n f s).nrg = s.nrg := rfl
@[simp] theorem updSes_bil (n : Nat) (f : Session → Session) (s : Block) : (updSes n f s).bil = s.bil := rfl
@[simp] theorem updSes_alc (n : Nat) (f : Session → Session) (s : Block) : (updSes n f s).alc = s.alc := rfl
@[simp] theorem updSes_rcm (n : Nat) (f : Session → Session) (s : Block) : (updSes n f s).rcm = s.rcm := rfl
@[simp] theorem updSes_saf (n : Nat) (f : Session → Session) (s : Block) : (updSes n f s).saf = s.saf := rfl
@[simp] theorem updSes_cru (n : Nat) (f : Session → Session) (s : Block) : (updSes n f s).cru = s.cru := rfl
@[simp] theorem updSes_cls (n : Nat) (f : Session → Session) (s : Block) : (updSes n f s).cls = s.cls := rfl
@[simp] theorem updSes_tag (n : Nat) (f : Session → Session) (s : Block) : (updSes n f s).tag = s.tag := rfl
@[simp] theorem updSes_mlk (n : Nat) (f : Session → Session) (s : Block) : (updSes n f s).mlk = s.mlk := rfl
@[simp] theorem updSes_dis (n : Nat) (f : Session → Session) (s : Block) : (updSes n f s).dis = s.dis := rfl
@[simp] theorem updSes_lsw (n : Nat) (f : Session → Session) (s : Block) : (updSes n f s).lsw = s.lsw := rfl
@[simp] theorem updSes_upd (n : Nat) (f : Session → Session) (s : Block) : (updSes n f s).upd = s.upd := rfl
@[simp] theorem updSes_lnk (n : Nat) (f : Session → Session) (s : Block) : (updSes n f s).lnk = s.lnk := rfl
@[simp] theorem updSes_dbg (n : Nat) (f : Session → Session) (s : Block) : (updSes n f s).dbg = s.dbg := rfl
@[simp] theorem updSes_coms (n : Nat) (f : Session → Session) (s : Block) : (updSes n f s).coms = s.coms := rfl
@[simp] theorem updSes_free (n : Nat) (f : Session → Session) (s : Block) : (updSes n f s).free = s.free := rfl

@[simp] theorem updAo_sys (n : Nat) (f : AlcOutlet → AlcOutlet) (s : Block) : (updAo n f s).sys = s.sys := rfl
@[simp] theorem updAo_pwr (n : Nat) (f : AlcOutlet → AlcOutlet) (s : Block) : (updAo n f s).pwr = s.pwr := rfl
@[simp] theorem updAo_hst (n : Nat) (f : AlcOutlet → AlcOutlet) (s : Block) : (updAo n f s).hst = s.hst := rfl
@[simp] theorem updAo_pin (n : Nat) (f : AlcOutlet → AlcOutlet) (s : Block) : (updAo n f s).pin = s.pin := rfl
@[simp] theorem updAo_shadows (n : Nat) (f : AlcOutlet → AlcOutlet) (s : Block) : (updAo n f s).shadows = s.shadows := rfl
@[simp] theorem updAo_mbx (n : Nat) (f : AlcOutlet → AlcOutlet) (s : Block) : (updAo n f s).mbx = s.mbx := rfl
@[simp] theorem updAo_evt (n : Nat) (f : AlcOutlet → AlcOutlet) (s : Block) : (updAo n f s).evt = s.evt := rfl
@[simp] theorem updAo_cfg (n : Nat) (f : AlcOutlet → AlcOutlet) (s : Block) : (updAo n f s).cfg = s.cfg := rfl
@[simp] theorem updAo_pln (n : Nat) (f : AlcOutlet → AlcOutlet) (s : Block) : (updAo n f s).pln = s.pln := rfl
@[simp] theorem updAo_asy (n : Nat) (f : AlcOutlet → AlcOutlet) (s : Block) : (updAo n f s).asy = s.asy := rfl
@[simp] theorem updAo_nrg (n : Nat) (f : AlcOutlet → AlcOutlet) (s : Block) : (updAo n f s).nrg = s.nrg := rfl
@[simp] theorem updAo_bil (n : Nat) (f : AlcOutlet → AlcOutlet) (s : Block) : (updAo n f s).bil = s.bil := rfl
@[simp] theorem updAo_out (n : Nat) (f : AlcOutlet → AlcOutlet) (s : Block) : (updAo n f s).out = s.out := rfl
@[simp] theorem updAo_rcm (n : Nat) (f : AlcOutlet → AlcOutlet) (s : Block) : (updAo n f s).rcm = s.rcm := rfl
@[simp] theorem updAo_saf (n : Nat) (f : AlcOutlet → AlcOutlet) (s : Block) : (updAo n f s).saf = s.saf := rfl
@[simp] theorem updAo_cru (n : Nat) (f : AlcOutlet → AlcOutlet) (s : Block) : (updAo n f s).cru = s.cru := rfl
@[simp] theorem updAo_cls (n : Nat) (f : AlcOutlet → AlcOutlet) (s : Block) : (updAo n f s).cls = s.cls := rfl
@[simp] theorem updAo_tag (n : Nat) (f : AlcOutlet → AlcOutlet) (s : Block) : (updAo n f s).tag = s.tag := rfl
@[simp] theorem updAo_mlk (n : Nat) (f : AlcOutlet → AlcOutlet) (s : Block) : (updAo n f s).mlk = s.mlk := rfl
@[simp] theorem updAo_dis (n : Nat) (f : AlcOutlet → AlcOutlet) (s : Block) : (updAo n f s).dis = s.dis := rfl
@[simp] theorem updAo_lsw (n : Nat) (f : AlcOutlet → AlcOutlet) (s : Block) : (updAo n f s).lsw = s.lsw := rfl
@[simp] theorem updAo_upd (n : Nat) (f : AlcOutlet → AlcOutlet) (s : Block) : (updAo n f s).upd = s.upd := rfl
@[simp] theorem updAo_lnk (n : Nat) (f : AlcOutlet → AlcOutlet) (s : Block) : (updAo n f s).lnk = s.lnk := rfl
@[simp] theorem updAo_dbg (n : Nat) (f : AlcOutlet → AlcOutlet) (s : Block) : (updAo n f s).dbg = s.dbg := rfl
@[simp] theorem updAo_coms (n : Nat) (f : AlcOutlet → AlcOutlet) (s : Block) : (updAo n f s).coms = s.coms := rfl
@[simp] theorem updAo_free (n : Nat) (f : AlcOutlet → AlcOutlet) (s : Block) : (updAo n f s).free = s.free := rfl

@[simp] theorem updDrv_sys (n : Nat) (f : Driver → Driver) (s : Block) : (updDrv n f s).sys = s.sys := rfl
@[simp] theorem updDrv_pwr (n : Nat) (f : Driver → Driver) (s : Block) : (updDrv n f s).pwr = s.pwr := rfl
@[simp] theorem updDrv_hst (n : Nat) (f : Driver → Driver) (s : Block) : (updDrv n f s).hst = s.hst := rfl
@[simp] theorem updDrv_pin (n : Nat) (f : Driver → Driver) (s : Block) : (updDrv n f s).pin = s.pin := rfl
@[simp] theorem updDrv_shadows (n : Nat) (f : Driver → Driver) (s : Block) : (updDrv n f s).shadows = s.shadows := rfl
@[simp] theorem updDrv_mbx (n : Nat) (f : Driver → Driver) (s : Block) : (updDrv n f s).mbx = s.mbx := rfl
@[simp] theorem updDrv_evt (n : Nat) (f : Driver → Driver) (s : Block) : (updDrv n f s).evt = s.evt := rfl
@[simp] theorem updDrv_cfg (n : Nat) (f : Driver → Driver) (s : Block) : (updDrv n f s).cfg = s.cfg := rfl
@[simp] theorem updDrv_pln (n : Nat) (f : Driver → Driver) (s : Block) : (updDrv n f s).pln = s.pln := rfl
@[simp] theorem updDrv_asy (n : Nat) (f : Driver → Driver) (s : Block) : (updDrv n f s).asy = s.asy := rfl
@[simp] theorem updDrv_nrg (n : Nat) (f : Driver → Driver) (s : Block) : (updDrv n f s).nrg = s.nrg := rfl
@[simp] theorem updDrv_bil (n : Nat) (f : Driver → Driver) (s : Block) : (updDrv n f s).bil = s.bil := rfl
@[simp] theorem updDrv_out (n : Nat) (f : Driver → Driver) (s : Block) : (updDrv n f s).out = s.out := rfl
@[simp] theorem updDrv_rcm (n : Nat) (f : Driver → Driver) (s : Block) : (updDrv n f s).rcm = s.rcm := rfl
@[simp] theorem updDrv_saf (n : Nat) (f : Driver → Driver) (s : Block) : (updDrv n f s).saf = s.saf := rfl
@[simp] theorem updDrv_cru (n : Nat) (f : Driver → Driver) (s : Block) : (updDrv n f s).cru = s.cru := rfl
@[simp] theorem updDrv_cls (n : Nat) (f : Driver → Driver) (s : Block) : (updDrv n f s).cls = s.cls := rfl
@[simp] theorem updDrv_tag (n : Nat) (f : Driver → Driver) (s : Block) : (updDrv n f s).tag = s.tag := rfl
@[simp] theorem updDrv_mlk (n : Nat) (f : Driver → Driver) (s : Block) : (updDrv n f s).mlk = s.mlk := rfl
@[simp] theorem updDrv_dis (n : Nat) (f : Driver → Driver) (s : Block) : (updDrv n f s).dis = s.dis := rfl
@[simp] theorem updDrv_lsw (n : Nat) (f : Driver → Driver) (s : Block) : (updDrv n f s).lsw = s.lsw := rfl
@[simp] theorem updDrv_upd (n : Nat) (f : Driver → Driver) (s : Block) : (updDrv n f s).upd = s.upd := rfl
@[simp] theorem updDrv_lnk (n : Nat) (f : Driver → Driver) (s : Block) : (updDrv n f s).lnk = s.lnk := rfl
@[simp] theorem updDrv_dbg (n : Nat) (f : Driver → Driver) (s : Block) : (updDrv n f s).dbg = s.dbg := rfl
@[simp] theorem updDrv_coms (n : Nat) (f : Driver → Driver) (s : Block) : (updDrv n f s).coms = s.coms := rfl
@[simp] theorem updDrv_free (n : Nat) (f : Driver → Driver) (s : Block) : (updDrv n f s).free = s.free := rfl

@[simp] theorem updRc_sys (n : Nat) (f : RcmOutlet → RcmOutlet) (s : Block) : (updRc n f s).sys = s.sys := rfl
@[simp] theorem updRc_pwr (n : Nat) (f : RcmOutlet → RcmOutlet) (s : Block) : (updRc n f s).pwr = s.pwr := rfl
@[simp] theorem updRc_hst (n : Nat) (f : RcmOutlet → RcmOutlet) (s : Block) : (updRc n f s).hst = s.hst := rfl
@[simp] theorem updRc_pin (n : Nat) (f : RcmOutlet → RcmOutlet) (s : Block) : (updRc n f s).pin = s.pin := rfl
@[simp] theorem updRc_shadows (n : Nat) (f : RcmOutlet → RcmOutlet) (s : Block) : (updRc n f s).shadows = s.shadows := rfl
@[simp] theorem updRc_mbx (n : Nat) (f : RcmOutlet → RcmOutlet) (s : Block) : (updRc n f s).mbx = s.mbx := rfl
@[simp] theorem updRc_evt (n : Nat) (f : RcmOutlet → RcmOutlet) (s : Block) : (updRc n f s).evt = s.evt := rfl
@[simp] theorem updRc_cfg (n : Nat) (f : RcmOutlet → RcmOutlet) (s : Block) : (updRc n f s).cfg = s.cfg := rfl
@[simp] theorem updRc_pln (n : Nat) (f : RcmOutlet → RcmOutlet) (s : Block) : (updRc n f s).pln = s.pln := rfl
@[simp] theorem updRc_asy (n : Nat) (f : RcmOutlet → RcmOutlet) (s : Block) : (updRc n f s).asy = s.asy := rfl
@[simp] theorem updRc_nrg (n : Nat) (f : RcmOutlet → RcmOutlet) (s : Block) : (updRc n f s).nrg = s.nrg := rfl
@[simp] theorem updRc_bil (n : Nat) (f : RcmOutlet → RcmOutlet) (s : Block) : (updRc n f s).bil = s.bil := rfl
@[simp] theorem updRc_out (n : Nat) (f : RcmOutlet → RcmOutlet) (s : Block) : (updRc n f s).out = s.out := rfl
@[simp] theorem updRc_alc (n : Nat) (f : RcmOutlet → RcmOutlet) (s : Block) : (updRc n f s).alc = s.alc := rfl
@[simp] theorem updRc_saf (n : Nat) (f : RcmOutlet → RcmOutlet) (s : Block) : (updRc n f s).saf = s.saf := rfl
@[simp] theorem updRc_cru (n : Nat) (f : RcmOutlet → RcmOutlet) (s : Block) : (updRc n f s).cru = s.cru := rfl
@[simp] theorem updRc_cls (n : Nat) (f : RcmOutlet → RcmOutlet) (s : Block) : (updRc n f s).cls = s.cls := rfl
@[simp] theorem updRc_tag (n : Nat) (f : RcmOutlet → RcmOutlet) (s : Block) : (updRc n f s).tag = s.tag := rfl
@[simp] theorem updRc_mlk (n : Nat) (f : RcmOutlet → RcmOutlet) (s : Block) : (updRc n f s).mlk = s.mlk := rfl
@[simp] theorem updRc_dis (n : Nat) (f : RcmOutlet → RcmOutlet) (s : Block) : (updRc n f s).dis = s.dis := rfl
@[simp] theorem updRc_lsw (n : Nat) (f : RcmOutlet → RcmOutlet) (s : Block) : (updRc n f s).lsw = s.lsw := rfl
@[simp] theorem updRc_upd (n : Nat) (f : RcmOutlet → RcmOutlet) (s : Block) : (updRc n f s).upd = s.upd := rfl
@[simp] theorem updRc_lnk (n : Nat) (f : RcmOutlet → RcmOutlet) (s : Block) : (updRc n f s).lnk = s.lnk := rfl
@[simp] theorem updRc_dbg (n : Nat) (f : RcmOutlet → RcmOutlet) (s : Block) : (updRc n f s).dbg = s.dbg := rfl
@[simp] theorem updRc_coms (n : Nat) (f : RcmOutlet → RcmOutlet) (s : Block) : (updRc n f s).coms = s.coms := rfl
@[simp] theorem updRc_free (n : Nat) (f : RcmOutlet → RcmOutlet) (s : Block) : (updRc n f s).free = s.free := rfl

@[simp] theorem updOvr_sys (n : Nat) (f : Ovr → Ovr) (s : Block) : (updOvr n f s).sys = s.sys := rfl
@[simp] theorem updOvr_pwr (n : Nat) (f : Ovr → Ovr) (s : Block) : (updOvr n f s).pwr = s.pwr := rfl
@[simp] theorem updOvr_hst (n : Nat) (f : Ovr → Ovr) (s : Block) : (updOvr n f s).hst = s.hst := rfl
@[simp] theorem updOvr_pin (n : Nat) (f : Ovr → Ovr) (s : Block) : (updOvr n f s).pin = s.pin := rfl
@[simp] theorem updOvr_shadows (n : Nat) (f : Ovr → Ovr) (s : Block) : (updOvr n f s).shadows = s.shadows := rfl
@[simp] theorem updOvr_mbx (n : Nat) (f : Ovr → Ovr) (s : Block) : (updOvr n f s).mbx = s.mbx := rfl
@[simp] theorem updOvr_evt (n : Nat) (f : Ovr → Ovr) (s : Block) : (updOvr n f s).evt = s.evt := rfl
@[simp] theorem updOvr_cfg (n : Nat) (f : Ovr → Ovr) (s : Block) : (updOvr n f s).cfg = s.cfg := rfl
@[simp] theorem updOvr_asy (n : Nat) (f : Ovr → Ovr) (s : Block) : (updOvr n f s).asy = s.asy := rfl
@[simp] theorem updOvr_nrg (n : Nat) (f : Ovr → Ovr) (s : Block) : (updOvr n f s).nrg = s.nrg := rfl
@[simp] theorem updOvr_bil (n : Nat) (f : Ovr → Ovr) (s : Block) : (updOvr n f s).bil = s.bil := rfl
@[simp] theorem updOvr_out (n : Nat) (f : Ovr → Ovr) (s : Block) : (updOvr n f s).out = s.out := rfl
@[simp] theorem updOvr_alc (n : Nat) (f : Ovr → Ovr) (s : Block) : (updOvr n f s).alc = s.alc := rfl
@[simp] theorem updOvr_rcm (n : Nat) (f : Ovr → Ovr) (s : Block) : (updOvr n f s).rcm = s.rcm := rfl
@[simp] theorem updOvr_saf (n : Nat) (f : Ovr → Ovr) (s : Block) : (updOvr n f s).saf = s.saf := rfl
@[simp] theorem updOvr_cru (n : Nat) (f : Ovr → Ovr) (s : Block) : (updOvr n f s).cru = s.cru := rfl
@[simp] theorem updOvr_cls (n : Nat) (f : Ovr → Ovr) (s : Block) : (updOvr n f s).cls = s.cls := rfl
@[simp] theorem updOvr_tag (n : Nat) (f : Ovr → Ovr) (s : Block) : (updOvr n f s).tag = s.tag := rfl
@[simp] theorem updOvr_mlk (n : Nat) (f : Ovr → Ovr) (s : Block) : (updOvr n f s).mlk = s.mlk := rfl
@[simp] theorem updOvr_dis (n : Nat) (f : Ovr → Ovr) (s : Block) : (updOvr n f s).dis = s.dis := rfl
@[simp] theorem updOvr_lsw (n : Nat) (f : Ovr → Ovr) (s : Block) : (updOvr n f s).lsw = s.lsw := rfl
@[simp] theorem updOvr_upd (n : Nat) (f : Ovr → Ovr) (s : Block) : (updOvr n f s).upd = s.upd := rfl
@[simp] theorem updOvr_lnk (n : Nat) (f : Ovr → Ovr) (s : Block) : (updOvr n f s).lnk = s.lnk := rfl
@[simp] theorem updOvr_dbg (n : Nat) (f : Ovr → Ovr) (s : Block) : (updOvr n f s).dbg = s.dbg := rfl
@[simp] theorem updOvr_coms (n : Nat) (f : Ovr → Ovr) (s : Block) : (updOvr n f s).coms = s.coms := rfl
@[simp] theorem updOvr_free (n : Nat) (f : Ovr → Ovr) (s : Block) : (updOvr n f s).free = s.free := rfl

@[simp] theorem updDom_sys (n : Nat) (f : Domain → Domain) (s : Block) : (updDom n f s).sys = s.sys := rfl
@[simp] theorem updDom_pwr (n : Nat) (f : Domain → Domain) (s : Block) : (updDom n f s).pwr = s.pwr := rfl
@[simp] theorem updDom_hst (n : Nat) (f : Domain → Domain) (s : Block) : (updDom n f s).hst = s.hst := rfl
@[simp] theorem updDom_pin (n : Nat) (f : Domain → Domain) (s : Block) : (updDom n f s).pin = s.pin := rfl
@[simp] theorem updDom_shadows (n : Nat) (f : Domain → Domain) (s : Block) : (updDom n f s).shadows = s.shadows := rfl
@[simp] theorem updDom_mbx (n : Nat) (f : Domain → Domain) (s : Block) : (updDom n f s).mbx = s.mbx := rfl
@[simp] theorem updDom_evt (n : Nat) (f : Domain → Domain) (s : Block) : (updDom n f s).evt = s.evt := rfl
@[simp] theorem updDom_cfg (n : Nat) (f : Domain → Domain) (s : Block) : (updDom n f s).cfg = s.cfg := rfl
@[simp] theorem updDom_asy (n : Nat) (f : Domain → Domain) (s : Block) : (updDom n f s).asy = s.asy := rfl
@[simp] theorem updDom_nrg (n : Nat) (f : Domain → Domain) (s : Block) : (updDom n f s).nrg = s.nrg := rfl
@[simp] theorem updDom_bil (n : Nat) (f : Domain → Domain) (s : Block) : (updDom n f s).bil = s.bil := rfl
@[simp] theorem updDom_out (n : Nat) (f : Domain → Domain) (s : Block) : (updDom n f s).out = s.out := rfl
@[simp] theorem updDom_alc (n : Nat) (f : Domain → Domain) (s : Block) : (updDom n f s).alc = s.alc := rfl
@[simp] theorem updDom_rcm (n : Nat) (f : Domain → Domain) (s : Block) : (updDom n f s).rcm = s.rcm := rfl
@[simp] theorem updDom_saf (n : Nat) (f : Domain → Domain) (s : Block) : (updDom n f s).saf = s.saf := rfl
@[simp] theorem updDom_cru (n : Nat) (f : Domain → Domain) (s : Block) : (updDom n f s).cru = s.cru := rfl
@[simp] theorem updDom_cls (n : Nat) (f : Domain → Domain) (s : Block) : (updDom n f s).cls = s.cls := rfl
@[simp] theorem updDom_tag (n : Nat) (f : Domain → Domain) (s : Block) : (updDom n f s).tag = s.tag := rfl
@[simp] theorem updDom_mlk (n : Nat) (f : Domain → Domain) (s : Block) : (updDom n f s).mlk = s.mlk := rfl
@[simp] theorem updDom_dis (n : Nat) (f : Domain → Domain) (s : Block) : (updDom n f s).dis = s.dis := rfl
@[simp] theorem updDom_lsw (n : Nat) (f : Domain → Domain) (s : Block) : (updDom n f s).lsw = s.lsw := rfl
@[simp] theorem updDom_upd (n : Nat) (f : Domain → Domain) (s : Block) : (updDom n f s).upd = s.upd := rfl
@[simp] theorem updDom_lnk (n : Nat) (f : Domain → Domain) (s : Block) : (updDom n f s).lnk = s.lnk := rfl
@[simp] theorem updDom_dbg (n : Nat) (f : Domain → Domain) (s : Block) : (updDom n f s).dbg = s.dbg := rfl
@[simp] theorem updDom_coms (n : Nat) (f : Domain → Domain) (s : Block) : (updDom n f s).coms = s.coms := rfl
@[simp] theorem updDom_free (n : Nat) (f : Domain → Domain) (s : Block) : (updDom n f s).free = s.free := rfl

@[simp] theorem updLink_sys (n : Nat) (f : CanLink → CanLink) (s : Block) : (updLink n f s).sys = s.sys := rfl
@[simp] theorem updLink_pwr (n : Nat) (f : CanLink → CanLink) (s : Block) : (updLink n f s).pwr = s.pwr := rfl
@[simp] theorem updLink_hst (n : Nat) (f : CanLink → CanLink) (s : Block) : (updLink n f s).hst = s.hst := rfl
@[simp] theorem updLink_pin (n : Nat) (f : CanLink → CanLink) (s : Block) : (updLink n f s).pin = s.pin := rfl
@[simp] theorem updLink_shadows (n : Nat) (f : CanLink → CanLink) (s : Block) : (updLink n f s).shadows = s.shadows := rfl
@[simp] theorem updLink_mbx (n : Nat) (f : CanLink → CanLink) (s : Block) : (updLink n f s).mbx = s.mbx := rfl
@[simp] theorem updLink_evt (n : Nat) (f : CanLink → CanLink) (s : Block) : (updLink n f s).evt = s.evt := rfl
@[simp] theorem updLink_cfg (n : Nat) (f : CanLink → CanLink) (s : Block) : (updLink n f s).cfg = s.cfg := rfl
@[simp] theorem updLink_pln (n : Nat) (f : CanLink → CanLink) (s : Block) : (updLink n f s).pln = s.pln := rfl
@[simp] theorem updLink_asy (n : Nat) (f : CanLink → CanLink) (s : Block) : (updLink n f s).asy = s.asy := rfl
@[simp] theorem updLink_nrg (n : Nat) (f : CanLink → CanLink) (s : Block) : (updLink n f s).nrg = s.nrg := rfl
@[simp] theorem updLink_bil (n : Nat) (f : CanLink → CanLink) (s : Block) : (updLink n f s).bil = s.bil := rfl
@[simp] theorem updLink_out (n : Nat) (f : CanLink → CanLink) (s : Block) : (updLink n f s).out = s.out := rfl
@[simp] theorem updLink_rcm (n : Nat) (f : CanLink → CanLink) (s : Block) : (updLink n f s).rcm = s.rcm := rfl
@[simp] theorem updLink_saf (n : Nat) (f : CanLink → CanLink) (s : Block) : (updLink n f s).saf = s.saf := rfl
@[simp] theorem updLink_cru (n : Nat) (f : CanLink → CanLink) (s : Block) : (updLink n f s).cru = s.cru := rfl
@[simp] theorem updLink_cls (n : Nat) (f : CanLink → CanLink) (s : Block) : (updLink n f s).cls = s.cls := rfl
@[simp] theorem updLink_tag (n : Nat) (f : CanLink → CanLink) (s : Block) : (updLink n f s).tag = s.tag := rfl
@[simp] theorem updLink_mlk (n : Nat) (f : CanLink → CanLink) (s : Block) : (updLink n f s).mlk = s.mlk := rfl
@[simp] theorem updLink_dis (n : Nat) (f : CanLink → CanLink) (s : Block) : (updLink n f s).dis = s.dis := rfl
@[simp] theorem updLink_lsw (n : Nat) (f : CanLink → CanLink) (s : Block) : (updLink n f s).lsw = s.lsw := rfl
@[simp] theorem updLink_upd (n : Nat) (f : CanLink → CanLink) (s : Block) : (updLink n f s).upd = s.upd := rfl
@[simp] theorem updLink_lnk (n : Nat) (f : CanLink → CanLink) (s : Block) : (updLink n f s).lnk = s.lnk := rfl
@[simp] theorem updLink_dbg (n : Nat) (f : CanLink → CanLink) (s : Block) : (updLink n f s).dbg = s.dbg := rfl
@[simp] theorem updLink_coms (n : Nat) (f : CanLink → CanLink) (s : Block) : (updLink n f s).coms = s.coms := rfl
@[simp] theorem updLink_free (n : Nat) (f : CanLink → CanLink) (s : Block) : (updLink n f s).free = s.free := rfl

@[simp] theorem updInj_sys (n : Nat) (f : Injector → Injector) (s : Block) : (updInj n f s).sys = s.sys := rfl
@[simp] theorem updInj_pwr (n : Nat) (f : Injector → Injector) (s : Block) : (updInj n f s).pwr = s.pwr := rfl
@[simp] theorem updInj_hst (n : Nat) (f : Injector → Injector) (s : Block) : (updInj n f s).hst = s.hst := rfl
@[simp] theorem updInj_pin (n : Nat) (f : Injector → Injector) (s : Block) : (updInj n f s).pin = s.pin := rfl
@[simp] theorem updInj_shadows (n : Nat) (f : Injector → Injector) (s : Block) : (updInj n f s).shadows = s.shadows := rfl
@[simp] theorem updInj_mbx (n : Nat) (f : Injector → Injector) (s : Block) : (updInj n f s).mbx = s.mbx := rfl
@[simp] theorem updInj_evt (n : Nat) (f : Injector → Injector) (s : Block) : (updInj n f s).evt = s.evt := rfl
@[simp] theorem updInj_cfg (n : Nat) (f : Injector → Injector) (s : Block) : (updInj n f s).cfg = s.cfg := rfl
@[simp] theorem updInj_pln (n : Nat) (f : Injector → Injector) (s : Block) : (updInj n f s).pln = s.pln := rfl
@[simp] theorem updInj_asy (n : Nat) (f : Injector → Injector) (s : Block) : (updInj n f s).asy = s.asy := rfl
@[simp] theorem updInj_nrg (n : Nat) (f : Injector → Injector) (s : Block) : (updInj n f s).nrg = s.nrg := rfl
@[simp] theorem updInj_bil (n : Nat) (f : Injector → Injector) (s : Block) : (updInj n f s).bil = s.bil := rfl
@[simp] theorem updInj_out (n : Nat) (f : Injector → Injector) (s : Block) : (updInj n f s).out = s.out := rfl
@[simp] theorem updInj_alc (n : Nat) (f : Injector → Injector) (s : Block) : (updInj n f s).alc = s.alc := rfl
@[simp] theorem updInj_saf (n : Nat) (f : Injector → Injector) (s : Block) : (updInj n f s).saf = s.saf := rfl
@[simp] theorem updInj_cru (n : Nat) (f : Injector → Injector) (s : Block) : (updInj n f s).cru = s.cru := rfl
@[simp] theorem updInj_cls (n : Nat) (f : Injector → Injector) (s : Block) : (updInj n f s).cls = s.cls := rfl
@[simp] theorem updInj_tag (n : Nat) (f : Injector → Injector) (s : Block) : (updInj n f s).tag = s.tag := rfl
@[simp] theorem updInj_mlk (n : Nat) (f : Injector → Injector) (s : Block) : (updInj n f s).mlk = s.mlk := rfl
@[simp] theorem updInj_dis (n : Nat) (f : Injector → Injector) (s : Block) : (updInj n f s).dis = s.dis := rfl
@[simp] theorem updInj_lsw (n : Nat) (f : Injector → Injector) (s : Block) : (updInj n f s).lsw = s.lsw := rfl
@[simp] theorem updInj_upd (n : Nat) (f : Injector → Injector) (s : Block) : (updInj n f s).upd = s.upd := rfl
@[simp] theorem updInj_lnk (n : Nat) (f : Injector → Injector) (s : Block) : (updInj n f s).lnk = s.lnk := rfl
@[simp] theorem updInj_dbg (n : Nat) (f : Injector → Injector) (s : Block) : (updInj n f s).dbg = s.dbg := rfl
@[simp] theorem updInj_coms (n : Nat) (f : Injector → Injector) (s : Block) : (updInj n f s).coms = s.coms := rfl
@[simp] theorem updInj_free (n : Nat) (f : Injector → Injector) (s : Block) : (updInj n f s).free = s.free := rfl

@[simp] theorem updIn_sys (n : Nat) (f : SafIn → SafIn) (s : Block) : (updIn n f s).sys = s.sys := rfl
@[simp] theorem updIn_pwr (n : Nat) (f : SafIn → SafIn) (s : Block) : (updIn n f s).pwr = s.pwr := rfl
@[simp] theorem updIn_hst (n : Nat) (f : SafIn → SafIn) (s : Block) : (updIn n f s).hst = s.hst := rfl
@[simp] theorem updIn_pin (n : Nat) (f : SafIn → SafIn) (s : Block) : (updIn n f s).pin = s.pin := rfl
@[simp] theorem updIn_shadows (n : Nat) (f : SafIn → SafIn) (s : Block) : (updIn n f s).shadows = s.shadows := rfl
@[simp] theorem updIn_mbx (n : Nat) (f : SafIn → SafIn) (s : Block) : (updIn n f s).mbx = s.mbx := rfl
@[simp] theorem updIn_evt (n : Nat) (f : SafIn → SafIn) (s : Block) : (updIn n f s).evt = s.evt := rfl
@[simp] theorem updIn_cfg (n : Nat) (f : SafIn → SafIn) (s : Block) : (updIn n f s).cfg = s.cfg := rfl
@[simp] theorem updIn_pln (n : Nat) (f : SafIn → SafIn) (s : Block) : (updIn n f s).pln = s.pln := rfl
@[simp] theorem updIn_asy (n : Nat) (f : SafIn → SafIn) (s : Block) : (updIn n f s).asy = s.asy := rfl
@[simp] theorem updIn_nrg (n : Nat) (f : SafIn → SafIn) (s : Block) : (updIn n f s).nrg = s.nrg := rfl
@[simp] theorem updIn_bil (n : Nat) (f : SafIn → SafIn) (s : Block) : (updIn n f s).bil = s.bil := rfl
@[simp] theorem updIn_out (n : Nat) (f : SafIn → SafIn) (s : Block) : (updIn n f s).out = s.out := rfl
@[simp] theorem updIn_alc (n : Nat) (f : SafIn → SafIn) (s : Block) : (updIn n f s).alc = s.alc := rfl
@[simp] theorem updIn_rcm (n : Nat) (f : SafIn → SafIn) (s : Block) : (updIn n f s).rcm = s.rcm := rfl
@[simp] theorem updIn_cru (n : Nat) (f : SafIn → SafIn) (s : Block) : (updIn n f s).cru = s.cru := rfl
@[simp] theorem updIn_cls (n : Nat) (f : SafIn → SafIn) (s : Block) : (updIn n f s).cls = s.cls := rfl
@[simp] theorem updIn_tag (n : Nat) (f : SafIn → SafIn) (s : Block) : (updIn n f s).tag = s.tag := rfl
@[simp] theorem updIn_mlk (n : Nat) (f : SafIn → SafIn) (s : Block) : (updIn n f s).mlk = s.mlk := rfl
@[simp] theorem updIn_dis (n : Nat) (f : SafIn → SafIn) (s : Block) : (updIn n f s).dis = s.dis := rfl
@[simp] theorem updIn_lsw (n : Nat) (f : SafIn → SafIn) (s : Block) : (updIn n f s).lsw = s.lsw := rfl
@[simp] theorem updIn_upd (n : Nat) (f : SafIn → SafIn) (s : Block) : (updIn n f s).upd = s.upd := rfl
@[simp] theorem updIn_lnk (n : Nat) (f : SafIn → SafIn) (s : Block) : (updIn n f s).lnk = s.lnk := rfl
@[simp] theorem updIn_dbg (n : Nat) (f : SafIn → SafIn) (s : Block) : (updIn n f s).dbg = s.dbg := rfl
@[simp] theorem updIn_coms (n : Nat) (f : SafIn → SafIn) (s : Block) : (updIn n f s).coms = s.coms := rfl
@[simp] theorem updIn_free (n : Nat) (f : SafIn → SafIn) (s : Block) : (updIn n f s).free = s.free := rfl

@[simp] theorem updFn_sys (n : Nat) (f : SafFn → SafFn) (s : Block) : (updFn n f s).sys = s.sys := rfl
@[simp] theorem updFn_pwr (n : Nat) (f : SafFn → SafFn) (s : Block) : (updFn n f s).pwr = s.pwr := rfl
@[simp] theorem updFn_hst (n : Nat) (f : SafFn → SafFn) (s : Block) : (updFn n f s).hst = s.hst := rfl
@[simp] theorem updFn_pin (n : Nat) (f : SafFn → SafFn) (s : Block) : (updFn n f s).pin = s.pin := rfl
@[simp] theorem updFn_shadows (n : Nat) (f : SafFn → SafFn) (s : Block) : (updFn n f s).shadows = s.shadows := rfl
@[simp] theorem updFn_mbx (n : Nat) (f : SafFn → SafFn) (s : Block) : (updFn n f s).mbx = s.mbx := rfl
@[simp] theorem updFn_evt (n : Nat) (f : SafFn → SafFn) (s : Block) : (updFn n f s).evt = s.evt := rfl
@[simp] theorem updFn_cfg (n : Nat) (f : SafFn → SafFn) (s : Block) : (updFn n f s).cfg = s.cfg := rfl
@[simp] theorem updFn_pln (n : Nat) (f : SafFn → SafFn) (s : Block) : (updFn n f s).pln = s.pln := rfl
@[simp] theorem updFn_asy (n : Nat) (f : SafFn → SafFn) (s : Block) : (updFn n f s).asy = s.asy := rfl
@[simp] theorem updFn_nrg (n : Nat) (f : SafFn → SafFn) (s : Block) : (updFn n f s).nrg = s.nrg := rfl
@[simp] theorem updFn_bil (n : Nat) (f : SafFn → SafFn) (s : Block) : (updFn n f s).bil = s.bil := rfl
@[simp] theorem updFn_out (n : Nat) (f : SafFn → SafFn) (s : Block) : (updFn n f s).out = s.out := rfl
@[simp] theorem updFn_alc (n : Nat) (f : SafFn → SafFn) (s : Block) : (updFn n f s).alc = s.alc := rfl
@[simp] theorem updFn_rcm (n : Nat) (f : SafFn → SafFn) (s : Block) : (updFn n f s).rcm = s.rcm := rfl
@[simp] theorem updFn_cru (n : Nat) (f : SafFn → SafFn) (s : Block) : (updFn n f s).cru = s.cru := rfl
@[simp] theorem updFn_cls (n : Nat) (f : SafFn → SafFn) (s : Block) : (updFn n f s).cls = s.cls := rfl
@[simp] theorem updFn_tag (n : Nat) (f : SafFn → SafFn) (s : Block) : (updFn n f s).tag = s.tag := rfl
@[simp] theorem updFn_mlk (n : Nat) (f : SafFn → SafFn) (s : Block) : (updFn n f s).mlk = s.mlk := rfl
@[simp] theorem updFn_dis (n : Nat) (f : SafFn → SafFn) (s : Block) : (updFn n f s).dis = s.dis := rfl
@[simp] theorem updFn_lsw (n : Nat) (f : SafFn → SafFn) (s : Block) : (updFn n f s).lsw = s.lsw := rfl
@[simp] theorem updFn_upd (n : Nat) (f : SafFn → SafFn) (s : Block) : (updFn n f s).upd = s.upd := rfl
@[simp] theorem updFn_lnk (n : Nat) (f : SafFn → SafFn) (s : Block) : (updFn n f s).lnk = s.lnk := rfl
@[simp] theorem updFn_dbg (n : Nat) (f : SafFn → SafFn) (s : Block) : (updFn n f s).dbg = s.dbg := rfl
@[simp] theorem updFn_coms (n : Nat) (f : SafFn → SafFn) (s : Block) : (updFn n f s).coms = s.coms := rfl
@[simp] theorem updFn_free (n : Nat) (f : SafFn → SafFn) (s : Block) : (updFn n f s).free = s.free := rfl

@[simp] theorem updBsd_sys (f : Bsd → Bsd) (s : Block) : (updBsd f s).sys = s.sys := rfl
@[simp] theorem updBsd_pwr (f : Bsd → Bsd) (s : Block) : (updBsd f s).pwr = s.pwr := rfl
@[simp] theorem updBsd_hst (f : Bsd → Bsd) (s : Block) : (updBsd f s).hst = s.hst := rfl
@[simp] theorem updBsd_pin (f : Bsd → Bsd) (s : Block) : (updBsd f s).pin = s.pin := rfl
@[simp] theorem updBsd_shadows (f : Bsd → Bsd) (s : Block) : (updBsd f s).shadows = s.shadows := rfl
@[simp] theorem updBsd_mbx (f : Bsd → Bsd) (s : Block) : (updBsd f s).mbx = s.mbx := rfl
@[simp] theorem updBsd_evt (f : Bsd → Bsd) (s : Block) : (updBsd f s).evt = s.evt := rfl
@[simp] theorem updBsd_cfg (f : Bsd → Bsd) (s : Block) : (updBsd f s).cfg = s.cfg := rfl
@[simp] theorem updBsd_pln (f : Bsd → Bsd) (s : Block) : (updBsd f s).pln = s.pln := rfl
@[simp] theorem updBsd_asy (f : Bsd → Bsd) (s : Block) : (updBsd f s).asy = s.asy := rfl
@[simp] theorem updBsd_nrg (f : Bsd → Bsd) (s : Block) : (updBsd f s).nrg = s.nrg := rfl
@[simp] theorem updBsd_bil (f : Bsd → Bsd) (s : Block) : (updBsd f s).bil = s.bil := rfl
@[simp] theorem updBsd_out (f : Bsd → Bsd) (s : Block) : (updBsd f s).out = s.out := rfl
@[simp] theorem updBsd_alc (f : Bsd → Bsd) (s : Block) : (updBsd f s).alc = s.alc := rfl
@[simp] theorem updBsd_rcm (f : Bsd → Bsd) (s : Block) : (updBsd f s).rcm = s.rcm := rfl
@[simp] theorem updBsd_saf (f : Bsd → Bsd) (s : Block) : (updBsd f s).saf = s.saf := rfl
@[simp] theorem updBsd_cru (f : Bsd → Bsd) (s : Block) : (updBsd f s).cru = s.cru := rfl
@[simp] theorem updBsd_cls (f : Bsd → Bsd) (s : Block) : (updBsd f s).cls = s.cls := rfl
@[simp] theorem updBsd_tag (f : Bsd → Bsd) (s : Block) : (updBsd f s).tag = s.tag := rfl
@[simp] theorem updBsd_mlk (f : Bsd → Bsd) (s : Block) : (updBsd f s).mlk = s.mlk := rfl
@[simp] theorem updBsd_lsw (f : Bsd → Bsd) (s : Block) : (updBsd f s).lsw = s.lsw := rfl
@[simp] theorem updBsd_upd (f : Bsd → Bsd) (s : Block) : (updBsd f s).upd = s.upd := rfl
@[simp] theorem updBsd_lnk (f : Bsd → Bsd) (s : Block) : (updBsd f s).lnk = s.lnk := rfl
@[simp] theorem updBsd_dbg (f : Bsd → Bsd) (s : Block) : (updBsd f s).dbg = s.dbg := rfl
@[simp] theorem updBsd_coms (f : Bsd → Bsd) (s : Block) : (updBsd f s).coms = s.coms := rfl
@[simp] theorem updBsd_free (f : Bsd → Bsd) (s : Block) : (updBsd f s).free = s.free := rfl

/-! ### The whole state -/

@[simp] theorem wrote_pending (s : State) (b : Block) : (wrote s b).pending = s.pending := rfl
@[simp] theorem wrote_tagMem (s : State) (b : Block) : (wrote s b).tagMem = applyWrites b.tag.out s.tagMem := rfl
@[simp] theorem wrote_tag_out (s : State) (b : Block) : (wrote s b).blk.tag.out = [] := rfl
@[simp] theorem wrote_sys (s : State) (b : Block) : (wrote s b).blk.sys = b.sys := rfl
@[simp] theorem wrote_pwr (s : State) (b : Block) : (wrote s b).blk.pwr = b.pwr := rfl
@[simp] theorem wrote_hst (s : State) (b : Block) : (wrote s b).blk.hst = b.hst := rfl
@[simp] theorem wrote_pin (s : State) (b : Block) : (wrote s b).blk.pin = b.pin := rfl
@[simp] theorem wrote_shadows (s : State) (b : Block) : (wrote s b).blk.shadows = b.shadows := rfl
@[simp] theorem wrote_mbx (s : State) (b : Block) : (wrote s b).blk.mbx = b.mbx := rfl
@[simp] theorem wrote_evt (s : State) (b : Block) : (wrote s b).blk.evt = b.evt := rfl
@[simp] theorem wrote_cfg (s : State) (b : Block) : (wrote s b).blk.cfg = b.cfg := rfl
@[simp] theorem wrote_pln (s : State) (b : Block) : (wrote s b).blk.pln = b.pln := rfl
@[simp] theorem wrote_asy (s : State) (b : Block) : (wrote s b).blk.asy = b.asy := rfl
@[simp] theorem wrote_nrg (s : State) (b : Block) : (wrote s b).blk.nrg = b.nrg := rfl
@[simp] theorem wrote_bil (s : State) (b : Block) : (wrote s b).blk.bil = b.bil := rfl
@[simp] theorem wrote_out (s : State) (b : Block) : (wrote s b).blk.out = b.out := rfl
@[simp] theorem wrote_alc (s : State) (b : Block) : (wrote s b).blk.alc = b.alc := rfl
@[simp] theorem wrote_rcm (s : State) (b : Block) : (wrote s b).blk.rcm = b.rcm := rfl
@[simp] theorem wrote_saf (s : State) (b : Block) : (wrote s b).blk.saf = b.saf := rfl
@[simp] theorem wrote_cru (s : State) (b : Block) : (wrote s b).blk.cru = b.cru := rfl
@[simp] theorem wrote_cls (s : State) (b : Block) : (wrote s b).blk.cls = b.cls := rfl
@[simp] theorem wrote_mlk (s : State) (b : Block) : (wrote s b).blk.mlk = b.mlk := rfl
@[simp] theorem wrote_dis (s : State) (b : Block) : (wrote s b).blk.dis = b.dis := rfl
@[simp] theorem wrote_lsw (s : State) (b : Block) : (wrote s b).blk.lsw = b.lsw := rfl
@[simp] theorem wrote_upd (s : State) (b : Block) : (wrote s b).blk.upd = b.upd := rfl
@[simp] theorem wrote_lnk (s : State) (b : Block) : (wrote s b).blk.lnk = b.lnk := rfl
@[simp] theorem wrote_dbg (s : State) (b : Block) : (wrote s b).blk.dbg = b.dbg := rfl
@[simp] theorem wrote_coms (s : State) (b : Block) : (wrote s b).blk.coms = b.coms := rfl
@[simp] theorem wrote_free (s : State) (b : Block) : (wrote s b).blk.free = b.free := rfl

end Sys2Proof.Machine
end

