-- ==== Sys2Proof/Tests/Slice0.lean ====
section
/-!
SUPPORT. The model's own tests: a smoke test of the well-formedness checks, steps worked by hand from the spec, and for every
statement that has hypotheses a state and operands that meet them, clause by clause.
-/

namespace Sys2Proof.Tests

open Sys2Proof Sys2Proof.Machine

-- One theorem at a time: side by side, their evaluations need more threads than the memory of one process holds.
set_option Elab.async false

/-! ### Well-formedness -/

/-- Each check refuses a term outside its range and takes one at its edge. -/
theorem test_wf_outlet : (Instr.authTimeout 13).wf = false ∧ (Instr.authTimeout 0).wf = false ∧ (Instr.authTimeout 12).wf := by
  decide
theorem test_wf_point : (Instr.bCycTimer 13 0).wf = false ∧ (Instr.bCycTimer 12 0).wf := by decide
theorem test_wf_refchk : (Instr.refchkRun 13 []).wf = false ∧ (Instr.refchkRun 255 []).wf := by decide
theorem test_wf_mailbox : (Instr.commandStart 8).wf = false ∧ (Instr.commandStart 7).wf := by decide
theorem test_wf_driver : (Instr.fbChange 17 true).wf = false ∧ (Instr.fbChange 0 true).wf = false ∧ (Instr.fbChange 16 true).wf := by
  decide
theorem test_wf_can : (Instr.canBusOff 5).wf = false ∧ (Instr.canBusOff 0).wf = false ∧ (Instr.canBusOff 4).wf := by decide
theorem test_wf_port : (Instr.ethLinkChange 3 true true).wf = false ∧ (Instr.ethLinkChange 2 true true).wf := by decide
theorem test_wf_antenna : (Instr.readerPoll 5 0 .none).wf = false ∧ (Instr.readerPoll 4 0 .none).wf := by decide
theorem test_wf_coupling : (Instr.mlkCouplingFault 4).wf = false ∧ (Instr.mlkCouplingFault 3).wf := by decide
theorem test_wf_switch : (Instr.lswInrushEnd 13).wf = false ∧ (Instr.lswInrushEnd 12).wf := by decide
theorem test_wf_safety : (Instr.discrepancyTimeout 16).wf = false ∧ (Instr.discrepancyTimeout 15).wf := by decide
theorem test_wf_domain : (Instr.planSwap 3).wf = false ∧ (Instr.planSwap 2).wf := by decide
theorem test_wf_read : (Instr.hspiReadFrame 0x0F 0 0).wf = false ∧ (Instr.hspiReadFrame 0x8F 0 0).wf := by decide
theorem test_wf_write : (Instr.hspiWriteFrame 0x01 0 [0] 0).wf = false ∧ (Instr.hspiWriteFrame 0x01 0 [0, 0] 0).wf := by decide
theorem test_wf_tag_write : (Instr.tagWrite 64 1 [] true 1).wf = false ∧ (Instr.tagWrite 64 1 (zeros 128) true 7).wf = false ∧
    (Instr.tagWrite 64 1 (zeros 128) true 6).wf := by decide +kernel
theorem test_wf_payload : (Instr.cmdSysInfoGet ⟨0, 0, 0, 0⟩ (zeros 4081)).wf = false := by decide +kernel

/-- The one-block examples of FIPS 180-4, the S-box example of FIPS 197. -/
theorem test_sha256_abc :
    beNat (sha256 (ascii "abc")) = 0xBA7816BF8F01CFEA414140DE5DAE2223B00361A396177A9CB410FF61F20015AD := by decide +kernel
theorem test_sha512_abc : beNat ((sha512 (ascii "abc")).take 8) = 0xDDAF35A193617ABA := by decide +kernel
theorem test_aes_sub : aesSub 0x53 = 0xED := by decide +kernel

/-! ### States -/

/-- A request on mailbox `mb`. -/
def R (mb : BitVec 3) : Req := ⟨mb, 1, 0, 1⟩

/-- A grant that no expert command finds expired. -/
def grant0 : Grant := ⟨1, serialNum, 1000000000, 0, []⟩

/-- The block out of reset, in mode `m`, its clock running, its DRBG tested, a grant installed. -/
def W (m : Mode) : Block :=
  { Block.reset with
    sys := { Block.reset.sys with mode := m, mtime := 100000, mtimeRun := true, secDone := 100 }
    pwr := { Block.reset.pwr with heldBy := .no }
    cru := { Block.reset.cru with drbgOk := true, grant := some grant0 } }

/-- Bytes put at an offset of a configuration section. -/
def cfg (id off : Nat) (bs : List Byte) (b : Block) : Block :=
  { b with cfg := { b.cfg with secs := b.cfg.secs.map fun c => if c.1 == id then (id, putBytes c.2 off bs) else c } }

/-- A state with an empty queue and an empty tag memory. -/
def S (b : Block) : State := ⟨b, [], []⟩

/-- A frame to every module from head-end 1, of type `t`, its body one byte. -/
def frame0 (t : Nat) (b : Byte) : List Byte :=
  let f := [21, 0] ++ p8 t ++ [0] ++ rep 4 [255] ++ [1, 0, 0, 0, 1, 0, 0, 0] ++ [b]
  f ++ p32 (crc32 f)

/-- The block a lock taking leaves. -/
def allOf (b : Block) : Taken → Block
  | .all a => a
  | _ => b

/-- Every lock was taken. -/
def isAll : Taken → Bool
  | .all _ => true
  | _ => false

theorem allOf_eq {b : Block} {t : Taken} (h : isAll t = true) : t = .all (allOf b t) := by
  cases t <;> simp_all [isAll, allOf]

theorem getD_eq {α : Type} {d : α} {o : Option α} (h : o.isSome = true) : o = some (o.getD d) := by
  cases o <;> simp_all

theorem starts_eq {op : Nat} {role : Role} {modes : List Mode} {h : Req} {p : List Byte} {s : Block}
    (h1 : (accepted h p s && role.accepts h.mb.toNat && s.inMode modes) = true) (h2 : grantValid s = true) :
    starts op role modes h p s = true := by
  simp_all [starts]

theorem grant_eq {s : Block} (h : s.cru.grant = some grant0) (h2 : (decide (1000000000 > s.sys.mtime)) = true) :
    grantValid s = true := by
  simp [grantValid, h, grant0] at h2 ⊢; exact h2

/-! ### Steps worked by hand -/

/-- The block of an outcome; a block out of reset where there is none. -/
def blkOf : Host.Outcome State Fault Refusal → Block
  | .next t => t.blk
  | _ => Block.reset

/-- The check value of the transport CRC (04 R97). -/
theorem test_crc16 : crc16 [0x31, 0x32, 0x33, 0x34, 0x35, 0x36, 0x37, 0x38, 0x39] = 0x29B1 := by decide +kernel

/-- CRC-32 of "123456789" is 0xCBF43926 (05 R151 names the CRC of IEEE 802.3). -/
theorem test_crc32 : crc32 [0x31, 0x32, 0x33, 0x34, 0x35, 0x36, 0x37, 0x38, 0x39] = 0xCBF43926 := by decide +kernel

/-- A read of `SYS_MODE` over HSPI in SERVICE, entered from STANDBY with cause 0x10: CMD 0x80, address 0x10, HCRC 0x1A9B; the
module drives TSTAT and MODE 5, CAUSE 0x10, PREV 4 (Table 3-1, R77, Table 4-2). -/
theorem test_read_mode :
    ((blkOf (step { S { W .service with sys := { (W .service).sys with prevMode := 4, modeCause := 0x10 } } with
      pending := [.hspiReadFrame 0x80 0x10 0x1A9B] })).hst.lastTx.take 5) = [0x80, 5, 0x10, 4, 0] := by decide +kernel

/-- One step takes one command off the queue. -/
theorem test_queue : (match step { S (W .service) with pending := [.hostSilent, .hostSilent] } with
    | .next t => t.pending | _ => []) = [.hostSilent] := by decide +kernel

/-- VIN below 17 V starts a power-fail warning and OUTAGE (02 R62, Table 2-8); at 17 V it does not. -/
theorem test_pfw : (blkOf (exec (.pfWarningVin 1699) (S (W .service)))).sys.mode = .outage ∧
    (blkOf (exec (.pfWarningVin 1700) (S (W .service)))).sys.mode = .service := by decide +kernel

/-- `CMD_LOCK_ACQUIRE` of a free lock gives it to the mailbox (06 R178). -/
theorem test_lock : holdsLock (mbOwner 2) 3 (blkOf (exec (.cmdLockAcquire (R 2) [3, 0, 0, 0]) (S (W .service)))) := by
  decide +kernel

/-- Data written to the tag memory is read back, and the memory stays canonical (15 R456). -/
theorem test_tag_memory : memRead 5 (memWrites 4 [1, 2, 0] []) = 2 ∧ memWf (memWrites 4 [1, 2, 0] []) ∧
    memWrites 4 [0, 0, 0] (memWrites 4 [1, 2, 3] []) = [] := by decide +kernel

/-- A test occurrence raised through `EVT_SET0` in COMMISSION latches RAW (05 R145). -/
theorem test_evt_set : rawBit 3 (blkOf (exec (.evtSetWrite 0 8) (S (W .commission)))) ∧
    rawBit 3 (blkOf (exec (.evtSetWrite 0 8) (S (W .service)))) = false := by decide +kernel

/-- A load switch that is on goes off on a short (Table 18-3, SHORT). -/
theorem test_short : ((blkOf (exec (.lswShort 1 900) (S (updLs 1 (fun o => { o with st := .on }) (W .service))))).ls 1).st ≠ .on := by
  decide +kernel

/-- The tag answers a read of block 0 without a session (Table 15-7). -/
theorem test_tag_read : (blkOf (exec (.tagRead 0 true) (S { W .service with tag.st := 3, tag.rats := true }))).tag.tx ≠ [] := by
  decide +kernel

/-! ### The hypotheses of the general statements -/

theorem witness_IdleStepCountsMeterTime : ∃ s : State, s.pending = [] ∧ TagSound s ∧ ∀ g ∈ heldGroups s.blk, g.bclass ≠ 0 :=
  ⟨S (W .service), rfl, ⟨rfl, rfl, rfl⟩, by decide +kernel⟩

theorem witness_StepKeepsTagMemory : ∃ s t : State, TagSound s ∧ step s = .next t :=
  ⟨State.reset, _, ⟨rfl, rfl, rfl⟩, rfl⟩

theorem witness_TagMemoryReadsWhatWasWritten :
    ∃ (m : List Host.Cell) (a : Nat) (d : List Byte), memWf m = true ∧ a + d.length ≤ 32768 :=
  ⟨[(3, 7)], 32767, [1], by decide⟩

theorem witness_TagWriteStoresItsBlocks :
    ∃ (h : Req) (p : List Byte) (s : State) (b : Block), begun 0x0B11 h p s.blk = b ∧ TagSound s ∧
      starts 0x0B11 .general mWork h p s.blk ∧ 4 ≤ p.length ∧ p.length = 4 + 128 * u8At p 1 ∧
      128 ≤ u8At p 0 ∧ 1 ≤ u8At p 1 ∧ u8At p 1 ≤ 3 ∧ u8At p 0 + u8At p 1 ≤ 256 ∧ wiredOk b ∧
      (upto (u8At p 0) (u8At p 0 + u8At p 1 - 1)).filter (fun j => bit b.tag.locks (j - 128)) = [] :=
  ⟨R 2, [255, 1] ++ zeros 130, S (W .service), _, rfl, ⟨rfl, rfl, rfl⟩, by decide +kernel⟩

theorem witness_OccurrenceLatches : ∃ (e : Nat) (s : Block), e / 32 < s.evt.groups.length ∧ rawBit e s = true ∧ rawBit 3 s = true :=
  ⟨255, raise 255 0 (raise 3 0 (W .service)), by decide +kernel⟩

theorem witness_EventQueueKeepsItsEntries : ∃ s : Block, s.evt.queue.length ≤ 512 := ⟨W .service, by decide⟩

theorem witness_EventSetRaisesTestOccurrences :
    (∃ (g : Nat) (s : State), served s.blk ∧ g < 8 ∧ s.blk.sys.mode = .commission) ∧
    (∃ (g : Nat) (s : State), served s.blk ∧ g < 8 ∧ s.blk.sys.mode ≠ .commission ∧ s.blk.sys.mode ≠ .zeroised) ∧
    (∃ (g : Nat) (s : State), served s.blk ∧ g < 8 ∧ s.blk.sys.mode = .zeroised) :=
  ⟨⟨7, S (W .commission), by decide +kernel⟩, ⟨7, S (W .service), by decide +kernel⟩, ⟨7, S (W .zeroised), by decide +kernel⟩⟩

theorem witness_EventRawClearsWhatIsWritten :
    ∃ (g : Nat) (s : State), served s.blk ∧ g < 8 ∧ s.blk.inMode [.standby, .service, .degraded, .maintain, .commission] :=
  ⟨7, S (W .service), by decide +kernel⟩

theorem witness_CoreHaltsOnlyInItsModes :
    (∃ b : Block, b.inMode [.factory, .provision, .standby, .maintain, .commission] = false) ∧
    (∃ (core : Nat) (b : Block), b.inMode [.factory, .provision, .standby, .maintain, .commission] ∧ core < 4 ∧
      b.cru.dbgState = 1 ∧ larkspurRuns core b) ∧
    (∃ (core : Nat) (b : Block), b.inMode [.factory, .provision, .standby, .maintain, .commission] ∧ bit b.cru.halted core) :=
  ⟨⟨W .service, by decide +kernel⟩, ⟨3, { W .maintain with cru.dbgState := 1 }, by decide +kernel⟩,
    ⟨3, { W .maintain with cru.halted := 8 }, by decide +kernel⟩⟩

theorem witness_TransportCrc :
    (∃ (cmd : Byte) (addr : BitVec 24) (hcrc : BitVec 16) (s : State), served s.blk ∧
      crc16 (frameHead cmd.toNat addr.toNat) ≠ hcrc.toNat) ∧
    (∃ (cmd : Byte) (addr : BitVec 24) (ws : List Word) (hcrc : BitVec 16) (s : State), served s.blk ∧
      crc16 (frameHead cmd.toNat addr.toNat ++ wordBytes ws) ≠ hcrc.toNat) :=
  ⟨⟨0x80, 0x10, 0x1A9A, S (W .service), by decide +kernel⟩, ⟨0, 0x10, [0], 0, S (W .service), by decide +kernel⟩⟩

theorem witness_FailedChecksTakeNoEffect :
    (∃ (c : CmdSpec) (h : Req) (p : List Byte) (s : Block), accepted h p s ∧ c.role.accepts h.mb.toNat = false) ∧
    (∃ (c : CmdSpec) (h : Req) (p : List Byte) (s : Block), accepted h p s ∧ c.role.accepts h.mb.toNat ∧
      (s.inMode c.modes && c.modeOf p (begun c.op h p s)) = false) ∧
    (∃ (c : CmdSpec) (h : Req) (p : List Byte) (s : Block), accepted h p s ∧ c.role.accepts h.mb.toNat ∧ s.inMode c.modes ∧
      c.modeOf p (begun c.op h p s) ∧ isExpert c.op ∧ grantValid s = false) ∧
    (∃ (c : CmdSpec) (h : Req) (p : List Byte) (s : Block), accepted h p s ∧ c.role.accepts h.mb.toNat ∧ s.inMode c.modes ∧
      c.modeOf p (begun c.op h p s) ∧ (isExpert c.op → grantValid s) ∧ c.len p = false) :=
  ⟨⟨specSafPsetCommit, R 0, [], W .standby, by decide +kernel⟩, ⟨specSafPsetCommit, R 1, [], W .service, by decide +kernel⟩,
    ⟨specDisMapLoad, R 2, [], { W .standby with cru.grant := none }, by decide +kernel⟩,
    ⟨specSafPsetCommit, R 1, [], W .standby, by decide +kernel⟩⟩

theorem witness_IdleRunCountsMeterTime : ∃ s : State, s.pending = [] ∧ TagSound s ∧ (∀ g ∈ heldGroups s.blk, g.bclass ≠ 0) ∧
    s.blk.sys.mtimeRun = true := ⟨S (W .service), rfl, ⟨rfl, rfl, rfl⟩, by decide +kernel, rfl⟩

/-- Lock 3 held by MB2; MB3 asks for it. -/
def oneLock : Block := updLock 3 (fun l => { l with owner := mbOwner 2 }) (W .service)

theorem waits_none {s : Block} (h : s.pln.locks.all (fun l => l.waiters.isEmpty) = true) : WaitsRise s := by
  intro n w hw
  exfalso
  unfold tget at hw
  rw [List.all_eq_true] at h
  rcases hg : s.pln.locks[n]? with _ | l
  · simp [hg] at hw; exact absurd hw (by decide +revert)
  · have := h l (List.mem_of_getElem? hg)
    simp_all

theorem witness_LockWaitsRise :
    (∃ (owner n : Nat) (w : Waiter) (s : Block), WaitsRise s ∧ n ≤ 31 ∧ lockAsk owner n s = .wait ∧ w.owner = owner) ∧
    (∃ (owner n : Nat) (s t : Block), WaitsRise s ∧ n ≤ 31 ∧ lockAsk owner n s = .granted t ∧ n < s.pln.locks.length) ∧
    (∃ (owner n st : Nat) (s t : Block), WaitsRise s ∧ n ≤ 31 ∧ lockAsk owner n s = .fail st t) :=
  ⟨⟨mbOwner 3, 3, ⟨mbOwner 3, 0, none, false⟩, oneLock, waits_none (by decide +kernel), by decide, rfl, rfl⟩,
    ⟨mbOwner 2, 31, W .service, _, waits_none (by decide +kernel), by decide, rfl, by decide +kernel⟩,
    ⟨mbOwner 2, 3, _, oneLock, _, waits_none (by decide +kernel), by decide, rfl⟩⟩

theorem witness_ReadFramesChangeNothing :
    ∃ (cmd : Byte) (addr : BitVec 24), ∀ a ∈ wordAddrs addr.toNat (cmd.toNat % 16 + 1), portOf a = none :=
  ⟨0x8F, 0x10, by decide +kernel⟩

theorem witness_ReadCommandsChangeNothing :
    ∃ (h : Req) (p : List Byte) (i : Instr) (s t : State), IsRead h p i ∧ TagSound s ∧ accepted h p s.blk ∧
      s.blk.pln.taken = [] ∧ exec i s = .next t :=
  ⟨R 2, [], .cmdSysInfoGet (R 2) [], S (W .service), _, by simp [IsRead], ⟨rfl, rfl, rfl⟩, by decide +kernel, rfl, rfl⟩

/-! ### The hypotheses of the statements of each chapter's commands -/


/-- Worked by hand from 16 R471: symbol 1 of a block goes to data window 163; the last symbol to window 349,
position 15. -/
theorem test_interleaver : (symWindow 1, symPos 1) = (163, 0) ∧ (symWindow 8191, symPos 8191) = (349, 15) ∧ symAt 349 15 = 8191 := by
  decide

/-- The mains link hears a block once its 512 data windows have come. -/
theorem witness_MlkBlockReceived : ∃ b : Block, mlkHears b = true ∧ b.mlk.rx.length = 512 :=
  ⟨{ W .service with mlk.st := 1, mlk.rx := List.replicate 512 [] }, by decide +kernel⟩

/-- A message of a vehicle whose link is matched, while Bylith is being reset. -/
theorem witness_V2gRequestWaits : ∃ (outlet : Nat) (b : Block), outletOk outlet = true ∧ bylithDown b = true ∧
    matched outlet b = true ∧ (b.ses outlet).tunnel = false ∧ (b.ses outlet).pending = false :=
  ⟨1, updSes 1 (fun e => { e with st := .open, proto := 3 }) (updSlac 1 (fun o => { o with result := 2 })
    { W .service with pwr.larkspurDown := true }), by decide +kernel⟩

/-- The dibits 00, 01, 11, 10 map to the tones 0 to 3 (16 R466). -/
theorem test_gray : [0, 1, 3, 2].map toneOf = [0, 1, 2, 3] := by decide
/-- A state and operands that meet the hypotheses of every clause of `Obligations.PlanCommands` that has some. -/
theorem witness_PlanCommands :
    (∃ (h : Req) (p : List Byte) (s : State) (b : Block),
      begun 0x0200 h p s.blk = b ∧ starts 0x0200 .general mRun h p s.blk ∧ p.length = 160 ∧
      (parseHdr p).domain ≤ 2 ∧ planModeOf p b ∧ bit b.split 0 ∧ (parseHdr p).flags = 1 ∧ 1 ≤ (parseHdr p).rows ∧
      (parseHdr p).rows ≤ 4096 ∧ (parseHdr p).swap ≤ 1 ∧ b.transactional (parseHdr p).domain = false ∧
      (planKey b).attr ≠ 0 ∧ stageFree h.mb.toNat (parseHdr p).domain b) ∧
    (∃ (h : Req) (p : List Byte) (s : State) (b : Block),
      begun 0x0201 h p s.blk = b ∧ starts 0x0201 .general mRun h p s.blk ∧ 8 ≤ p.length ∧
      p.length = 8 + 56 * u16At p 4 ∧ planModeOf p b ∧
      planAsk h.mb.toNat (u8At p 0) (fun g => g.stage == .loading && 1 ≤ u16At p 4 && u16At p 4 ≤ 72 && u16At p 2 + u16At p 4 ≤ g.hdr.rows) b = none) ∧
    (∃ (h : Req) (p : List Byte) (s : State) (b : Block),
      begun 0x0202 h p s.blk = b ∧ starts 0x0202 .general mRun h p s.blk ∧ p.length = 4 ∧ planModeOf p b ∧
      planAsk h.mb.toNat (u8At p 0) (fun g => g.stage == .loading) b = none) ∧
    (∃ (h : Req) (p : List Byte) (s : State) (b : Block),
      begun 0x0203 h p s.blk = b ∧ starts 0x0203 .general mRun h p s.blk ∧ p.length = 4 ∧ planModeOf p b ∧
      planAsk h.mb.toNat (u8At p 0) (fun g => g.stage != .empty) b = none) ∧
    (∃ (h : Req) (p : List Byte) (s : State) (b : Block),
      begun 0x0204 h p s.blk = b ∧ starts 0x0204 .general mServed h p s.blk ∧ p.length = 4 ∧ u8At p 0 ≤ 2) := by
  refine ⟨?_, ?_, ?_, ?_, ?_⟩
  · exact ⟨R 2, [0, 1, 1, 0] ++ zeros 156,
        S ({ cfg 1 0 [0xFF, 1] (W .service) with cru.slots := List.replicate 64 ⟨0x81000000, []⟩ }), _, rfl,
        by decide +kernel⟩
  · exact ⟨R 2, [1, 0, 0, 0, 1] ++ zeros 59,
        S (updStage 1 (fun o => { o with stage := .loading, owner := mbOwner 2, hdr := { o.hdr with rows := 1 } }) (W .service)),
        _, rfl, by decide +kernel⟩
  · exact ⟨R 2, [1, 0, 0, 0], S (updStage 1 (fun o => { o with stage := .loading, owner := mbOwner 2 }) (W .service)), _,
        rfl, by decide +kernel⟩
  · exact ⟨R 2, [1, 0, 0, 0], S (updStage 1 (fun o => { o with stage := .loading, owner := mbOwner 2 }) (W .service)), _,
        rfl, by decide +kernel⟩
  · exact ⟨R 2, [1, 0, 0, 0], S (W .service), _, rfl, by decide +kernel⟩

/-- A state and operands that meet the hypotheses of every clause of `Obligations.GroupCommands` that has some. -/
theorem witness_GroupCommands :
    (∃ (h : Req) (p : List Byte) (s : State) (b : Block),
      begun 0x0210 h p s.blk = b ∧ starts 0x0210 .general mRun h p s.blk ∧ 24 ≤ p.length ∧
      p.length = 24 + 16 * u8At p 2 ∧ groupOk (parseGroup p) b ∧ groupRoom true (parseGroup p).acts.length b ∧
      b.pln.jrnBad = false) ∧
    (∃ (h : Req) (p : List Byte) (s : State) (b : Block) (i : Nat) (g : Group),
      begun 0x0211 h p s.blk = b ∧ starts 0x0211 .general mRun h p s.blk ∧ p.length = 4 ∧
      groupBySeq (u32At p 0) b = some (i, g) ∧ g.owner = mbOwner h.mb.toNat ∧ g.due = none) ∧
    (∃ (h : Req) (p : List Byte) (s : State) (b : Block),
      begun 0x0212 h p s.blk = b ∧ starts 0x0212 .general mServed h p s.blk ∧ p = []) ∧
    (∃ (h : Req) (p : List Byte) (s : State) (b : Block),
      begun 0x0220 h p s.blk = b ∧ starts 0x0220 .general mRun h p s.blk ∧ p.length = 4 ∧ u8At p 0 ≤ 31 ∧
      u16At p 2 ≤ 5000) ∧
    (∃ (h : Req) (p : List Byte) (s : State) (b : Block),
      begun 0x0221 h p s.blk = b ∧ starts 0x0221 .general mRun h p s.blk ∧ p.length = 4 ∧ u8At p 0 ≤ 31 ∧
      holdsLock (mbOwner h.mb.toNat) (u8At p 0) b) ∧
    (∃ (h : Req) (p : List Byte) (s : State) (b : Block),
      begun 0x0280 h p s.blk = b ∧ starts 0x0280 .general mRun h p s.blk ∧ p.length = 4 ∧ u8At p 0 = 0 ∧
      u8At p 1 < 8 ∧ u8At p 2 ≤ 7 ∧ tget b.pln.arbM.cls (u8At p 1) ≠ u8At p 2) := by
  refine ⟨?_, ?_, ?_, ?_, ?_, ?_⟩
  · exact ⟨R 2, [0, 0, 1, 0, 0, 0, 0, 0, 0, 0, 0, 0, 0, 0, 0, 0, 0, 0, 0, 0, 0, 0, 0, 0, 3, 2, 1] ++ zeros 13,
        S (cfg 1 4 [7] (W .service)), _, rfl, by decide +kernel⟩
  · exact ⟨R 2, [1, 0, 0, 0],
        S ({ W .service with pln.groups := tput Block.reset.pln.groups 0 (some ⟨1, mbOwner 2, [], 0, 0, 0, 0, 0, none, none, none⟩) }),
        _, 0, ⟨1, mbOwner 2, [], 0, 0, 0, 0, 0, none, none, none⟩, rfl, by decide +kernel⟩
  · exact ⟨R 2, [], S (W .service), _, rfl, by decide +kernel⟩
  · exact ⟨R 2, [1, 0, 0, 0], S (W .service), _, rfl, by decide +kernel⟩
  · exact ⟨R 2, [1, 0, 0, 0], S (updLock 1 (fun l => { l with owner := mbOwner 2 }) (W .service)), _, rfl,
        by decide +kernel⟩
  · exact ⟨R 2, [0, 1, 0, 0], S (W .service), _, rfl, starts_eq (by decide +kernel) (grant_eq rfl (by decide +kernel)),
        by decide +kernel⟩

/-- A state and operands that meet the hypotheses of every clause of `Obligations.MetrologyCommands` that has some. -/
theorem witness_MetrologyCommands :
    (∃ (h : Req) (p : List Byte) (s : State) (b : Block),
      begun 0x0300 h p s.blk = b ∧ starts 0x0300 .general mServed h p s.blk ∧ p.length = 4 ∧ pointOk (u8At p 0)) ∧
    (∃ (h : Req) (p : List Byte) (s : State) (b : Block),
      begun 0x0301 h p s.blk = b ∧ starts 0x0301 .general mWork h p s.blk ∧ p.length = 4 ∧ pointOk (u8At p 0) ∧
      u8At p 1 ≤ 3 ∧ chInUse (u8At p 0) (u8At p 1) b ∧ checkSuppressed (u8At p 0) (u8At p 1) b = false) ∧
    (∃ (h : Req) (p : List Byte) (s : State) (b : Block) (a : Block),
      begun 0x0302 h p s.blk = b ∧ takeLocks (refOf h s.blk) (lockOf p b) b = .all a ∧
      starts 0x0302 .general [.standby, .service, .degraded, .maintain] h p s.blk ∧ p.length = 4 ∧
      asyResetOk (u8At p 0) b ∧ asyResetOk (u8At p 0) a) ∧
    (∃ (h : Req) (p : List Byte) (s : State) (b : Block),
      begun 0x0303 h p s.blk = b ∧ starts 0x0303 .general mServed h p s.blk ∧ p.length = 8 ∧ 1 ≤ u16At p 4 ∧
      u16At p 4 ≤ 4080 ∧ u32At p 0 + u16At p 4 ≤ 8384) ∧
    (∃ (h : Req) (p : List Byte) (s : State) (b : Block) (b1 : Block),
      begun 0x0380 h p s.blk = b ∧ asyRecord 0x0380 (p.map fun b => b.toNat) b = some b1 ∧
      starts 0x0380 .general mCommission h p s.blk ∧ p.length = 4 ∧ pointOk (u8At p 0) ∧ ptOn (u8At p 0) b ∧
      10 ≤ u16At p 2 ∧ u16At p 2 ≤ 500) ∧
    (∃ (h : Req) (p : List Byte) (s : State) (b : Block) (b1 : Block),
      begun 0x0381 h p s.blk = b ∧ asyRecord 0x0381 (p.map fun b => b.toNat) b = some b1 ∧
      starts 0x0381 .general mCommission h p s.blk ∧ p.length = 516 ∧ pointOk (u8At p 0)) ∧
    (∃ (h : Req) (p : List Byte) (s : State) (b : Block) (b1 : Block),
      begun 0x0382 h p s.blk = b ∧ asyRecord 0x0382 (p.map fun b => b.toNat) b = some b1 ∧
      starts 0x0382 .general mCommission h p s.blk ∧ p.length = 32 ∧
      edgesOk ((List.range 15).map fun k => i16At p (2 * k))) ∧
    (∃ (h : Req) (p : List Byte) (s : State) (b : Block) (b1 : Block),
      begun 0x0383 h p s.blk = b ∧ calCommit (u32At p 0) b = some b1 ∧
      starts 0x0383 .general mCommission h p s.blk ∧ p.length = 4 ∧ asyClear b) ∧
    (∃ (h : Req) (p : List Byte) (s : State) (b : Block) (b1 : Block),
      begun 0x0384 h p s.blk = b ∧ asyRecord 0x0384 [] b = some b1 ∧
      starts 0x0384 .general mCommission h p s.blk ∧ p = []) := by
  refine ⟨?_, ?_, ?_, ?_, ?_, ?_, ?_, ?_, ?_⟩
  · exact ⟨R 2, [1, 0, 0, 0], S (W .service), _, rfl, by decide +kernel⟩
  · exact ⟨R 2, [1, 0, 0, 0], S (W .service), _, rfl, by decide +kernel⟩
  · exact ⟨R 2, [1, 0, 0, 0], S (updPt 1 (fun x => { x with latched := true }) (W .standby)), _, _, rfl,
        allOf_eq (b := Block.reset) (by decide +kernel), by decide +kernel⟩
  · exact ⟨R 2, [0, 0, 0, 0, 4, 0, 0, 0], S (W .service), _, rfl, by decide +kernel⟩
  · exact ⟨R 2, [1, 0, 10, 0], S (W .commission), _, _, rfl, getD_eq (d := Block.reset) (by decide +kernel),
        starts_eq (by decide +kernel) (grant_eq rfl (by decide +kernel)), by decide +kernel⟩
  · exact ⟨R 2, 1 :: zeros 515, S (W .commission), _, _, rfl, getD_eq (d := Block.reset) (by decide +kernel),
        starts_eq (by decide +kernel) (grant_eq rfl (by decide +kernel)), by decide +kernel⟩
  · exact ⟨R 2, (List.range 15).flatMap (fun k => leBytes 2 (10 * k)) ++ [0, 0], S (W .commission), _, _, rfl,
        getD_eq (d := Block.reset) (by decide +kernel),
        starts_eq (by decide +kernel) (grant_eq rfl (by decide +kernel)), by decide +kernel⟩
  · exact ⟨R 2, [1, 0, 0, 0], S (W .commission), _, _, rfl, getD_eq (d := Block.reset) (by decide +kernel),
        starts_eq (by decide +kernel) (grant_eq rfl (by decide +kernel)), by decide +kernel⟩
  · exact ⟨R 2, [], S (W .commission), _, _, rfl, getD_eq (d := Block.reset) (by decide +kernel),
        starts_eq (by decide +kernel) (grant_eq rfl (by decide +kernel)), by decide +kernel⟩

/-- A state and operands that meet the hypotheses of every clause of `Obligations.EnergyCommands` that has some. -/
theorem witness_EnergyCommands :
    (∃ (h : Req) (p : List Byte) (s : State) (b : Block),
      begun 0x0400 h p s.blk = b ∧ starts 0x0400 .general (mServed ++ [.zeroised]) h p s.blk ∧ p = []) ∧
    (∃ (h : Req) (p : List Byte) (s : State) (b : Block),
      begun 0x0401 h p s.blk = b ∧ starts 0x0401 .general mServed h p s.blk ∧ p.length = 4 ∧ pointOk (u8At p 0)) ∧
    (∃ (h : Req) (p : List Byte) (s : State) (b : Block),
      begun 0x0402 h p s.blk = b ∧ starts 0x0402 .general mServed h p s.blk ∧ p.length = 4 ∧ pointOk (u8At p 0) ∧
      b.ptType (u8At p 0) ≠ 3 ∧ (u8At p 1 ≤ 2 ∨ 4 ≤ u8At p 1 ∧ u8At p 1 ≤ 6) ∧ chInUse (u8At p 0) (u8At p 1) b) ∧
    (∃ (h : Req) (p : List Byte) (s : State) (b : Block),
      begun 0x0403 h p s.blk = b ∧ starts 0x0403 .general mServed h p s.blk ∧ p.length = 4 ∧ pointOk (u8At p 0)) ∧
    (∃ (h : Req) (p : List Byte) (s : State) (b : Block),
      begun 0x0404 h p s.blk = b ∧ starts 0x0404 .general mServed h p s.blk ∧ p.length = 4 ∧ u16At p 0 ≤ 127 ∧
      1 ≤ u16At p 2 ∧ u16At p 2 ≤ 32) ∧
    (∃ (h : Req) (p : List Byte) (s : State) (b : Block),
      begun 0x0405 h p s.blk = b ∧ starts 0x0405 .general mServed h p s.blk ∧ p = []) ∧
    (∃ (h : Req) (p : List Byte) (s : State) (b : Block),
      begun 0x0480 h p s.blk = b ∧ starts 0x0480 .general mCommission h p s.blk ∧ p.length = 4 ∧ 1 ≤ u8At p 0 ∧
      u8At p 0 ≤ 8 ∧ 1 ≤ u16At p 2 ∧ u16At p 2 ≤ 10000 ∧ b.pulseOn (u8At p 0) ∧ (b.pls (u8At p 0)).testCmd = none) := by
  refine ⟨?_, ?_, ?_, ?_, ?_, ?_, ?_⟩
  · exact ⟨R 2, [], S (W .service), _, rfl, by decide +kernel⟩
  · exact ⟨R 2, [1, 0, 0, 0], S (W .service), _, rfl, by decide +kernel⟩
  · exact ⟨R 2, [1, 0, 0, 0], S (W .service), _, rfl, by decide +kernel⟩
  · exact ⟨R 2, [1, 0, 0, 0], S (W .service), _, rfl, by decide +kernel⟩
  · exact ⟨R 2, [0, 0, 1, 0], S (W .service), _, rfl, by decide +kernel⟩
  · exact ⟨R 2, [], S (W .service), _, rfl, by decide +kernel⟩
  · exact ⟨R 2, [1, 0, 10, 0], S (cfg 4 96 [0x80] (W .commission)), _, rfl,
        starts_eq (by decide +kernel) (grant_eq rfl (by decide +kernel)), by decide +kernel⟩

/-- A state and operands that meet the hypotheses of every clause of `Obligations.BillingCommands` that has some. -/
theorem witness_BillingCommands :
    (∃ (h : Req) (p : List Byte) (s : State) (b : Block),
      begun 0x0500 h p s.blk = b ∧ starts 0x0500 .general mServed h p s.blk ∧ p = []) ∧
    (∃ (h : Req) (p : List Byte) (s : State) (b : Block) (a : Block),
      begun 0x0501 h p s.blk = b ∧ takeLocks (refOf h s.blk) [15, 16] b = .all a ∧
      starts 0x0501 .general mRun h p s.blk ∧ p.length = 4) ∧
    (∃ (h : Req) (p : List Byte) (s : State) (b : Block) (l : List (List Byte)),
      begun 0x0502 h p s.blk = b ∧ (List.range (u16At p 4)).filterMap (fun i => ingotOf (u32At p 0 + i) b) = l ∧
      starts 0x0502 .general (mServed ++ [.zeroised]) h p s.blk ∧ p.length = 8 ∧ 1 ≤ u16At p 4 ∧ u16At p 4 ≤ 7 ∧
      u32At p 0 ≠ 0 ∧ l.length = u16At p 4) ∧
    (∃ (h : Req) (p : List Byte) (s : State) (b : Block),
      begun 0x0503 h p s.blk = b ∧ starts 0x0503 .general mServed h p s.blk ∧ p.length = 4 ∧
      u32At p 0 ≤ b.bil.iseq) ∧
    (∃ (h : Req) (p : List Byte) (s : State) (b : Block) (a : Block),
      begun 0x0504 h p s.blk = b ∧ takeLocks (refOf h s.blk) (tokLocks p b) b = .all a ∧
      starts 0x0504 .general mRun h p s.blk ∧ 4 ≤ p.length) ∧
    (∃ (h : Req) (p : List Byte) (s : State) (b : Block) (a : Block),
      begun 0x0505 h p s.blk = b ∧ takeLocks (refOf h s.blk) [13, 16] b = .all a ∧
      starts 0x0505 .general mRun h p s.blk ∧ p = [] ∧ ecAvail b) ∧
    (∃ (h : Req) (p : List Byte) (s : State) (b : Block) (a : Block),
      begun 0x0506 h p s.blk = b ∧ takeLocks (refOf h s.blk) [0, 13] b = .all a ∧
      starts 0x0506 .general mRun h p s.blk ∧ p.length = 4 ∧ bit b.split 4 ∧
      ((u8At p 0 == 1 && b.bil.pp == .connected && b.ppen) || (u8At p 0 == 2 && b.bil.pp == .disconnected))) ∧
    (∃ (h : Req) (p : List Byte) (s : State) (b : Block) (a : Block),
      begun 0x0507 h p s.blk = b ∧ takeLocks (refOf h s.blk) [0] b = .all a ∧
      starts 0x0507 .general [.maintain] h p s.blk ∧ p = [] ∧ b.bil.pp = .failed ∧ (b.drv 13).fb = false) ∧
    (∃ (h : Req) (p : List Byte) (s : State) (b : Block) (a : Block),
      begun 0x0508 h p s.blk = b ∧ takeLocks (refOf h s.blk) (lockOf p b) b = .all a ∧
      starts 0x0508 .general mRun h p s.blk ∧ p.length = 12 ∧ sesOpen (u8At p 0) b ∧
      (u8At p 1 = 1 ∨ u8At p 1 = 2) ∧ 0 ≤ i64At p 4 ∧ i64At p 4 ≤ 1099511627776) ∧
    (∃ (h : Req) (p : List Byte) (s : State) (b : Block) (a : Block),
      begun 0x0580 h p s.blk = b ∧ takeLocks (refOf h s.blk) [13, 16] b = .all a ∧
      starts 0x0580 .general mRun h p s.blk ∧ p.length = 8 ∧ b.ppen) := by
  refine ⟨?_, ?_, ?_, ?_, ?_, ?_, ?_, ?_, ?_, ?_⟩
  · exact ⟨R 2, [], S (W .service), _, rfl, by decide +kernel⟩
  · exact ⟨R 2, [1, 0, 0, 0], S (W .service), _, _, rfl, allOf_eq (b := Block.reset) (by decide +kernel),
        by decide +kernel⟩
  · exact ⟨R 2, [1, 0, 0, 0, 1, 0, 0, 0], S ({ W .service with bil.ingots := [zeros 300], bil.iseq := 1 }), _,
        [zeros 300], rfl, by decide +kernel, by decide +kernel⟩
  · exact ⟨R 2, [0, 0, 0, 0], S (W .service), _, rfl, by decide +kernel⟩
  · exact ⟨R 2, [0, 0, 0, 0], S (W .service), _, _, rfl, allOf_eq (b := Block.reset) (by decide +kernel),
        by decide +kernel⟩
  · exact ⟨R 2, [], S (cfg 5 0 [1, 0, 0, 0, 0, 0, 0, 0, 10, 0, 0, 0, 0, 0, 0, 0, 100] (W .service)), _, _, rfl,
        allOf_eq (b := Block.reset) (by decide +kernel), by decide +kernel⟩
  · exact ⟨R 2, [1, 0, 0, 0], S (cfg 5 0 [1] (cfg 1 0 [0xFF, 1] (W .service))), _, _, rfl,
        allOf_eq (b := Block.reset) (by decide +kernel), by decide +kernel⟩
  · exact ⟨R 2, [], S ({ W .maintain with bil.pp := .failed }), _, _, rfl,
        allOf_eq (b := Block.reset) (by decide +kernel), by decide +kernel⟩
  · exact ⟨R 2, [1, 1, 0, 0, 0, 0, 0, 0, 0, 0, 0, 0], S (updSes 1 (fun o => { o with st := .open }) (W .service)), _, _,
        rfl, allOf_eq (b := Block.reset) (by decide +kernel), by decide +kernel⟩
  · exact ⟨R 2, [1, 0, 0, 0, 0, 0, 0, 0], S (cfg 5 0 [1] (W .service)), _, _, rfl,
        allOf_eq (b := Block.reset) (by decide +kernel),
        starts_eq (by decide +kernel) (grant_eq rfl (by decide +kernel)), by decide +kernel⟩

/-- A state and operands that meet the hypotheses of every clause of `Obligations.OutletCommands` that has some. -/
theorem witness_OutletCommands :
    (∃ (h : Req) (p : List Byte) (s : State) (b : Block),
      begun 0x0600 h p s.blk = b ∧ starts 0x0600 .general mServed h p s.blk ∧ p.length = 4 ∧ outletOk (u8At p 0)) ∧
    (∃ (h : Req) (p : List Byte) (s : State) (b : Block) (a : Block),
      begun 0x0601 h p s.blk = b ∧ takeLocks (refOf h s.blk) [u8At p 0] b = .all a ∧
      starts 0x0601 .general mOutService h p s.blk ∧ p.length = 4 ∧ outletOk (u8At p 0) ∧
      ((u8At p 1 == 1 && b.svcOf (u8At p 0) == 1) || (u8At p 1 == 2 && b.svcOf (u8At p 0) == 2 && !faultLatched (u8At p 0) b))) ∧
    (∃ (h : Req) (p : List Byte) (s : State) (b : Block) (a : Block),
      begun 0x0602 h p s.blk = b ∧ takeLocks (refOf h s.blk) [u8At p 0] b = .all a ∧
      starts 0x0602 .general mOutlets h p s.blk ∧ p.length = 44 ∧ outletOk (u8At p 0) ∧
      (u8At p 1 = 1 ∨ u8At p 1 = 2) ∧ 0 ≤ i64At p 4 ∧ i64At p 4 ≤ 1099511627776 ∧ bit (b.o8 (u8At p 0) 8) 3 ∧
      ((b.ses (u8At p 0)).st = .open ∨ (b.ses (u8At p 0)).st = .parked) ∧
      ((b.ses (u8At p 0)).st = .parked → u8At p 1 = 1 → offered (u8At p 0) b = true)) ∧
    (∃ (h : Req) (p : List Byte) (s : State) (b : Block) (a : Block),
      begun 0x0603 h p s.blk = b ∧ takeLocks (refOf h s.blk) [u8At p 0] b = .all a ∧
      starts 0x0603 .general mWork h p s.blk ∧ p.length = 4 ∧ outletOk (u8At p 0) ∧ inProgress (u8At p 0) b) ∧
    (∃ (h : Req) (p : List Byte) (s : State) (b : Block) (a : Block),
      begun 0x0604 h p s.blk = b ∧ takeLocks (refOf h s.blk) [u8At p 0] b = .all a ∧
      starts 0x0604 .general mOutlets h p s.blk ∧ p.length = 4 + u16At p 2 ∧ outletOk (u8At p 0) ∧
      u16At p 2 ≤ 4076 ∧ bit b.split 1 ∧ (b.ol (u8At p 0)).tunOpen ∧
      (a.ol (u8At p 0)).tunTx.length + u16At p 2 ≤ 16384) ∧
    (∃ (h : Req) (p : List Byte) (s : State) (b : Block) (a : Block),
      begun 0x0605 h p s.blk = b ∧ takeLocks (refOf h s.blk) [u8At p 0] b = .all a ∧
      starts 0x0605 .general mOutlets h p s.blk ∧ p.length = 4 ∧ outletOk (u8At p 0) ∧ 1 ≤ u16At p 2 ∧
      u16At p 2 ≤ 4072) ∧
    (∃ (h : Req) (p : List Byte) (s : State) (b : Block) (a : Block),
      begun 0x0606 h p s.blk = b ∧ takeLocks (refOf h s.blk) [u8At p 0] b = .all a ∧
      starts 0x0606 .general mOutlets h p s.blk ∧ p.length = 8 ∧ outletOk (u8At p 0) ∧ 1 ≤ u8At p 1 ∧
      u8At p 1 ≤ 3 ∧ b.isDc (u8At p 0) ∧ bit b.split 1 ∧
      ((b.ses (u8At p 0)).st = .authorised ∨ (b.ses (u8At p 0)).st = .active) ∧
      (u8At p 1 = 2 → (b.ao (u8At p 0)).dcStep = 5) ∧ (a.ao (u8At p 0)).dcCmd = none ∧
      (u8At p 1 = 1 → (a.ao (u8At p 0)).dcStep = 0)) ∧
    (∃ (h : Req) (p : List Byte) (s : State) (b : Block) (a : Block),
      begun 0x0607 h p s.blk = b ∧ takeLocks (refOf h s.blk) [u8At p 0] b = .all a ∧
      starts 0x0607 .general mOutlets h p s.blk ∧ p.length = 8 ∧ outletOk (u8At p 0) ∧ bit b.split 1 ∧
      (u16At p 4 = 0 ∨ b.o8 (u8At p 0) 1 = 1)) ∧
    (∃ (h : Req) (p : List Byte) (s : State) (b : Block) (a : Block),
      begun 0x0608 h p s.blk = b ∧ takeLocks (refOf h s.blk) [u8At p 0] b = .all a ∧
      starts 0x0608 .general mOutlets h p s.blk ∧ 5 ≤ p.length ∧ p.length ≤ 4080 ∧ outletOk (u8At p 0) ∧
      (b.ol (u8At p 0)).certAt.isSome) ∧
    (∃ (h : Req) (p : List Byte) (s : State) (b : Block) (a : Block),
      begun 0x0680 h p s.blk = b ∧ takeLocks (refOf h s.blk) [u8At p 0] b = .all a ∧
      starts 0x0680 .general mOutService h p s.blk ∧ p.length = 4 ∧ outletOk (u8At p 0) ∧
      ((u8At p 1 == 1 && b.svcOf (u8At p 0) == 2 && driverOpen (u8At p 0) b && (b.ol (u8At p 0)).bypCmd.isNone) || (u8At p 1 == 2 && b.svcOf (u8At p 0) == 3 && bypassTests (u8At p 0) b))) ∧
    (∃ (h : Req) (p : List Byte) (s : State) (b : Block) (a : Block),
      begun 0x0681 h p s.blk = b ∧ takeLocks (refOf h s.blk) [u8At p 0] b = .all a ∧
      starts 0x0681 .general mCommission h p s.blk ∧ p.length = 4 ∧ outletOk (u8At p 0) ∧ u8At p 1 ≤ 4 ∧
      50 ≤ u16At p 2 ∧ u16At p 2 ≤ 1000 ∧ b.svcOf (u8At p 0) ≠ 1) := by
  refine ⟨?_, ?_, ?_, ?_, ?_, ?_, ?_, ?_, ?_, ?_, ?_⟩
  · exact ⟨R 2, [1, 0, 0, 0], S (W .service), _, rfl, by decide +kernel⟩
  · exact ⟨R 2, [1, 1, 0, 0], S ({ W .service with sys.svc := tput Block.reset.sys.svc 0 1 }), _, _, rfl,
        allOf_eq (b := Block.reset) (by decide +kernel), by decide +kernel⟩
  · exact ⟨R 2, [1, 1] ++ zeros 42, S (updSes 1 (fun o => { o with st := .open }) (cfg 6 24 [8] (W .service))), _, _,
        rfl, allOf_eq (b := Block.reset) (by decide +kernel), by decide +kernel⟩
  · exact ⟨R 2, [1, 0, 0, 0], S (updSes 1 (fun o => { o with st := .open }) (W .service)), _, _, rfl,
        allOf_eq (b := Block.reset) (by decide +kernel), by decide +kernel⟩
  · exact ⟨R 2, [1, 0, 1, 0, 0], S (updOl 1 (fun o => { o with tunOpen := true }) (cfg 1 0 [0xFF, 1] (W .service))), _,
        _, rfl, allOf_eq (b := Block.reset) (by decide +kernel), by decide +kernel⟩
  · exact ⟨R 2, [1, 0, 1, 0], S (W .service), _, _, rfl, allOf_eq (b := Block.reset) (by decide +kernel),
        by decide +kernel⟩
  · exact ⟨R 2, [1, 1, 0, 0, 0, 0, 0, 0],
        S (updSes 1 (fun o => { o with st := .authorised }) (cfg 6 16 [2] (cfg 1 0 [0xFF, 1] (W .service)))), _, _,
        rfl, allOf_eq (b := Block.reset) (by decide +kernel), by decide +kernel⟩
  · exact ⟨R 2, [1, 0, 0, 0, 0, 0, 0, 0], S (cfg 1 0 [0xFF, 1] (W .service)), _, _, rfl,
        allOf_eq (b := Block.reset) (by decide +kernel), by decide +kernel⟩
  · exact ⟨R 2, [1, 0, 0, 0, 0], S (updOl 1 (fun o => { o with certAt := some 0 }) (W .service)), _, _, rfl,
        allOf_eq (b := Block.reset) (by decide +kernel), by decide +kernel⟩
  · exact ⟨R 2, [1, 1, 0, 0], S ({ W .maintain with sys.svc := tput Block.reset.sys.svc 0 2 }), _, _, rfl,
        allOf_eq (b := Block.reset) (by decide +kernel),
        starts_eq (by decide +kernel) (grant_eq rfl (by decide +kernel)), by decide +kernel⟩
  · exact ⟨R 2, [1, 0, 50, 0], S (W .commission), _, _, rfl, allOf_eq (b := Block.reset) (by decide +kernel),
        starts_eq (by decide +kernel) (grant_eq rfl (by decide +kernel)), by decide +kernel⟩

/-- A state and operands that meet the hypotheses of every clause of `Obligations.AllocationCommands` that has some. -/
theorem witness_AllocationCommands :
    (∃ (h : Req) (p : List Byte) (s : State) (b : Block),
      begun 0x0700 h p s.blk = b ∧ starts 0x0700 .general mServed h p s.blk ∧ p = []) ∧
    (∃ (h : Req) (p : List Byte) (s : State) (b : Block),
      begun 0x0701 h p s.blk = b ∧ starts 0x0701 .general mWork h p s.blk ∧ p.length = 8) ∧
    (∃ (h : Req) (p : List Byte) (s : State) (b : Block) (a : Block),
      begun 0x0702 h p s.blk = b ∧ takeLocks (refOf h s.blk) [u8At p 0] b = .all a ∧
      starts 0x0702 .general mOutlets h p s.blk ∧ p.length = 8 ∧ outletOk (u8At p 0) ∧
      (u16At p 4 = 0 ∨ b.o8 (u8At p 0) 1 = 1) ∧ inProgress (u8At p 0) b) ∧
    (∃ (h : Req) (p : List Byte) (s : State) (b : Block) (a : Block),
      begun 0x0703 h p s.blk = b ∧ takeLocks (refOf h s.blk) (driverLock p b) b = .all a ∧
      starts 0x0703 .general mOutService h p s.blk ∧ p.length = 4 ∧ cdNameOk (u8At p 0) ∧ resetOk (u8At p 0) b) ∧
    (∃ (h : Req) (p : List Byte) (s : State) (b : Block),
      begun 0x0704 h p s.blk = b ∧ starts 0x0704 .general mServed h p s.blk ∧ p.length = 4 ∧ canOk (u8At p 0) ∧
      1 ≤ u8At p 1 ∧ u8At p 1 ≤ 15 ∧ bit (nodesConfigured (u8At p 0) b) (u8At p 1) ∧
      (b.link (u8At p 0)).identCmd = none) ∧
    (∃ (h : Req) (p : List Byte) (s : State) (b : Block) (a : Block),
      begun 0x0780 h p s.blk = b ∧ takeLocks (refOf h s.blk) (driverLock p b) b = .all a ∧
      starts 0x0780 .general [.maintain, .commission] h p s.blk ∧ p.length = 4 ∧ cdNameOk (u8At p 0) ∧
      100 ≤ u16At p 2 ∧ u16At p 2 ≤ 5000 ∧ cdTestOk (u8At p 0) b ∧ a.alc.test = none) ∧
    (∃ (h : Req) (p : List Byte) (s : State) (b : Block),
      begun 0x0781 h p s.blk = b ∧ starts 0x0781 .general mCommission h p s.blk ∧ p.length = 8 + u8At p 4 ∧
      canOk (u8At p 0) ∧ u8At p 1 ≤ 1 ∧ 1 ≤ u16At p 2 ∧ u16At p 2 ≤ 0x7FF ∧ u8At p 4 ≤ 64 ∧
      outlets.all (fun n => !(b.isDc n && b.linkOf n == u8At p 0 && b.svcOf n == 1))) := by
  refine ⟨?_, ?_, ?_, ?_, ?_, ?_, ?_⟩
  · exact ⟨R 2, [], S (W .service), _, rfl, by decide +kernel⟩
  · exact ⟨R 2, [1, 0, 0, 0, 0, 0, 0, 0], S (W .service), _, rfl, by decide +kernel⟩
  · exact ⟨R 2, [1, 0, 0, 0, 0, 0, 0, 0], S (updSes 1 (fun o => { o with st := .open }) (W .service)), _, _, rfl,
        allOf_eq (b := Block.reset) (by decide +kernel), by decide +kernel⟩
  · exact ⟨R 2, [1, 0, 0, 0], S (updDrv 1 (fun o => { o with fcause := 1 }) (W .service)), _, _, rfl,
        allOf_eq (b := Block.reset) (by decide +kernel), by decide +kernel⟩
  · exact ⟨R 2, [1, 1, 0, 0], S (cfg 8 45 [1, 1, 1] (cfg 6 16 [2] (W .service))), _, rfl, by decide +kernel⟩
  · exact ⟨R 2, [1, 0, 100, 0], S (W .maintain), _, _, rfl, allOf_eq (b := Block.reset) (by decide +kernel),
        starts_eq (by decide +kernel) (grant_eq rfl (by decide +kernel)), by decide +kernel⟩
  · exact ⟨R 2, [1, 0, 1, 0, 0, 0, 0, 0], S (W .commission), _, rfl,
        starts_eq (by decide +kernel) (grant_eq rfl (by decide +kernel)), by decide +kernel⟩

/-- A state and operands that meet the hypotheses of every clause of `Obligations.ResidualCurrentCommands` that has some. -/
theorem witness_ResidualCurrentCommands :
    (∃ (h : Req) (p : List Byte) (s : State) (b : Block),
      begun 0x0800 h p s.blk = b ∧ starts 0x0800 .general mServed h p s.blk ∧ p.length = 4 ∧ outletOk (u8At p 0)) ∧
    (∃ (h : Req) (p : List Byte) (s : State) (b : Block) (a : Block),
      begun 0x0801 h p s.blk = b ∧ takeLocks (refOf h s.blk) (lockOf p b) b = .all a ∧
      starts 0x0801 .general mOutService h p s.blk ∧ p.length = 4 ∧ rcmResetOk (u8At p 0) b ∧
      (a.rc (u8At p 0)).run = .no) ∧
    (∃ (h : Req) (p : List Byte) (s : State) (b : Block) (a : Block),
      begun 0x0802 h p s.blk = b ∧ takeLocks (refOf h s.blk) [u8At p 0] b = .all a ∧
      starts 0x0802 .general mWork h p s.blk ∧ p.length = 4 ∧ outletOk (u8At p 0) ∧ b.svcOf (u8At p 0) ≠ 0 ∧
      b.svcOf (u8At p 0) ≠ 3 ∧ (b.drv (u8At p 0)).fb = false ∧ (b.drv (u8At p 0)).on = false ∧
      (b.ao (u8At p 0)).dcStep = 0 ∧ (a.rc (u8At p 0)).run = .no) ∧
    (∃ (h : Req) (p : List Byte) (s : State) (b : Block) (a : Block),
      begun 0x0803 h p s.blk = b ∧ takeLocks (refOf h s.blk) [u8At p 0] b = .all a ∧
      starts 0x0803 .general [.maintain, .commission] h p s.blk ∧ p.length = 4 ∧ outletOk (u8At p 0) ∧
      b.isDc (u8At p 0) ∧ b.svcOf (u8At p 0) ≠ 1 ∧ (b.drv (u8At p 0)).fb = false ∧ (b.drv (u8At p 0)).on = false) ∧
    (∃ (h : Req) (p : List Byte) (s : State) (b : Block) (a : Block),
      begun 0x0880 h p s.blk = b ∧ takeLocks (refOf h s.blk) [u8At p 0] b = .all a ∧
      starts 0x0880 .general mCommission h p s.blk ∧ p.length = 8 ∧ outletOk (u8At p 0) ∧
      (u8At p 1 = 1 ∨ u8At p 1 = 2) ∧ 1 ≤ u16At p 2 ∧ u16At p 2 ≤ 5000 ∧ 10 ≤ u16At p 4 ∧ u16At p 4 ≤ 2000 ∧
      b.svcOf (u8At p 0) ≠ 1 ∧ b.svcOf (u8At p 0) ≠ 3 ∧ (a.rc (u8At p 0)).run = .no) := by
  refine ⟨?_, ?_, ?_, ?_, ?_⟩
  · exact ⟨R 2, [1, 0, 0, 0], S (W .service), _, rfl, by decide +kernel⟩
  · exact ⟨R 2, [1, 0, 0, 0], S (updRc 1 (fun o => { o with cause := 1 }) (W .service)), _, _, rfl,
        allOf_eq (b := Block.reset) (by decide +kernel), by decide +kernel⟩
  · exact ⟨R 2, [1, 0, 0, 0], S (W .service), _, _, rfl, allOf_eq (b := Block.reset) (by decide +kernel),
        by decide +kernel⟩
  · exact ⟨R 2, [1, 0, 0, 0], S (cfg 6 16 [2] (W .maintain)), _, _, rfl, allOf_eq (b := Block.reset) (by decide +kernel),
        by decide +kernel⟩
  · exact ⟨R 2, [1, 1, 1, 0, 10, 0, 0, 0], S (W .commission), _, _, rfl, allOf_eq (b := Block.reset) (by decide +kernel),
        starts_eq (by decide +kernel) (grant_eq rfl (by decide +kernel)), by decide +kernel⟩

/-- A state and operands that meet the hypotheses of every clause of `Obligations.SafetyInputCommands` that has some. -/
theorem witness_SafetyInputCommands :
    (∃ (h : Req) (p : List Byte) (s : State) (b : Block),
      begun 0x0900 h p s.blk = b ∧ starts 0x0900 .notMb0 mServed h p s.blk ∧ p = []) ∧
    (∃ (h : Req) (p : List Byte) (s : State) (b : Block),
      begun 0x0901 h p s.blk = b ∧ starts 0x0901 .notMb0 mServed h p s.blk ∧ p.length = 8 ∧ 1 ≤ u16At p 4 ∧
      u16At p 4 ≤ 416 ∧ u32At p 0 + u16At p 4 ≤ 416) ∧
    (∃ (h : Req) (p : List Byte) (s : State) (b : Block),
      begun 0x0902 h p s.blk = b ∧ starts 0x0902 .mb1 mStandby h p s.blk ∧ 5 ≤ p.length ∧ p.length ≤ 420 ∧
      u32At p 0 % 4 = 0 ∧ u32At p 0 + (p.drop 4).length ≤ 416) ∧
    (∃ (h : Req) (p : List Byte) (s : State) (b : Block) (own : Nat) (st : List Byte) (set : List Byte),
      begun 0x0903 h p s.blk = b ∧ fixLen 416 st = set ∧ starts 0x0903 .mb1 mStandby h p s.blk ∧ p.length = 8 ∧
      b.saf.stage = some (own, st) ∧ psetOk set b.fitted ∧ u32At p 0 = u32At set 8 ∧ u32At p 4 = u32At set 4) ∧
    (∃ (h : Req) (p : List Byte) (s : State) (b : Block),
      begun 0x0904 h p s.blk = b ∧ starts 0x0904 .mb1 mStandby h p s.blk ∧ p.length = 16 ∧ b.saf.pstate = 1 ∧
      u32At p 0 = u32At b.saf.pset 4) ∧
    (∃ (h : Req) (p : List Byte) (s : State) (b : Block),
      begun 0x0980 h p s.blk = b ∧ starts 0x0980 .notMb0 [.maintain, .commission] h p s.blk ∧ p.length = 4 ∧
      u8At p 0 ≤ 15 ∧ b.fnKind (u8At p 0) ≠ 0 ∧ 100 ≤ u16At p 2 ∧ u16At p 2 ≤ 10000 ∧
      (b.fn (u8At p 0)).test = none) := by
  refine ⟨?_, ?_, ?_, ?_, ?_, ?_⟩
  · exact ⟨R 1, [], S (W .service), _, rfl, by decide +kernel⟩
  · exact ⟨R 1, [0, 0, 0, 0, 4, 0, 0, 0], S (W .service), _, rfl, by decide +kernel⟩
  · exact ⟨R 1, [0, 0, 0, 0, 0, 0, 0, 0], S (W .standby), _, rfl, by decide +kernel⟩
  · set_option maxRecDepth 100000 in exact ⟨R 1, bytesAt Block.reset.saf.pset 8 4 ++ bytesAt Block.reset.saf.pset 4 4,
        S ({ W .standby with saf.stage := some (1, Block.reset.saf.pset) }), _, 1, Block.reset.saf.pset, _, rfl, rfl,
        by decide +kernel⟩
  · exact ⟨R 1, [0, 0, 0, 0, 0, 0, 0, 0, 0, 0, 0, 0, 0, 0, 0, 0], S ({ W .standby with saf.pstate := 1 }), _, rfl,
        by decide +kernel⟩
  · exact ⟨R 1, [1, 0, 100, 0], S ({ W .maintain with saf.pset := putBytes Block.reset.saf.pset 176 [1] }), _, rfl,
        starts_eq (by decide +kernel) (grant_eq rfl (by decide +kernel)), by decide +kernel⟩

/-- A state and operands that meet the hypotheses of every clause of `Obligations.SecurityCommands` that has some. -/
theorem witness_SecurityCommands :
    (∃ (h : Req) (p : List Byte) (s : State) (b : Block),
      begun 0x0A00 h p s.blk = b ∧ starts 0x0A00 .mb0 mServed h p s.blk ∧ p = []) ∧
    (∃ (h : Req) (p : List Byte) (s : State) (b : Block),
      begun 0x0A01 h p s.blk = b ∧ starts 0x0A01 .mb0 mWork h p s.blk ∧ p.length = 4 + u8At p 0 ∧ 8 ≤ u8At p 0 ∧
      u8At p 0 ≤ 64) ∧
    (∃ (h : Req) (p : List Byte) (s : State) (b : Block),
      begun 0x0A02 h p s.blk = b ∧ starts 0x0A02 .mb0 mWork h p s.blk ∧ p.length = 128) ∧
    (∃ (h : Req) (p : List Byte) (s : State) (b : Block) (g : Grant),
      begun 0x0A03 h p s.blk = b ∧ b.cru.grant = some g ∧ starts 0x0A03 .mb0 mWork h p s.blk ∧ p = []) ∧
    (∃ (h : Req) (p : List Byte) (s : State) (b : Block),
      begun 0x0A04 h p s.blk = b ∧ starts 0x0A04 .mb0 [.factory] h p s.blk ∧ p.length = 128) ∧
    (∃ (h : Req) (p : List Byte) (s : State) (b : Block),
      begun 0x0A05 h p s.blk = b ∧ starts 0x0A05 .mb0 [.provision, .standby] h p s.blk ∧ 8 ≤ p.length ∧
      p.length = 8 + u16At p 2 ∧ 1 ≤ u16At p 0 ∧ u16At p 0 ≤ 9 ∧ u8At p 4 = b2n (itemWrapped (u16At p 0)) ∧
      allZero (bytesAt p 5 3) ∧ (itemWrapped (u16At p 0) → 68 ≤ p.length) ∧
      (b.sys.mode = .standby → itemField (u16At p 0) = true ∧ grantValid b = true)) ∧
    (∃ (h : Req) (p : List Byte) (s : State) (b : Block),
      begun 0x0A06 h p s.blk = b ∧ starts 0x0A06 .mb0 [.provision] h p s.blk ∧ p = [] ∧ provComplete b) ∧
    (∃ (h : Req) (p : List Byte) (s : State) (b : Block),
      begun 0x0A07 h p s.blk = b ∧ starts 0x0A07 .mb0 [.provision, .standby] h p s.blk ∧ p.length = 4 ∧
      (b.sys.mode = .standby → grantValid b = true) ∧ 16 ≤ u8At p 0 ∧ u8At p 0 ≤ 19 ∧ b.cru.drbgOk = true) ∧
    (∃ (h : Req) (p : List Byte) (s : State) (b : Block),
      begun 0x0A08 h p s.blk = b ∧ starts 0x0A08 .mb0 mKeys h p s.blk ∧ p.length = 4 ∧ u8At p 0 < 64 ∧
      slotValid (u8At p 0) b ∧ 1 ≤ keyType (u8At p 0) b ∧ keyType (u8At p 0) b ≤ 6) ∧
    (∃ (h : Req) (p : List Byte) (s : State) (b : Block) (c : List Byte),
      begun 0x0A09 h p s.blk = b ∧ certOf (u8At p 0) (u8At p 1) b = some c ∧ starts 0x0A09 .mb0 mKeys h p s.blk ∧
      p.length = 4) ∧
    (∃ (h : Req) (p : List Byte) (s : State) (b : Block),
      begun 0x0A0A h p s.blk = b ∧ starts 0x0A0A .mb0 mServed h p s.blk ∧ p.length = 4 ∧ u8At p 0 ≤ 63 ∧
      1 ≤ u8At p 1 ∧ u8At p 1 ≤ 64) ∧
    (∃ (h : Req) (p : List Byte) (s : State) (b : Block),
      begun 0x0A0B h p s.blk = b ∧ starts 0x0A0B .mb0 [.maintain] h p s.blk ∧ p = [] ∧ class2Open b = false) ∧
    (∃ (h : Req) (p : List Byte) (s : State) (b : Block),
      begun 0x0A0C h p s.blk = b ∧ starts 0x0A0C .mb0 [.standby, .maintain] h p s.blk ∧ p.length = 128) ∧
    (∃ (h : Req) (p : List Byte) (s : State) (b : Block),
      begun 0x0A80 h p s.blk = b ∧ starts 0x0A80 .mb0 mWork h p s.blk ∧ p.length = 4 ∧
      (u8At p 0 = 1 ∨ u8At p 0 = 2)) ∧
    (∃ (h : Req) (p : List Byte) (s : State) (b : Block),
      begun 0x0A81 h p s.blk = b ∧ starts 0x0A81 .mb0 mStandby h p s.blk ∧ p.length = 4 ∧ 8 ≤ u8At p 0 ∧
      u8At p 0 ≤ 31 ∧ slotLocked (u8At p 0) = false) ∧
    (∃ (h : Req) (p : List Byte) (s : State) (b : Block),
      begun 0x0A82 h p s.blk = b ∧ starts 0x0A82 .mb0 mCommission h p s.blk ∧ p.length = 4 ∧ 1 ≤ u8At p 0 ∧
      u8At p 0 ≤ 2) := by
  refine ⟨?_, ?_, ?_, ?_, ?_, ?_, ?_, ?_, ?_, ?_, ?_, ?_, ?_, ?_, ?_, ?_⟩
  · exact ⟨R 0, [], S (W .service), _, rfl, by decide +kernel⟩
  · exact ⟨R 0, [8, 0, 0, 0, 0, 0, 0, 0, 0, 0, 0, 0], S (W .service), _, rfl, by decide +kernel⟩
  · exact ⟨R 0, 1 :: zeros 127, S (W .service), _, rfl, by decide +kernel⟩
  · exact ⟨R 0, [], S (W .service), _, _, rfl, getD_eq (d := default) (by decide +kernel), by decide +kernel⟩
  · exact ⟨R 0, 1 :: zeros 127, S (W .factory), _, rfl, by decide +kernel⟩
  · exact ⟨R 0, [1, 0, 0, 0, 0, 0, 0, 0], S (W .provision), _, rfl, by decide +kernel⟩
  · exact ⟨R 0, [], S ({ W .provision with cru.items := 0xFFFF, cru.slots := List.replicate 64 ⟨0x80000000, []⟩ }), _,
        rfl, by decide +kernel⟩
  · exact ⟨R 0, [16, 0, 0, 0], S (W .provision), _, rfl, by decide +kernel⟩
  · exact ⟨R 0, [1, 0, 0, 0], S ({ W .service with cru.slots := List.replicate 64 ⟨0x81000000, []⟩ }), _, rfl,
        by decide +kernel⟩
  · exact ⟨R 0, [0, 0, 0, 0], S (W .service), _, _, rfl, getD_eq (d := default) (by decide +kernel), by decide +kernel⟩
  · exact ⟨R 0, [0, 1, 0, 0], S (W .service), _, rfl, by decide +kernel⟩
  · exact ⟨R 0, [], S (W .maintain), _, rfl, by decide +kernel⟩
  · exact ⟨R 0, 1 :: zeros 127, S (W .standby), _, rfl, by decide +kernel⟩
  · exact ⟨R 0, [1, 0, 0, 0], S (W .service), _, rfl, starts_eq (by decide +kernel) (grant_eq rfl (by decide +kernel)),
        by decide +kernel⟩
  · exact ⟨R 0, [16, 0, 0, 0], S (W .standby), _, rfl, starts_eq (by decide +kernel) (grant_eq rfl (by decide +kernel)),
        by decide +kernel⟩
  · exact ⟨R 0, [1, 0, 0, 0], S (W .commission), _, rfl,
        starts_eq (by decide +kernel) (grant_eq rfl (by decide +kernel)), by decide +kernel⟩

/-- A state and operands that meet the hypotheses of every clause of `Obligations.ContactlessCommands` that has some. -/
theorem witness_ContactlessCommands :
    (∃ (h : Req) (p : List Byte) (s : State) (b : Block),
      begun 0x0B00 h p s.blk = b ∧ starts 0x0B00 .general mServed h p s.blk ∧ p = []) ∧
    (∃ (h : Req) (p : List Byte) (s : State) (b : Block),
      begun 0x0B01 h p s.blk = b ∧ starts 0x0B01 .general mServed h p s.blk ∧ p = []) ∧
    (∃ (h : Req) (p : List Byte) (s : State) (b : Block) (es : List (List Byte)) (l : List (List Byte)),
      begun 0x0B02 h p s.blk = b ∧ (List.range (u16At p 0)).map (fun i => bytesAt p (4 + 24 * i) 24) = es ∧
      es.foldl (fun l e => wlPut e l) b.cls.wl = l ∧ starts 0x0B02 .general mWork h p s.blk ∧ 4 ≤ p.length ∧
      p.length = 4 + 24 * u16At p 0 ∧ 1 ≤ u16At p 0 ∧ u16At p 0 ≤ 160 ∧ es.all wlOk ∧ l.length ≤ 1024) ∧
    (∃ (h : Req) (p : List Byte) (s : State) (b : Block) (l : List (List Byte)),
      begun 0x0B03 h p s.blk = b ∧
      (if bit (u8At p 0) 0 then some [] else wlDrop ((List.range (u16At p 2)).map fun i => bytesAt p (4 + 12 * i) 12) b.cls.wl) = some l ∧
      starts 0x0B03 .general mWork h p s.blk ∧ 4 ≤ p.length ∧ p.length = 4 + 12 * u16At p 2 ∧ u16At p 2 ≤ 300) ∧
    (∃ (h : Req) (p : List Byte) (s : State) (b : Block),
      begun 0x0B04 h p s.blk = b ∧ starts 0x0B04 .general mServed h p s.blk ∧ p.length = 4 ∧ 1 ≤ u16At p 2 ∧
      u16At p 2 ≤ 169) ∧
    (∃ (h : Req) (p : List Byte) (s : State) (b : Block),
      begun 0x0B05 h p s.blk = b ∧ starts 0x0B05 .general mWork h p s.blk ∧ p.length = 4 ∧ 1 ≤ u8At p 0 ∧
      u8At p 0 ≤ 4 ∧ u8At p 1 ≤ 2 ∧ u16At p 2 < 4096 ∧
      outlets.all (fun n => !bit (u16At p 2) (n - 1) || b.fitted n) ∧ (u8At p 1 = 0 ∨ b.ant8 (u8At p 0) 4 ≠ 0) ∧
      antBusy (u8At p 0) b = false) ∧
    (∃ (h : Req) (p : List Byte) (s : State) (b : Block),
      begun 0x0B06 h p s.blk = b ∧ starts 0x0B06 .general [.service, .degraded, .maintain] h p s.blk ∧
      4 ≤ p.length ∧ p.length = 4 + u16At p 2 ∧ 4 ≤ u16At p 2 ∧ u16At p 2 ≤ 261 ∧ bit b.split 2 ∧
      heldOn (u8At p 0) b) ∧
    (∃ (h : Req) (p : List Byte) (s : State) (b : Block) (b1 : Block),
      begun 0x0B10 h p s.blk = b ∧ wiredMeets (u8At p 0) (u8At p 1) b = b1 ∧
      starts 0x0B10 .general (.zeroised :: mServed) h p s.blk ∧ p.length = 4 ∧ wiredReads (u8At p 0) (u8At p 1) ∧
      wiredOk b ∧
      (upto (u8At p 0) (u8At p 0 + u8At p 1 - 1)).all (fun j => !b1.tag.bad.contains j || b1.tag.out.any (covers j))) ∧
    (∃ (h : Req) (p : List Byte) (s : State) (b : Block),
      begun 0x0B11 h p s.blk = b ∧ starts 0x0B11 .general mWork h p s.blk ∧ 4 ≤ p.length ∧
      p.length = 4 + 128 * u8At p 1 ∧ 128 ≤ u8At p 0 ∧ 1 ≤ u8At p 1 ∧ u8At p 1 ≤ 3 ∧ u8At p 0 + u8At p 1 ≤ 256 ∧
      wiredOk b ∧ (upto (u8At p 0) (u8At p 0 + u8At p 1 - 1)).filter (fun j => bit b.tag.locks (j - 128)) = []) ∧
    (∃ (h : Req) (p : List Byte) (s : State) (b : Block) (key : List Byte),
      begun 0x0B80 h p s.blk = b ∧ b.tag.key = some key ∧
      starts 0x0B80 .general [.standby, .maintain, .commission] h p s.blk ∧ p.length = 4 ∧
      b.tag.toolMin ≤ u32At p 0 ∧ b.tag.port = true) ∧
    (∃ (h : Req) (p : List Byte) (s : State) (b : Block),
      begun 0x0B81 h p s.blk = b ∧ starts 0x0B81 .general mWork h p s.blk ∧ p.length = 4 ∧
      b.tag.toolMin ≤ u32At p 0 ∧ wiredOk b) ∧
    (∃ (h : Req) (p : List Byte) (s : State) (b : Block),
      begun 0x0B82 h p s.blk = b ∧ starts 0x0B82 .general mCommission h p s.blk ∧ p.length = 4 ∧ 1 ≤ u8At p 0 ∧
      u8At p 0 ≤ 4 ∧ u8At p 1 ≤ 7 ∧ 100 ≤ u16At p 2 ∧ u16At p 2 ≤ 60000 ∧ (b.ant (u8At p 0)).held ∧
      b.cls.test = none ∧ antBusy (u8At p 0) b = false) := by
  refine ⟨?_, ?_, ?_, ?_, ?_, ?_, ?_, ?_, ?_, ?_, ?_, ?_⟩
  · exact ⟨R 2, [], S (W .service), _, rfl, by decide +kernel⟩
  · exact ⟨R 2, [], S (W .service), _, rfl, by decide +kernel⟩
  · exact ⟨R 2, [1, 0, 0, 0, 4] ++ zeros 23, S (W .service), _, _, _, rfl, rfl, rfl, by decide +kernel⟩
  · exact ⟨R 2, [1, 0, 0, 0], S (W .service), _, _, rfl, getD_eq (d := default) (by decide +kernel), by decide +kernel⟩
  · exact ⟨R 2, [0, 0, 1, 0], S (W .service), _, rfl, by decide +kernel⟩
  · exact ⟨R 2, [1, 0, 0, 0], S (W .service), _, rfl, by decide +kernel⟩
  · exact ⟨R 2, [1, 0, 4, 0, 0, 0, 0, 0], S ({ cfg 1 0 [0xFF, 1] (W .service) with cls.hold := some ⟨1, 1, 0⟩ }), _, rfl,
        by decide +kernel⟩
  · exact ⟨R 2, [0, 1, 0, 0], S (W .service), _, _, rfl, rfl, by decide +kernel⟩
  · exact ⟨R 2, [128, 1] ++ zeros 130, S (W .service), _, rfl, by decide +kernel⟩
  · exact ⟨R 2, [1, 0, 0, 0], S ({ W .commission with tag.key := some [], tag.port := true }), _, _, rfl,
        getD_eq (d := default) (by decide +kernel), starts_eq (by decide +kernel) (grant_eq rfl (by decide +kernel)),
        by decide +kernel⟩
  · exact ⟨R 2, [1, 0, 0, 0], S (W .service), _, rfl, starts_eq (by decide +kernel) (grant_eq rfl (by decide +kernel)),
        by decide +kernel⟩
  · exact ⟨R 2, [1, 0, 100, 0], S (updAnt 1 (fun a => { a with held := true }) (W .commission)), _, rfl,
        starts_eq (by decide +kernel) (grant_eq rfl (by decide +kernel)), by decide +kernel⟩

/-- A state and operands that meet the hypotheses of every clause of `Obligations.MainsLinkCommands` that has some. -/
theorem witness_MainsLinkCommands :
    (∃ (h : Req) (p : List Byte) (s : State) (b : Block),
      begun 0x0C00 h p s.blk = b ∧ starts 0x0C00 .general mServed h p s.blk ∧ p = []) ∧
    (∃ (h : Req) (p : List Byte) (s : State) (b : Block),
      begun 0x0C01 h p s.blk = b ∧ starts 0x0C01 .general mServed h p s.blk ∧ p.length = 4 ∧ 1 ≤ u8At p 0 ∧
      u8At p 0 ≤ 14) ∧
    (∃ (h : Req) (p : List Byte) (s : State) (b : Block),
      begun 0x0C02 h p s.blk = b ∧ starts 0x0C02 .general mWork h p s.blk ∧ 8 ≤ p.length ∧
      p.length = 8 + u16At p 2 ∧ [6, 9, 11].contains (u8At p 0) ∧
      u16At p 2 ≤ (if bit (u8At p 1 % 4) 0 then 220 else 236) ∧
      (bit (u8At p 1 % 4) 0 = true → slotValid 14 b = true) ∧ b.m8 0 = 1 ∧ isHead (u32At p 4) ∧
      b.mlk.txq.length + b.mlk.out.length < 16) ∧
    (∃ (h : Req) (p : List Byte) (s : State) (b : Block),
      begun 0x0C80 h p s.blk = b ∧ starts 0x0C80 .general mCommission h p s.blk ∧ p.length = 4 ∧ 1 ≤ u8At p 0 ∧
      u8At p 0 ≤ 3 ∧ u8At p 1 ≤ 3 ∧ 100 ≤ u16At p 2 ∧ u16At p 2 ≤ 10000 ∧ b.mlk.st ≠ 2 ∧ b.mlk.st ≠ 4 ∧
      b.mlk.test = none) := by
  refine ⟨?_, ?_, ?_, ?_⟩
  · exact ⟨R 2, [], S (W .service), _, rfl, by decide +kernel⟩
  · exact ⟨R 2, [1, 0, 0, 0], S (W .service), _, rfl, by decide +kernel⟩
  · exact ⟨R 2, [6, 0, 0, 0, 1, 0, 0, 0], S ({ W .service with mlk.cfg := putBytes Block.reset.mlk.cfg 0 [1] }), _, rfl,
        by decide +kernel⟩
  · exact ⟨R 2, [1, 0, 100, 0], S (W .commission), _, rfl,
        starts_eq (by decide +kernel) (grant_eq rfl (by decide +kernel)), by decide +kernel⟩

/-- A state and operands that meet the hypotheses of every clause of `Obligations.DisplayCommands` that has some. -/
theorem witness_DisplayCommands :
    (∃ (h : Req) (p : List Byte) (s : State) (b : Block),
      begun 0x0D00 h p s.blk = b ∧ starts 0x0D00 .general mServed h p s.blk ∧ p = []) ∧
    (∃ (h : Req) (p : List Byte) (s : State) (b : Block),
      begun 0x0D01 h p s.blk = b ∧ starts 0x0D01 .general mWork h p s.blk ∧ p.length = 3460 ∧ bit b.split 6 ∧
      b.men) ∧
    (∃ (h : Req) (p : List Byte) (s : State) (b : Block),
      begun 0x0D02 h p s.blk = b ∧ starts 0x0D02 .general mServed h p s.blk ∧ p.length = 8 ∧ u8At p 0 ≤ 3 ∧
      1 ≤ u16At p 4 ∧ u16At p 4 ≤ 2304 ∧ u16At p 2 + u16At p 4 ≤ 2304 ∧ (tget b.dis.maps (u8At p 0)).loaded = true) ∧
    (∃ (h : Req) (p : List Byte) (s : State) (b : Block),
      begun 0x0D03 h p s.blk = b ∧ starts 0x0D03 .general (mServed ++ [.zeroised]) h p s.blk ∧ p = []) ∧
    (∃ (h : Req) (p : List Byte) (s : State) (b : Block),
      begun 0x0D80 h p s.blk = b ∧ starts 0x0D80 .general [.standby, .commission] h p s.blk ∧ p.length = 2312 ∧
      u8At p 0 ≤ 3 ∧ crc32 (p.drop 8) = u32At p 4) ∧
    (∃ (h : Req) (p : List Byte) (s : State) (b : Block),
      begun 0x0D81 h p s.blk = b ∧ starts 0x0D81 .general mCommission h p s.blk ∧ p.length = 8 ∧ 1 ≤ u8At p 0 ∧
      u8At p 0 ≤ 4 ∧ u16At p 2 ≤ 4095 ∧ 100 ≤ u16At p 4 ∧ u16At p 4 ≤ 60000 ∧
      (if u8At p 0 = 4 then b.ben = true else b.men = true) ∧ b.dis.test = none ∧
      (u8At p 0 = 4 → b.dis.bsd.open_ = false ∧ b.dis.bsd.st = 0)) := by
  refine ⟨?_, ?_, ?_, ?_, ?_, ?_⟩
  · exact ⟨R 2, [], S (W .service), _, rfl, by decide +kernel⟩
  · exact ⟨R 2, 1 :: zeros 3459, S (cfg 0x0C 0 [1] (cfg 1 0 [0xFF, 1] (W .service))), _, rfl, by decide +kernel⟩
  · exact ⟨R 2, [0, 0, 0, 0, 4, 0, 0, 0],
        S ({ W .service with dis.maps := Block.reset.dis.maps.map fun m => { m with loaded := true } }), _, rfl,
        by decide +kernel⟩
  · exact ⟨R 2, [], S (W .service), _, rfl, by decide +kernel⟩
  · set_option maxRecDepth 100000 in exact ⟨R 2, [0, 0, 0, 0] ++ p32 (crc32 (zeros 2304)) ++ zeros 2304, S (W .standby), _, rfl,
        starts_eq (by decide +kernel) (grant_eq rfl (by decide +kernel)), by decide +kernel⟩
  · exact ⟨R 2, [1, 0, 0, 0, 100, 0, 0, 0], S (cfg 0x0C 0 [1] (W .commission)), _, rfl,
        starts_eq (by decide +kernel) (grant_eq rfl (by decide +kernel)), by decide +kernel⟩

/-- A state and operands that meet the hypotheses of every clause of `Obligations.LoadSwitchCommands` that has some. -/
theorem witness_LoadSwitchCommands :
    (∃ (h : Req) (p : List Byte) (s : State) (b : Block),
      begun 0x0E00 h p s.blk = b ∧ starts 0x0E00 .general mServed h p s.blk ∧ p.length = 4 ∧ lsOk (u8At p 0)) ∧
    (∃ (h : Req) (p : List Byte) (s : State) (b : Block),
      begun 0x0E01 h p s.blk = b ∧ starts 0x0E01 .general mRun h p s.blk ∧ p.length = 4 ∧ bit b.split 7 ∧
      Nat.land (u16At p 0) (u16At p 2) = 0 ∧ maskEnabled (u16At p 0) b ∧ maskEnabled (u16At p 2) b) ∧
    (∃ (h : Req) (p : List Byte) (s : State) (b : Block),
      begun 0x0E02 h p s.blk = b ∧ starts 0x0E02 .general mRun h p s.blk ∧ p.length = 8 ∧ lsOk (u8At p 0) ∧
      u8At p 1 ≤ 4 ∧ 1 ≤ u16At p 2 ∧ u16At p 2 ≤ 256 ∧ (u16At p 6 = 0 ∨ (10 ≤ u16At p 6 ∧ u16At p 6 ≤ 25000)) ∧
      (u8At p 1 = 0 ∨ u16At p 6 ≠ 0 ∨ tget b.lsw.freq (u8At p 1 - 1) ≠ 0)) ∧
    (∃ (h : Req) (p : List Byte) (s : State) (b : Block),
      begun 0x0E03 h p s.blk = b ∧ starts 0x0E03 .general [.standby, .service, .degraded, .maintain] h p s.blk ∧
      p.length = 4 ∧ lsOk (u8At p 0) ∧ (b.ls (u8At p 0)).st = .lockout ∧ (b.ls (u8At p 0)).latch = false) ∧
    (∃ (h : Req) (p : List Byte) (s : State) (b : Block),
      begun 0x0E04 h p s.blk = b ∧ starts 0x0E04 .general mServed h p s.blk ∧ p.length = 4 ∧ 1 ≤ u8At p 0 ∧
      u8At p 0 ≤ 9 ∧ profileOf (u8At p 0) b ≠ []) ∧
    (∃ (h : Req) (p : List Byte) (s : State) (b : Block),
      begun 0x0E80 h p s.blk = b ∧ starts 0x0E80 .general mStandby h p s.blk ∧ p.length = 20 ∧ 6 ≤ u8At p 0 ∧
      u8At p 0 ≤ 9 ∧ profileOk (bytesAt p 4 16) ∧
      channels.any (fun k => b.l8 k 1 == u8At p 0 && (b.ls k).st == .inrush) = false) ∧
    (∃ (h : Req) (p : List Byte) (s : State) (b : Block),
      begun 0x0E81 h p s.blk = b ∧ starts 0x0E81 .general mCommission h p s.blk ∧ p.length = 4 ∧ lsOk (u8At p 0) ∧
      (u8At p 1 = 1 ∨ (u8At p 1 = 2 ∧ 100 ≤ u16At p 2 ∧ u16At p 2 ≤ 60000)) ∧ b.lsEn (u8At p 0) ∧
      (b.ls (u8At p 0)).st = .off ∧ b.lsw.test = none) := by
  refine ⟨?_, ?_, ?_, ?_, ?_, ?_, ?_⟩
  · exact ⟨R 2, [1, 0, 0, 0], S (W .service), _, rfl, by decide +kernel⟩
  · exact ⟨R 2, [1, 0, 0, 0], S (cfg 0x0D 16 [1] (cfg 1 0 [0xFF, 1] (W .service))), _, rfl, by decide +kernel⟩
  · exact ⟨R 2, [1, 0, 1, 0, 0, 0, 0, 0], S (W .service), _, rfl, by decide +kernel⟩
  · exact ⟨R 2, [1, 0, 0, 0], S (updLs 1 (fun o => { o with st := .lockout }) (W .standby)), _, rfl, by decide +kernel⟩
  · exact ⟨R 2, [1, 0, 0, 0], S (W .service), _, rfl, by decide +kernel⟩
  · exact ⟨R 2, [6, 0, 0, 0, 100, 0, 244, 1, 0, 0, 200, 0, 1, 0, 0, 0, 0, 0, 1, 0], S (W .standby), _, rfl,
        starts_eq (by decide +kernel) (grant_eq rfl (by decide +kernel)), by decide +kernel⟩
  · exact ⟨R 2, [1, 1, 0, 0], S (cfg 0x0D 16 [1] (W .commission)), _, rfl,
        starts_eq (by decide +kernel) (grant_eq rfl (by decide +kernel)), by decide +kernel⟩

/-- A state and operands that meet the hypotheses of every clause of `Obligations.UpdateCommands` that has some. -/
theorem witness_UpdateCommands :
    (∃ (h : Req) (p : List Byte) (s : State) (b : Block),
      begun 0x0F00 h p s.blk = b ∧ starts 0x0F00 .general (.activate :: mServed) h p s.blk ∧ p = []) ∧
    (∃ (h : Req) (p : List Byte) (s : State) (b : Block),
      begun 0x0F01 h p s.blk = b ∧ starts 0x0F01 .general mWork h p s.blk ∧ p.length = 512 ∧ b.upd.st = .idle) ∧
    (∃ (h : Req) (p : List Byte) (s : State) (b : Block),
      begun 0x0F02 h p s.blk = b ∧ starts 0x0F02 .general mWork h p s.blk ∧ p.length = 2056 ∧ b.upd.st ≠ .idle ∧
      b.upd.st ≠ .erasing ∧ b.upd.transport = 2 ∧ u32At p 0 < b.upd.total ∧ u8At p 4 ≤ 1) ∧
    (∃ (h : Req) (p : List Byte) (s : State) (b : Block),
      begun 0x0F03 h p s.blk = b ∧ starts 0x0F03 .general mWork h p s.blk ∧ p = [] ∧ b.upd.st = .receiving ∧
      b.upd.transport = 2 ∧ firstMissing b = 0xFFFFFFFF) ∧
    (∃ (h : Req) (p : List Byte) (s : State) (b : Block),
      begun 0x0F04 h p s.blk = b ∧ starts 0x0F04 .general mWork h p s.blk ∧ p.length = 16 ∧
      schedNamed (u32At p 0) (u32At p 4) b ∧ schedOk (u32At p 0) (u32At p 4) (i64At p 8) b) ∧
    (∃ (h : Req) (p : List Byte) (s : State) (b : Block),
      begun 0x0F05 h p s.blk = b ∧ starts 0x0F05 .general mWork h p s.blk ∧ p.length = 8 ∧
      ((u8At p 4 = 1 ∧ b.upd.st = .scheduled ∧ u32At p 0 = b.upd.updid) ∨ (u8At p 4 = 2 ∧ updCancels (u32At p 0) b = true))) ∧
    (∃ (h : Req) (p : List Byte) (s : State) (b : Block),
      begun 0x0F06 h p s.blk = b ∧ starts 0x0F06 .general mServed h p s.blk ∧ p.length = 8 ∧ 1 ≤ u16At p 4 ∧
      u16At p 4 ≤ 32608) := by
  refine ⟨?_, ?_, ?_, ?_, ?_, ?_, ?_⟩
  · exact ⟨R 2, [], S (W .service), _, rfl, by decide +kernel⟩
  · exact ⟨R 2, 1 :: zeros 511, S (W .service), _, rfl, by decide +kernel⟩
  · exact ⟨R 2, zeros 2056, S ({ W .service with upd.st := .receiving, upd.transport := 2, upd.total := 1 }), _, rfl,
        by decide +kernel⟩
  · exact ⟨R 2, [], S ({ W .service with upd.st := .receiving, upd.transport := 2 }), _, rfl, by decide +kernel⟩
  · exact ⟨R 2, [1, 0, 0, 0, 1, 0, 0, 0, 0, 0, 0, 0, 0, 1, 0, 0],
        S ({ W .service with upd.st := .staged, upd.updid := 1 }), _, rfl, by decide +kernel⟩
  · exact ⟨R 2, [1, 0, 0, 0, 2, 0, 0, 0], S ({ W .service with upd.st := .staged, upd.updid := 1 }), _, rfl,
        by decide +kernel⟩
  · exact ⟨R 2, [0, 0, 0, 0, 4, 0, 0, 0], S (W .service), _, rfl, by decide +kernel⟩

/-- A state and operands that meet the hypotheses of every clause of `Obligations.DiagnosticCommands` that has some. -/
theorem witness_DiagnosticCommands :
    (∃ (h : Req) (p : List Byte) (s : State) (b : Block),
      begun 0x1000 h p s.blk = b ∧ starts 0x1000 .general (.zeroised :: mServed) h p s.blk ∧ p.length = 8 ∧
      1 ≤ u16At p 4 ∧ u16At p 4 ≤ 127) ∧
    (∃ (h : Req) (p : List Byte) (s : State) (b : Block),
      begun 0x1001 h p s.blk = b ∧ starts 0x1001 .general (.zeroised :: mServed) h p s.blk ∧ p.length = 8 ∧
      1 ≤ u16At p 4 ∧ u16At p 4 ≤ 31) ∧
    (∃ (h : Req) (p : List Byte) (s : State) (b : Block) (d : Dump),
      begun 0x1002 h p s.blk = b ∧ starts 0x1002 .general mServed h p s.blk ∧ p.length = 4 ∧
      dumpOf (u8At p 0) b = some d) ∧
    (∃ (h : Req) (p : List Byte) (s : State) (b : Block) (d : Dump),
      begun 0x1003 h p s.blk = b ∧ starts 0x1003 .general mServed h p s.blk ∧ p.length = 8 ∧
      dumpOf (u8At p 0) b = some d ∧ 1 ≤ u16At p 2 ∧ u16At p 2 ≤ 4072 ∧
      u32At p 4 + u16At p 2 ≤ (dumpData b d).length) ∧
    (∃ (h : Req) (p : List Byte) (s : State) (b : Block),
      begun 0x1004 h p s.blk = b ∧ starts 0x1004 .general mServed h p s.blk ∧ p.length = 4 ∧
      ((b.flash.map fun f => f.dseq == u32At p 0).getD false || (b.dbg.dram.map fun f => f.dseq == u32At p 0).getD false)) ∧
    (∃ (h : Req) (p : List Byte) (s : State) (b : Block),
      begun 0x1080 h p s.blk = b ∧ starts 0x1080 .general mCommission h p s.blk ∧ p.length = 4) ∧
    (∃ (h : Req) (p : List Byte) (s : State) (b : Block) (d : Dump),
      begun 0x1081 h p s.blk = b ∧ starts 0x1081 .general mServed h p s.blk ∧ p.length = 8 ∧
      dumpOf (u8At p 0) b = some d ∧ 1 ≤ u16At p 2 ∧ u16At p 2 ≤ 4072 ∧
      u32At p 4 + u16At p 2 ≤ dumpSpace (u8At p 0)) := by
  refine ⟨?_, ?_, ?_, ?_, ?_, ?_, ?_⟩
  · exact ⟨R 2, [0, 0, 0, 0, 1, 0, 0, 0], S (W .service), _, rfl, by decide +kernel⟩
  · exact ⟨R 2, [0, 0, 0, 0, 1, 0, 0, 0], S (W .service), _, rfl, by decide +kernel⟩
  · exact ⟨R 2, [0, 0, 0, 0], S ({ W .service with dbg.dram := some ⟨1, 0, 1, 0, 0, 0, 0, false, 0, [], []⟩ }), _,
        ⟨1, 0, 1, 0, 0, 0, 0, false, 0, [], []⟩, rfl, by decide +kernel⟩
  · exact ⟨R 2, [0, 0, 4, 0, 0, 0, 0, 0],
        S ({ W .service with dbg.dram := some ⟨1, 0, 1, 0, 0, 0, 0, false, 0, [], []⟩ }), _,
        ⟨1, 0, 1, 0, 0, 0, 0, false, 0, [], []⟩, rfl, by decide +kernel⟩
  · exact ⟨R 2, [1, 0, 0, 0], S ({ W .service with dbg.dram := some ⟨1, 0, 1, 0, 0, 0, 0, false, 0, [], []⟩ }), _, rfl,
        by decide +kernel⟩
  · exact ⟨R 2, [1, 0, 0, 0], S (W .commission), _, rfl,
        starts_eq (by decide +kernel) (grant_eq rfl (by decide +kernel)), by decide +kernel⟩
  · exact ⟨R 2, [0, 0, 4, 0, 0, 0, 0, 0],
        S ({ W .service with dbg.dram := some ⟨1, 0, 1, 0, 0, 0, 0, false, 0, [], []⟩ }), _,
        ⟨1, 0, 1, 0, 0, 0, 0, false, 0, [], []⟩, rfl,
        starts_eq (by decide +kernel) (grant_eq rfl (by decide +kernel)), by decide +kernel⟩

/-- A state and operands that meet the hypotheses of every clause of `Obligations.SystemCommands` that has some. -/
theorem witness_SystemCommands :
    (∃ (h : Req) (p : List Byte) (s : State) (b : Block),
      begun 0x0100 h p s.blk = b ∧ starts 0x0100 .any mAll h p s.blk ∧ p = []) ∧
    (∃ (h : Req) (p : List Byte) (s : State) (b : Block),
      begun 0x0101 h p s.blk = b ∧ starts 0x0101 .any mAll h p s.blk ∧ p = []) ∧
    (∃ (h : Req) (p : List Byte) (s : State) (b : Block),
      begun 0x0102 h p s.blk = b ∧ starts 0x0102 .general mRun h p s.blk ∧ p.length = 4 ∧ 1 ≤ u8At p 0 ∧
      u8At p 0 ≤ 12 ∧ b.sys.trans = none) ∧
    (∃ (h : Req) (p : List Byte) (s : State) (b : Block),
      begun 0x0103 h p s.blk = b ∧
      starts 0x0103 .general [.standby, .service, .degraded, .maintain, .commission, .safestop] h p s.blk ∧
      p.length = 4 ∧ u32At p 0 = 0) ∧
    (∃ (h : Req) (p : List Byte) (s : State) (b : Block),
      begun 0x0104 h p s.blk = b ∧ starts 0x0104 .general mRun h p s.blk ∧ p.length = 8) ∧
    (∃ (h : Req) (p : List Byte) (s : State) (b : Block),
      begun 0x0105 h p s.blk = b ∧ starts 0x0105 .general mStandby h p s.blk ∧ 5 ≤ p.length ∧ p.length ≤ 4080 ∧
      u32At p 0 % 4 = 0 ∧ u32At p 0 + (p.drop 4).length ≤ 65536) ∧
    (∃ (h : Req) (p : List Byte) (s : State) (b : Block) (staged : List Byte) (a : Block),
      begun 0x0106 h p s.blk = b ∧ takeLocks (refOf h s.blk) [17] b = .all a ∧
      starts 0x0106 .general mStandby h p s.blk ∧ p.length = 4 ∧ a.cfg.stage = some (h.mb.toNat, staged)) ∧
    (∃ (h : Req) (p : List Byte) (s : State) (b : Block),
      begun 0x0107 h p s.blk = b ∧ starts 0x0107 .general mAll h p s.blk ∧ p.length = 8 ∧ 1 ≤ u16At p 4 ∧
      u16At p 4 ≤ 4080 ∧ u32At p 0 + u16At p 4 ≤ (cfgImage b).length) ∧
    (∃ (h : Req) (p : List Byte) (s : State) (b : Block),
      begun 0x0110 h p s.blk = b ∧ starts 0x0110 .general mAll h p s.blk ∧ p.length = 4 ∧ 1 ≤ u16At p 0 ∧
      u16At p 0 ≤ 169) ∧
    (∃ (h : Req) (p : List Byte) (s : State) (b : Block),
      begun 0x0120 h p s.blk = b ∧ starts 0x0120 .general mRegRead h p s.blk ∧ p.length = 8 ∧ 1 ≤ u16At p 4 ∧
      u16At p 4 ≤ 1019 ∧ u32At p 0 < 0x1000000) ∧
    (∃ (h : Req) (p : List Byte) (s : State) (b : Block),
      begun 0x0121 h p s.blk = b ∧ starts 0x0121 .general mRun h p s.blk ∧ 8 ≤ p.length ∧
      p.length = 8 + 4 * u16At p 4 ∧ 1 ≤ u16At p 4 ∧ u16At p 4 ≤ 1018 ∧ u32At p 0 < 0x1000000) := by
  refine ⟨?_, ?_, ?_, ?_, ?_, ?_, ?_, ?_, ?_, ?_, ?_⟩
  · exact ⟨R 2, [], S (W .service), _, rfl, by decide +kernel⟩
  · exact ⟨R 2, [], S (W .service), _, rfl, by decide +kernel⟩
  · exact ⟨R 2, [1, 0, 0, 0], S (W .service), _, rfl, by decide +kernel⟩
  · exact ⟨R 2, [0, 0, 0, 0], S (W .standby), _, rfl, by decide +kernel⟩
  · exact ⟨R 2, [1, 0, 0, 0, 0, 0, 0, 0], S (W .service), _, rfl, by decide +kernel⟩
  · exact ⟨R 2, [0, 0, 0, 0, 0, 0, 0, 0], S (W .standby), _, rfl, by decide +kernel⟩
  · exact ⟨R 2, [1, 0, 0, 0], S ({ W .standby with cfg.stage := some (2, []) }), _, [], _, rfl,
        allOf_eq (b := Block.reset) (by decide +kernel), by decide +kernel⟩
  · exact ⟨R 2, [0, 0, 0, 0, 4, 0, 0, 0], S (W .service), _, rfl, by decide +kernel⟩
  · exact ⟨R 2, [1, 0, 0, 0], S (W .service), _, rfl, by decide +kernel⟩
  · exact ⟨R 2, [16, 0, 0, 0, 1, 0, 0, 0], S (W .service), _, rfl, by decide +kernel⟩
  · exact ⟨R 2, [16, 0, 0, 0, 1, 0, 0, 0, 0, 0, 0, 0], S (W .service), _, rfl, by decide +kernel⟩

/-- A state and operands that meet the hypotheses of every clause of `Obligations.PowerRows` that has some. -/
theorem witness_PowerRows :
    (∃ (s : State) (b : Block) (lowUs : Nat),
      s.blk = b ∧ dead b = false ∧ 10 ≤ lowUs) ∧
    (∃ (s : State) (b : Block) (why : Nat),
      s.blk = b ∧ ¬ (b.pwr.heldBy == .off || b.pwr.heldBy == .supply || !(why == 1 || why == 2))) ∧
    (∃ (s : State) (b : Block),
      s.blk = b ∧ b.pwr.heldBy == .clock) ∧
    (∃ (s : State) (b : Block) (_o : SelftestObs),
      s.blk = b ∧ releasable b) ∧
    (∃ (s : State) (b : Block) (step : Nat),
      s.blk = b ∧ releasable b && 1 ≤ step && step ≤ 9) ∧
    (∃ (s : State) (b : Block) (vhold : Nat),
      s.blk = b ∧ releasable b && vhold < 2700) ∧
    (∃ (s : State) (b : Block) (vin : Nat),
      s.blk = b ∧ vin < 1700) ∧
    (∃ (s : State) (b : Block) (va : Nat) (vb : Nat) (vc : Nat),
      s.blk = b ∧ siteEnabled b && [va, vb, vc].all (fun v => siteLost v b)) ∧
    (∃ (s : State) (b : Block) (t1 : Nat) (vin : Nat),
      s.blk = b ∧ mayRecover vin b = true ∧ dead b = false ∧ b.pwr.pfwSelftest = false ∧
      (b.sys.mode = .zeroised ∨ (b.sys.mode = .outage ∧ b.sys.held ≠ .activate ∧ t1 ≤ 500))) ∧
    (∃ (s : State) (b : Block) (t1 : Nat) (vin : Nat),
      s.blk = b ∧ mayRecover vin b = true ∧ dead b = false ∧ b.sys.mode = .outage ∧
      (500 < t1 ∨ b.sys.held = .activate)) ∧
    (∃ (s : State) (b : Block) (vin : Nat) (heldMs : Nat),
      s.blk = b ∧
      vin ≥ 1800 && vin < 1900 && heldMs ≥ 2000 && sourcesClear vin b && b.pwr.pfw && b.sys.mode == .outage && !dead b) ∧
    (∃ (s : State) (b : Block),
      s.blk = b ∧ b.pwr.pfw = true ∧ dead b = false ∧ b.pwr.pfwSelftest = false ∧ b.sys.mode = .outage) ∧
    (∃ (s : State) (b : Block) (vin : Nat),
      s.blk = b ∧ b.pwr.heldBy == .supply && vin ≥ 1900) ∧
    (∃ (s : State) (b : Block) (_vin : Nat),
      s.blk = b ∧ b.pwr.pfw) ∧
    (∃ (s : State) (b : Block),
      s.blk = b ∧ b.pwr.recovering = true ∧ b.pwr.pfw = false ∧ b.pwr.heldBy = .no) := by
  refine ⟨?_, ?_, ?_, ?_, ?_, ?_, ?_, ?_, ?_, ?_, ?_, ?_, ?_, ?_, ?_⟩
  · exact ⟨S (W .service), _, 10, rfl, by decide +kernel⟩
  · exact ⟨S (W .service), _, 1, rfl, by decide +kernel⟩
  · exact ⟨S ({ W .service with pwr.heldBy := .clock }), _, rfl, by decide +kernel⟩
  · exact ⟨S ({ W .selftest with pwr.heldBy := .ready }), _,
        ⟨[], 0, 2400, 2800, none, 100, [], [], [], [], [], true, [], 0⟩, rfl, by decide +kernel⟩
  · exact ⟨S ({ W .selftest with pwr.heldBy := .ready }), _, 1, rfl, by decide +kernel⟩
  · exact ⟨S ({ W .selftest with pwr.heldBy := .ready }), _, 1, rfl, by decide +kernel⟩
  · exact ⟨S (W .service), _, 1, rfl, by decide +kernel⟩
  · exact ⟨S (cfg 1 10 [1] (W .service)), _, 0, 0, 0, rfl, by decide +kernel⟩
  · exact ⟨S ({ W .outage with pwr.pfw := true }), _, 1, 1900, rfl, by decide +kernel⟩
  · exact ⟨S ({ W .outage with pwr.pfw := true }), _, 501, 1900, rfl, by decide +kernel⟩
  · exact ⟨S ({ W .outage with pwr.pfw := true }), _, 1800, 2000, rfl, by decide +kernel⟩
  · exact ⟨S ({ W .outage with pwr.pfw := true }), _, rfl, by decide +kernel⟩
  · exact ⟨S ({ W .service with pwr.heldBy := .supply }), _, 1900, rfl, by decide +kernel⟩
  · exact ⟨S ({ W .service with pwr.pfw := true }), _, 1, rfl, by decide +kernel⟩
  · exact ⟨S ({ W .service with pwr.recovering := true }), _, rfl, by decide +kernel⟩

/-- A state and operands that meet the hypotheses of every clause of `Obligations.RailAndProcessorRows` that has some. -/
theorem witness_RailAndProcessorRows :
    (∃ (s : State) (b : Block) (r : Rail),
      s.blk = b ∧ railOk r b = true ∧ dead b = false ∧ b.pwr.heldBy = .no) ∧
    (∃ (s : State) (b : Block) (r : Rail),
      s.blk = b ∧ railOk r b = false ∧ (setRail r true b).pwr.heldBy = .no) ∧
    (∃ (s : State) (b : Block) (vhold : Nat),
      s.blk = b ∧ charging b && b.pwr.vholdArmed && !b.pwr.vholdLow && vhold < 2600) ∧
    (∃ (s : State) (b : Block) (vhold : Nat),
      s.blk = b ∧ b.pwr.vholdRec && !b.pwr.pfw && b.pwr.heldBy == .no && vhold < 2700) ∧
    (∃ (s : State) (b : Block) (core : Nat),
      s.blk = b ∧ larkspurRuns core b && !heartbeatOff core b) ∧
    (∃ (s : State) (b : Block) (core : Nat),
      s.blk = b ∧ larkspurRuns core b) ∧
    (∃ (s : State) (b : Block),
      s.blk = b ∧
      b.pwr.larkspurDown && b.pwr.holdover.isSome && holdoverPast b && b.pwr.heldBy == .no && b.sys.mode != .outage) ∧
    (∃ (s : State) (b : Block) (_why : Nat),
      s.blk = b ∧ ¬ (b.pwr.heldBy != .no || b.sys.mode == .zeroised)) ∧
    (∃ (s : State) (b : Block),
      s.blk = b ∧ ¬ (b.pwr.heldBy != .no || b.sys.mode == .zeroised)) ∧
    (∃ (s : State) (b : Block),
      s.blk = b ∧ ¬ (b.pwr.heldBy != .no || b.sys.mode == .zeroised)) := by
  refine ⟨?_, ?_, ?_, ?_, ?_, ?_, ?_, ?_, ?_, ?_⟩
  · exact ⟨S (W .service), _, .vled, rfl, by decide +kernel⟩
  · exact ⟨S ({ W .service with pwr.vledOk := false }), _, .vled, rfl, by decide +kernel⟩
  · exact ⟨S ({ W .service with pwr.vholdArmed := true, pwr.vin := 2400 }), _, 2500, rfl, by decide +kernel⟩
  · exact ⟨S ({ W .service with pwr.vholdRec := true }), _, 1, rfl, by decide +kernel⟩
  · exact ⟨S (W .service), _, 1, rfl, by decide +kernel⟩
  · exact ⟨S (W .service), _, 1, rfl, by decide +kernel⟩
  · exact ⟨S ({ W .service with pwr.larkspurDown := true, pwr.holdover := some 0 }), _, rfl, by decide +kernel⟩
  · exact ⟨S (W .service), _, 1, rfl, by decide +kernel⟩
  · exact ⟨S (W .service), _, rfl, by decide +kernel⟩
  · exact ⟨S (W .service), _, rfl, by decide +kernel⟩

/-- A state and operands that meet the hypotheses of every clause of `Obligations.ModeRows` that has some. -/
theorem witness_ModeRows :
    (∃ (s : State) (b : Block),
      s.blk = b ∧ b.sys.autostartDue = true ∧ b.sys.mode = .standby ∧ b.sys.trans = none ∧ b.cfg8 0x0001 8 = 1 ∧
      siteValid { b with sys.autostartDue := false } = true) ∧
    (∃ (s : State) (b : Block),
      s.blk = b ∧ b.inMode [.service, .degraded] && b.sys.trans.isSome && outletsOpen b) ∧
    (∃ (s : State) (b : Block) (outlet : Nat),
      s.blk = b ∧ outletOk outlet = true ∧ (b.ol outlet).outDue = true ∧
      (b.bil.units.any fun u => u.drafts.any fun d => d.type == 1 && d.point == outlet) = false ∧
      ((b.ol outlet).ses.st = .idle ∨ (b.ol outlet).ses.st = .parked)) ∧
    (∃ (s : State) (b : Block) (outlet : Nat) (r : CmdRef),
      s.blk = b ∧ outletOk outlet = true ∧ (b.ol outlet).bypCmd = some r) ∧
    (∃ (s : State) (b : Block) (outlet : Nat),
      s.blk = b ∧ outletOk outlet && b.svcOf outlet == 3) := by
  refine ⟨?_, ?_, ?_, ?_, ?_⟩
  · exact ⟨S ({ cfg 8 0 [100, 0, 0, 0, 10, 0, 10, 0, 10, 0] (cfg 1 8 [1] (W .standby)) with sys.autostartDue := true }),
        _, rfl, by decide +kernel⟩
  · exact ⟨S ({ W .service with sys.trans := some ⟨.standby, 1, none⟩ }), _, rfl, by decide +kernel⟩
  · exact ⟨S (updOl 1 (fun o => { o with outDue := true }) (W .service)), _, 1, rfl, by decide +kernel⟩
  · exact ⟨S (updOl 1 (fun o => { o with bypCmd := some ⟨2, 1⟩ }) (W .service)), _, 1, ⟨2, 1⟩, rfl, by decide +kernel⟩
  · exact ⟨S ({ W .service with sys.svc := tput Block.reset.sys.svc 0 3 }), _, 1, rfl, by decide +kernel⟩

/-- A state and operands that meet the hypotheses of every clause of `Obligations.HostRows` that has some. -/
theorem witness_HostRows :
    (∃ (s : State) (b : Block) (cmd : Byte) (addr : BitVec 24) (hcrc : BitVec 16),
      s.blk = b ∧ served b = true ∧ crc16 (frameHead cmd.toNat addr.toNat) = hcrc.toNat) ∧
    (∃ (s : State) (b : Block) (cmd : Byte) (addr : BitVec 24) (ws : List Word) (hcrc : BitVec 16),
      s.blk = b ∧ served b = true ∧ crc16 (frameHead cmd.toNat addr.toNat ++ wordBytes ws) = hcrc.toNat) ∧
    (∃ (s : State) (b : Block),
      s.blk = b ∧ ¬ (!served b)) ∧
    (∃ (s : State) (b : Block) (_addr : BitVec 24) (_value : Word),
      s.blk = b ∧ served b = true) ∧
    (∃ (s : State) (b : Block) (_addr : BitVec 24) (_value : Word),
      s.blk = b ∧ served b = true) ∧
    (∃ (s : State) (b : Block) (_addr : BitVec 24) (_value : Word),
      s.blk = b ∧ served b = true) ∧
    (∃ (s : State) (b : Block) (_mb : Nat) (_k : Nat) (_value : Word),
      s.blk = b ∧ served b = true) ∧
    (∃ (s : State) (b : Block) (_mb : Nat) (_k : Nat),
      s.blk = b ∧ served b = true) ∧
    (∃ (s : State) (b : Block) (_g : Nat) (_value : Word),
      s.blk = b ∧ served b = true) ∧
    (∃ (s : State) (b : Block) (_g : Nat) (_value : Word),
      s.blk = b ∧ served b = true) ∧
    (∃ (s : State) (b : Block),
      s.blk = b ∧ served b = true) ∧
    (∃ (s : State) (b : Block),
      s.blk = b ∧ served b = true) ∧
    (∃ (s : State) (b : Block) (_value : Word),
      s.blk = b ∧ served b = true) ∧
    (∃ (s : State) (b : Block) (_value : Word),
      s.blk = b ∧ served b = true) ∧
    (∃ (s : State) (b : Block) (_value : Word),
      s.blk = b ∧ served b = true) ∧
    (∃ (s : State) (b : Block) (_value : Word),
      s.blk = b ∧ served b = true) ∧
    (∃ (s : State) (b : Block) (port : Nat) (frame : List Byte) (a : Arrived),
      s.blk = b ∧ parseRequest (frame.drop 4) = a ∧ served b = true ∧ (port = 1 ∨ port = 2) ∧
      tget b.cru.tls (port - 1) = true ∧ 20 ≤ frame.length ∧ u8At frame 0 ≤ 7 ∧ u8At frame 1 = 0 ∧
      u16At frame 2 + 4 = frame.length ∧ (a.len ≤ 4080 → u16At frame 2 = 16 + a.len) ∧
      bindOk (b.box (u8At frame 0)) (1 + port) a.flags = true ∧ (b.box (u8At frame 0)).free ≠ 0) ∧
    (∃ (s : State) (b : Block) (mb : Nat),
      s.blk = b ∧ (b.box mb).asm ≠ []) ∧
    (∃ (s : State) (b : Block),
      s.blk = b ∧ served b = true ∧ b.split ≠ 0 ∧ b.mbx.silent = none ∧ b.mbx.lastHost + b.hostWdg ≤ b.sys.mtime) := by
  refine ⟨?_, ?_, ?_, ?_, ?_, ?_, ?_, ?_, ?_, ?_, ?_, ?_, ?_, ?_, ?_, ?_, ?_, ?_, ?_⟩
  · exact ⟨S (W .service), _, 0x80, 0x10, 0x1A9B, rfl, by decide +kernel⟩
  · exact ⟨S (W .service), _, 0x00, 0x10, [0], (BitVec.ofNat 16 (crc16 (frameHead 0 16 ++ wordBytes [0]))), rfl,
        by decide +kernel⟩
  · exact ⟨S (W .service), _, rfl, by decide +kernel⟩
  · exact ⟨S (W .service), _, 0x10, 1, rfl, by decide +kernel⟩
  · exact ⟨S (W .service), _, 0x10, 1, rfl, by decide +kernel⟩
  · exact ⟨S (W .service), _, 0x10, 1, rfl, by decide +kernel⟩
  · exact ⟨S (W .service), _, 1, 1, 1, rfl, by decide +kernel⟩
  · exact ⟨S (W .service), _, 1, 1, rfl, by decide +kernel⟩
  · exact ⟨S (W .service), _, 1, 1, rfl, by decide +kernel⟩
  · exact ⟨S (W .service), _, 1, 1, rfl, by decide +kernel⟩
  · exact ⟨S (W .service), _, rfl, by decide +kernel⟩
  · exact ⟨S (W .service), _, rfl, by decide +kernel⟩
  · exact ⟨S (W .service), _, 1, rfl, by decide +kernel⟩
  · exact ⟨S (W .service), _, 1, rfl, by decide +kernel⟩
  · exact ⟨S (W .service), _, 1, rfl, by decide +kernel⟩
  · exact ⟨S (W .service), _, 1, rfl, by decide +kernel⟩
  · exact ⟨S ({ W .service with cru.tls := [true, true] }), _, 1, [2, 0, 16, 0] ++ zeros 16, _, rfl, rfl,
        by decide +kernel⟩
  · exact ⟨S (updBox 1 (fun x => { x with asm := [0] }) (W .service)), _, 1, rfl, by decide +kernel⟩
  · exact ⟨S (cfg 1 0 [0xFF, 1] (W .service)), _, rfl, by decide +kernel⟩

/-- A state and operands that meet the hypotheses of every clause of `Obligations.DiagnosticRows` that has some. -/
theorem witness_DiagnosticRows :
    (∃ (s : State) (b : Block) (_cause : Nat) (_core : Nat) (_detail : Nat) (_detail2 : Nat),
      s.blk = b ∧ b.pwr.heldBy = .no ∧ b.pwr.larkspurDown = false) ∧
    (∃ (s : State) (b : Block),
      s.blk = b ∧ b.pwr.heldBy = .no ∧ b.pwr.pfw = false ∧ (b.dbg.writing ≠ none ∨ b.pwr.larkspurDown = true)) ∧
    (∃ (s : State) (b : Block) (mem : Nat) (_uncorrectable : Bool) (_addr : Nat) (_symbol : Nat) (_core : Nat),
      s.blk = b ∧ b.pwr.heldBy = .no ∧ mem ≤ 8) ∧
    (∃ (s : State) (b : Block),
      s.blk = b ∧ ¬ (b.pwr.heldBy != .no)) ∧
    (∃ (s : State) (b : Block) (_failed : Bool),
      s.blk = b ∧ ¬ (b.pwr.heldBy != .no)) ∧
    (∃ (s : State) (b : Block) (_mismatch : Bool),
      s.blk = b ∧ b.pwr.heldBy = .no) := by
  refine ⟨?_, ?_, ?_, ?_, ?_, ?_⟩
  · exact ⟨S (W .service), _, 1, 1, 1, 1, rfl, by decide +kernel⟩
  · exact ⟨S ({ W .service with pwr.larkspurDown := true }), _, rfl, by decide +kernel⟩
  · exact ⟨S (W .service), _, 1, true, 1, 1, 1, rfl, by decide +kernel⟩
  · exact ⟨S (W .service), _, rfl, by decide +kernel⟩
  · exact ⟨S (W .service), _, true, rfl, by decide +kernel⟩
  · exact ⟨S (W .service), _, true, rfl, by decide +kernel⟩

/-- A state and operands that meet the hypotheses of every clause of `Obligations.PlanRows` that has some. -/
theorem witness_PlanRows :
    (∃ (s : State) (b : Block) (sinceTickUs : Nat) (_sinceCrossUs : Nat) (oppMv : Nat),
      s.blk = b ∧ b.pwr.heldBy = .no ∧ b.pwr.assayDown = false ∧ detArmed 0 oppMv b = true ∧ b.pln.timer = false ∧
      1000000 ≤ sinceTickUs * 4 * b.nomFreq) ∧
    (∃ (s : State) (b : Block) (sinceTickUs : Nat),
      s.blk = b ∧ b.pwr.heldBy = .no ∧
      (if b.pln.timer then 1000000 < (sinceTickUs + 1) * 2 * b.nomFreq else 5000000 < (sinceTickUs + 1) * 8 * b.nomFreq)) ∧
    (∃ (s : State) (b : Block) (dom : Nat),
      s.blk = b ∧ dom ≤ 2 ∧ (b.dom dom).staging.stage = .armed ∧
      (b.dom dom).swapTick = (b.pln.tick + 1) % 4294967296 ∧ b.pwr.heldBy = .no) ∧
    (∃ (s : State) (b : Block) (dom : Nat),
      s.blk = b ∧ dom ≤ 2 ∧ (b.dom dom).play = .playing ∧ (b.dom dom).rows.length ≤ (b.dom dom).row + 1 ∧
      (b.dom dom).staging.stage ≠ .armed) ∧
    (∃ (s : State) (b : Block) (dom : Nat),
      s.blk = b ∧ dom ≤ 2 ∧ (b.dom dom).staging.stage = .validating ∧ (b.dom dom).staging.queued = false) ∧
    (∃ (s : State) (b : Block) (slot : Nat) (g : Group),
      s.blk = b ∧ b.pwr.heldBy = .no ∧ slot < 16 ∧ tget b.pln.groups slot = some g ∧ g.due = none ∧
      g.missed = none ∧ g.deadline ≠ 0) ∧
    (∃ (s : State) (b : Block) (lock : Nat) (w : Waiter),
      s.blk = b ∧ firstOut (tget b.pln.locks lock).waiters = some w) ∧
    (∃ (s : State) (b : Block) (arb : Nat) (_raised : Nat) (_cycles : Nat) (_engs : List Nat) (_done : Nat),
      s.blk = b ∧ b.pwr.heldBy = .no ∧ arb ≤ 1) ∧
    (∃ (s : State) (b : Block),
      s.blk = b ∧ (b.pwr.heldBy == .no && (b.alc.replan || ownRejected b))) := by
  refine ⟨?_, ?_, ?_, ?_, ?_, ?_, ?_, ?_, ?_⟩
  · exact ⟨S (cfg 3 0 [50] (W .service)), _, 10000, 1, 100000, rfl, by decide +kernel⟩
  · exact ⟨S (cfg 3 0 [50] (W .service)), _, 20000, rfl, by decide +kernel⟩
  · exact ⟨
        S (updDom 1 (fun o => { o with swapTick := 1 }) (updStage 1 (fun o => { o with stage := .armed }) (W .service))),
        _, 1, rfl, by decide +kernel⟩
  · exact ⟨S (updDom 1 (fun o => { o with play := .playing }) (W .service)), _, 1, rfl, by decide +kernel⟩
  · exact ⟨S (updStage 1 (fun o => { o with stage := .validating }) (W .service)), _, 1, rfl, by decide +kernel⟩
  · exact ⟨
        S ({ W .service with pln.groups := tput Block.reset.pln.groups 1 (some ⟨1, 2, [], 0, 0, 0, 5, 0, none, none, none⟩) }),
        _, 1, ⟨1, 2, [], 0, 0, 0, 5, 0, none, none, none⟩, rfl, by decide +kernel⟩
  · exact ⟨S (updLock 1 (fun l => { l with waiters := [⟨2, 5, none, false⟩] }) (W .service)), _, 1, ⟨2, 5, none, false⟩,
        rfl, by decide +kernel⟩
  · exact ⟨S (W .service), _, 1, 1, 1, [], 1, rfl, by decide +kernel⟩
  · exact ⟨S ({ W .service with alc.replan := true }), _, rfl, by decide +kernel⟩

/-- A state and operands that meet the hypotheses of every clause of `Obligations.MeteringRows` that has some. -/
theorem witness_MeteringRows :
    (∃ (s : State) (b : Block) (_xs : List (List RawSample)) (_rcs : List Int),
      s.blk = b ∧ b.pwr.heldBy = .no ∧ metering b = true) ∧
    (∃ (s : State) (b : Block) (point : Nat) (sinceCycNs : Nat) (_sinceCrossNs : Nat) (oppMv : Nat),
      s.blk = b ∧ cycLive point b = true ∧ detArmed point oppMv b = true ∧ (b.pt point).cycTimer = false ∧
      1000000000 ≤ sinceCycNs * 2 * b.nomFreq) ∧
    (∃ (s : State) (b : Block) (point : Nat) (sinceCycNs : Nat),
      s.blk = b ∧ cycLive point b = true ∧
      (if (b.pt point).cycTimer then 1000000000 < (sinceCycNs + 1) * b.nomFreq else 5000000000 < (sinceCycNs + 1) * 4 * b.nomFreq)) ∧
    (∃ (s : State) (b : Block) (point : Nat) (phase : Nat) (_cycleNs : Nat),
      s.blk = b ∧ pointOk point && (phasesOf point b).contains phase && b.ptType point != 3 && metering b) ∧
    (∃ (s : State) (b : Block) (_vin : Nat) (_vhold : Nat),
      s.blk = b ∧ ¬ (b.pwr.heldBy != .no || !b.sys.mtimeRun)) ∧
    (∃ (s : State) (b : Block),
      s.blk = b ∧ b.pwr.heldBy == .no && metering b && b.sys.mtimeRun) ∧
    (∃ (s : State) (b : Block),
      s.blk = b ∧ periodNext b != 0 && billing b && b.pwr.heldBy == .no && b.sys.mtimeRun) ∧
    (∃ (s : State) (b : Block) (k : Nat),
      s.blk = b ∧ 1 ≤ k ∧ k ≤ 8 ∧ (b.pls k).active = true) ∧
    (∃ (s : State) (b : Block) (point : Nat) (ch : Nat) (cause : Nat),
      s.blk = b ∧
      (pointOk point && metering b && (if ch ≤ 3 then cause == 4 else ch ≤ 7 && (cause == 1 || cause == 2)))) ∧
    (∃ (s : State) (b : Block) (point : Nat) (ch : Nat) (cause : Nat),
      s.blk = b ∧ pointOk point && ch ≤ 7 && cause != 3) ∧
    (∃ (s : State) (b : Block) (point : Nat) (_xs : List Int) (x : CmdRef × Nat × Nat) (l : List (CmdRef × Nat × Nat)),
      s.blk = b ∧ metering b = true ∧ pointOk point = true ∧ point ≠ 255 ∧
      b.asy.injCmds.filter (fun x => x.2.1 == point) = x :: l ∧ checkSuppressed point x.2.2 b = false) ∧
    (∃ (s : State) (b : Block) (source : Nat) (_raw : Option Nat),
      s.blk = b ∧ b.pwr.heldBy = .no ∧ sourceFitted source b = true) ∧
    (∃ (s : State) (b : Block) (source : Nat),
      s.blk = b ∧ b.pwr.heldBy = .no ∧ sourceFitted source b = true ∧ (tget b.asy.tsrc source).lost = false ∧
      (tget b.asy.tsrc source).valid = false) ∧
    (∃ (s : State) (b : Block) (source : Nat),
      s.blk = b ∧ b.pwr.heldBy = .no ∧ (tget b.asy.tsrc source).lost = true ∧
      (tget b.asy.tsrc source).valid = true) := by
  refine ⟨?_, ?_, ?_, ?_, ?_, ?_, ?_, ?_, ?_, ?_, ?_, ?_, ?_, ?_⟩
  · exact ⟨S (W .service), _, [], [], rfl, by decide +kernel⟩
  · exact ⟨S (cfg 3 0 [50] (W .service)), _, 1, 20000000, 1, 100000, rfl, by decide +kernel⟩
  · exact ⟨S (cfg 3 0 [50] (W .service)), _, 1, 100000000, rfl, by decide +kernel⟩
  · exact ⟨S (W .service), _, 1, 1, 1, rfl, by decide +kernel⟩
  · exact ⟨S (W .service), _, 1, 1, rfl, by decide +kernel⟩
  · exact ⟨S (W .service), _, rfl, by decide +kernel⟩
  · exact ⟨S (W .service), _, rfl, by decide +kernel⟩
  · exact ⟨S (updPls 1 (fun x => { x with active := true }) (W .service)), _, 1, rfl, by decide +kernel⟩
  · exact ⟨S (W .service), _, 1, 1, 4, rfl, by decide +kernel⟩
  · exact ⟨S (W .service), _, 1, 1, 1, rfl, by decide +kernel⟩
  · exact ⟨S ({ W .service with asy.injCmds := [(⟨2, 1⟩, 1, 0)] }), _, 1, [], (⟨2, 1⟩, 1, 0), [], rfl, by decide +kernel⟩
  · exact ⟨S (W .service), _, 0, none, rfl, by decide +kernel⟩
  · exact ⟨S (W .service), _, 0, rfl, by decide +kernel⟩
  · exact ⟨S (updSrc 1 (fun x => { x with lost := true, valid := true }) (W .service)), _, 1, rfl, by decide +kernel⟩

/-- A state and operands that meet the hypotheses of every clause of `Obligations.BillingRows` that has some. -/
theorem witness_BillingRows :
    (∃ (s : State) (b : Block) (code : Nat),
      s.blk = b ∧ ¬ (code % 8 == b.bil.tselRaw)) ∧
    (∃ (s : State) (b : Block),
      s.blk = b ∧ billing b = true) ∧
    (∃ (s : State) (b : Block) (u : BilUnit),
      s.blk = b ∧ nextSeal b = some u ∧ signing b = true ∧ maySeal u b = true) ∧
    (∃ (s : State) (b : Block),
      s.blk = b ∧ billing b = true ∧ b.sys.mode ≠ .outage ∧ b.dis.shown = none) ∧
    (∃ (s : State) (b : Block),
      s.blk = b ∧ b.bil.pp == .armed && outletsOpen b) ∧
    (∃ (s : State) (b : Block) (_irmsDA : Nat),
      s.blk = b ∧ b.bil.pp == .disconnected && !(b.drv 13).on && !(b.drv 13).fb) ∧
    (∃ (s : State) (b : Block),
      s.blk = b ∧ ¬ (b.pwr.heldBy != .no || b.bil.button.isSome)) ∧
    (∃ (s : State) (b : Block) (since : Nat),
      s.blk = b ∧ b.bil.button = some since) := by
  refine ⟨?_, ?_, ?_, ?_, ?_, ?_, ?_, ?_⟩
  · exact ⟨S (W .service), _, 1, rfl, by decide +kernel⟩
  · exact ⟨S (W .service), _, rfl, by decide +kernel⟩
  · exact ⟨S ({ W .service with bil.units := [⟨0, 0, [default], [], 0, default, none⟩] }), _,
        ⟨0, 0, [default], [], 0, default, none⟩, rfl, by decide +kernel⟩
  · exact ⟨S (cfg 5 588 [3, 0, 1] (W .service)), _, rfl, by decide +kernel⟩
  · exact ⟨S ({ W .service with bil.pp := .armed }), _, rfl, by decide +kernel⟩
  · exact ⟨S ({ W .service with bil.pp := .disconnected }), _, 1, rfl, by decide +kernel⟩
  · exact ⟨S (W .service), _, rfl, by decide +kernel⟩
  · exact ⟨S ({ W .service with bil.button := some 99900 }), _, _, rfl, getD_eq (d := default) (by decide +kernel)⟩

/-- A state and operands that meet the hypotheses of every clause of `Obligations.OutletRows` that has some. -/
theorem witness_OutletRows :
    (∃ (s : State) (b : Block) (outlet : Nat) (_highMV : Int) (_lowMV : Int),
      s.blk = b ∧ outletOk outlet) ∧
    (∃ (s : State) (b : Block) (outlet : Nat) (_lowMV : Int),
      s.blk = b ∧ outletOk outlet = true ∧ (b.ol outlet).gen = 1 ∧ 1 ≤ (b.ol outlet).cp ∧ (b.ol outlet).cp ≤ 3 ∧
      (b.ol outlet).diode = false) ∧
    (∃ (s : State) (b : Block) (outlet : Nat) (_res : Nat),
      s.blk = b ∧ b.pwr.heldBy = .no ∧ outletOk outlet = true ∧ b.o8 outlet 3 ≠ 0) ∧
    (∃ (s : State) (b : Block) (outlet : Nat),
      s.blk = b ∧ outletOk outlet && (b.ses outlet).st == .open) ∧
    (∃ (s : State) (b : Block) (outlet : Nat),
      s.blk = b ∧ outletOk outlet && (b.ses outlet).st == .paused) ∧
    (∃ (s : State) (b : Block) (outlet : Nat),
      s.blk = b ∧ b.pwr.heldBy = .no ∧ outletOk outlet = true ∧ (b.ol outlet).modemLost = false) ∧
    (∃ (s : State) (b : Block) (outlet : Nat),
      s.blk = b ∧ b.pwr.heldBy = .no ∧ outletOk outlet = true ∧ (b.ol outlet).modemLost = true) ∧
    (∃ (s : State) (b : Block) (outlet : Nat),
      s.blk = b ∧ outletOk outlet = true ∧ (b.ses outlet).st.stoppable = true ∧ (b.ses outlet).st ≠ .paused ∧
      (2 ≤ (b.ses outlet).proto ∨ (b.ol outlet).slac.result = 2)) := by
  refine ⟨?_, ?_, ?_, ?_, ?_, ?_, ?_, ?_⟩
  · exact ⟨S (W .service), _, 1, 0, 0, rfl, by decide +kernel⟩
  · exact ⟨S (updOl 1 (fun o => { o with gen := 1, cp := 1, diode := false }) (W .service)), _, 1, 0, rfl,
        by decide +kernel⟩
  · exact ⟨S (W .service), _, 1, 1, rfl, by decide +kernel⟩
  · exact ⟨S (updSes 1 (fun o => { o with st := .open }) (W .service)), _, 1, rfl, by decide +kernel⟩
  · exact ⟨S (updSes 1 (fun o => { o with st := .paused }) (W .service)), _, 1, rfl, by decide +kernel⟩
  · exact ⟨S (W .service), _, 1, rfl, by decide +kernel⟩
  · exact ⟨S (updOl 1 (fun o => { o with modemLost := true }) (W .service)), _, 1, rfl, by decide +kernel⟩
  · exact ⟨S (updSes 1 (fun o => { o with st := .open, proto := 2 }) (W .service)), _, 1, rfl, by decide +kernel⟩

/-- A state and operands that meet the hypotheses of every clause of `Obligations.VehicleRows` that has some. -/
theorem witness_VehicleRows :
    (∃ (s : State) (b : Block) (outlet : Nat) (_m : SlacMsg),
      s.blk = b ∧ outletOk outlet = true ∧ (b.ses outlet).st.stoppable = true ∧ (b.ol outlet).modemLost = false ∧
      bylithDown b = false) ∧
    (∃ (s : State) (b : Block) (outlet : Nat),
      s.blk = b ∧ outletOk outlet = true ∧ (b.ses outlet).st.stoppable = true ∧ (b.ol outlet).slac.waitF = false ∧
      ((b.ol outlet).slac.result = 1 ∨ (b.ol outlet).slac.result = 4 ∨ ((b.ol outlet).slac.result = 2 ∧ (b.ol outlet).slac.setup = true))) ∧
    (∃ (s : State) (b : Block) (outlet : Nat),
      s.blk = b ∧ outletOk outlet && (b.ol outlet).slac.waitF && (b.ses outlet).st.stoppable) ∧
    (∃ (s : State) (b : Block) (outlet : Nat) (_tls : Bool),
      s.blk = b ∧ outletOk outlet = true ∧ linked outlet b = true) ∧
    (∃ (s : State) (b : Block) (outlet : Nat) (_version : Nat) (_suites : Nat) (_ok : Bool),
      s.blk = b ∧ outletOk outlet = true ∧ onChip outlet b = true) ∧
    (∃ (s : State) (b : Block) (outlet : Nat) (_bytes : Nat) (_m : V2gMsg),
      s.blk = b ∧ outletOk outlet = true ∧ onChip outlet b = true) ∧
    (∃ (s : State) (b : Block) (outlet : Nat) (_offers : Nat),
      s.blk = b ∧ outletOk outlet = true ∧ onChip outlet b = true) ∧
    (∃ (s : State) (b : Block) (outlet : Nat),
      s.blk = b ∧ outletOk outlet = true ∧ onChip outlet b = true ∧ b.isDc outlet = true ∧
      2 ≤ (b.ses outlet).proto ∧ ((b.ses outlet).st = .authorised ∨ (b.ses outlet).st = .active)) ∧
    (∃ (s : State) (b : Block) (outlet : Nat),
      s.blk = b ∧ outletOk outlet = true ∧ onChip outlet b = true ∧ 2 ≤ (b.ses outlet).proto) ∧
    (∃ (s : State) (b : Block) (outlet : Nat) (_pause : Bool),
      s.blk = b ∧ outletOk outlet = true ∧ onChip outlet b = true ∧ 2 ≤ (b.ses outlet).proto) ∧
    (∃ (s : State) (b : Block) (outlet : Nat) (update : Bool) (_body : List Byte),
      s.blk = b ∧ outletOk outlet = true ∧ onChip outlet b = true ∧
      ((b.ses outlet).proto = 3 ∨ ((b.ses outlet).proto = 4 ∧ update = false))) ∧
    (∃ (s : State) (b : Block) (outlet : Nat),
      s.blk = b ∧ outletOk outlet && (b.ol outlet).certAt.isSome) ∧
    (∃ (s : State) (b : Block) (outlet : Nat) (_data : List Byte) (_closed : Bool),
      s.blk = b ∧ outletOk outlet = true ∧ linked outlet b = true ∧ (b.ses outlet).tunnel = true) := by
  refine ⟨?_, ?_, ?_, ?_, ?_, ?_, ?_, ?_, ?_, ?_, ?_, ?_, ?_⟩
  · exact ⟨S (updSes 1 (fun o => { o with st := .open }) (W .service)), _, 1, .validateReq, rfl, by decide +kernel⟩
  · exact ⟨S (updSlac 1 (fun o => { o with result := 1 }) (updSes 1 (fun o => { o with st := .open }) (W .service))), _,
        1, rfl, by decide +kernel⟩
  · exact ⟨S (updSlac 1 (fun o => { o with waitF := true }) (updSes 1 (fun o => { o with st := .open }) (W .service))),
        _, 1, rfl, by decide +kernel⟩
  · exact ⟨
        S (updSlac 1 (fun o => { o with result := 2 }) (updSes 1 (fun o => { o with st := .open, proto := 3 }) (W .service))),
        _, 1, true, rfl, by decide +kernel⟩
  · exact ⟨
        S (updSlac 1 (fun o => { o with result := 2 }) (updSes 1 (fun o => { o with st := .open, proto := 3 }) (W .service))),
        _, 1, 1, 1, true, rfl, by decide +kernel⟩
  · exact ⟨
        S (updSlac 1 (fun o => { o with result := 2 }) (updSes 1 (fun o => { o with st := .open, proto := 3 }) (W .service))),
        _, 1, 1, .serviceDiscovery, rfl, by decide +kernel⟩
  · exact ⟨
        S (updSlac 1 (fun o => { o with result := 2 }) (updSes 1 (fun o => { o with st := .open, proto := 3 }) (W .service))),
        _, 1, 1, rfl, by decide +kernel⟩
  · exact ⟨
        S (updSlac 1 (fun o => { o with result := 2 }) (updSes 1 (fun o => { o with st := .authorised, proto := 3 }) (cfg 6 16 [2] (W .service)))),
        _, 1, rfl, by decide +kernel⟩
  · exact ⟨
        S (updSlac 1 (fun o => { o with result := 2 }) (updSes 1 (fun o => { o with st := .open, proto := 3 }) (W .service))),
        _, 1, rfl, by decide +kernel⟩
  · exact ⟨
        S (updSlac 1 (fun o => { o with result := 2 }) (updSes 1 (fun o => { o with st := .open, proto := 3 }) (W .service))),
        _, 1, true, rfl, by decide +kernel⟩
  · exact ⟨
        S (updSlac 1 (fun o => { o with result := 2 }) (updSes 1 (fun o => { o with st := .open, proto := 3 }) (W .service))),
        _, 1, true, [], rfl, by decide +kernel⟩
  · exact ⟨S (updOl 1 (fun o => { o with certAt := some 0 }) (W .service)), _, 1, rfl, by decide +kernel⟩
  · exact ⟨
        S (updSes 1 (fun o => { o with tunnel := true }) (updSlac 1 (fun o => { o with result := 2 }) (updSes 1 (fun o => { o with st := .open, proto := 3 }) (W .service)))),
        _, 1, [], true, rfl, by decide +kernel⟩

/-- A state and operands that meet the hypotheses of every clause of `Obligations.SwitchingRows` that has some. -/
theorem witness_SwitchingRows :
    (∃ (s : State) (b : Block),
      s.blk = b ∧ ¬ (b.alc.util == Limit4.off)) ∧
    (∃ (s : State) (b : Block) (outlet : Nat) (irmsDA : Nat),
      s.blk = b ∧ supervised outlet irmsDA b) ∧
    (∃ (s : State) (b : Block) (driver : Nat) (_active : Bool),
      s.blk = b ∧ b.pwr.heldBy == .no && driverOk driver) ∧
    (∃ (s : State) (b : Block) (driver : Nat),
      s.blk = b ∧
      b.pwr.heldBy == .no && driverOk driver && (b.drv driver).on && !(b.drv driver).fb && !(b.drv driver).confirmed && !(driver == 16 && !b.cd16use)) ∧
    (∃ (s : State) (b : Block) (driver : Nat),
      s.blk = b ∧ b.pwr.heldBy = .no ∧ driverOk driver = true ∧ (b.drv driver).coil = .releasing) ∧
    (∃ (s : State) (b : Block) (outlet : Nat),
      s.blk = b ∧
      b.pwr.heldBy == .no && outletOk outlet && !b.isDc outlet && (b.drv outlet).coil == .off && !(b.drv outlet).fb && b.svcOf outlet != 0 && b.svcOf outlet != 3) ∧
    (∃ (s : State) (b : Block) (driver : Nat),
      s.blk = b ∧ driverOk driver && (b.drv driver).coil == .pullIn) ∧
    (∃ (s : State) (b : Block) (outlet : Nat),
      s.blk = b ∧ outletOk outlet && (b.drv outlet).opening.isSome) ∧
    (∃ (s : State) (b : Block) (outlet : Nat) (_currentDA : Nat),
      s.blk = b ∧ outletOk outlet = true ∧ (b.drv outlet).opening.isSome) ∧
    (∃ (s : State) (b : Block) (outlet : Nat) (_vaDV : Nat) (_uoutDV : List Nat),
      s.blk = b ∧ outletOk outlet = true ∧ (b.ao outlet).dcStep = 2) ∧
    (∃ (s : State) (b : Block) (outlet : Nat) (_vaDV : Nat) (_uoutDV : List Nat) (_timedOut : Bool),
      s.blk = b ∧ outletOk outlet = true ∧ (b.ao outlet).dcStep = 5 ∧ (b.ao outlet).preOk = false) ∧
    (∃ (s : State) (b : Block),
      s.blk = b ∧ b.alc.cabinet == .precharge && (b.drv 14).on && (b.drv 14).fb) ∧
    (∃ (s : State) (b : Block),
      s.blk = b ∧
      (b.alc.cabinet == .on && outlets.all (fun n => !b.isDc n || (!(b.drv n).fb && !(b.drv n).on && (b.ao n).dcStep == 0)))) ∧
    (∃ (s : State) (b : Block) (driver : Nat) (t : CdTest),
      s.blk = b ∧ b.alc.test = some t ∧ t.driver = driver ∧ t.phase = 1) := by
  refine ⟨?_, ?_, ?_, ?_, ?_, ?_, ?_, ?_, ?_, ?_, ?_, ?_, ?_, ?_⟩
  · exact ⟨S ({ W .service with alc.util := default }), _, rfl, by decide +kernel⟩
  · exact ⟨S (updDrv 1 (fun o => { o with fb := true }) (updSes 1 (fun o => { o with st := .active }) (W .service))), _,
        1, 60000, rfl, by decide +kernel⟩
  · exact ⟨S (W .service), _, 1, true, rfl, by decide +kernel⟩
  · exact ⟨S (updDrv 1 (fun o => { o with coil := .pullIn }) (W .service)), _, 1, rfl, by decide +kernel⟩
  · exact ⟨S (updDrv 1 (fun o => { o with coil := .releasing, fb := true }) (W .service)), _, 1, rfl, by decide +kernel⟩
  · exact ⟨S (W .service), _, 1, rfl, by decide +kernel⟩
  · exact ⟨S (updDrv 1 (fun o => { o with coil := .pullIn }) (W .service)), _, 1, rfl, by decide +kernel⟩
  · exact ⟨S (updDrv 1 (fun o => { o with opening := some 0 }) (W .service)), _, 1, rfl, by decide +kernel⟩
  · exact ⟨S (updDrv 1 (fun o => { o with opening := some 0 }) (W .service)), _, 1, 1, rfl, by decide +kernel⟩
  · exact ⟨S (updAo 1 (fun o => { o with dcStep := 2 }) (W .service)), _, 1, 1, [], rfl, by decide +kernel⟩
  · exact ⟨S (updAo 1 (fun o => { o with dcStep := 5 }) (W .service)), _, 1, 1, [], true, rfl, by decide +kernel⟩
  · exact ⟨S (updDrv 14 (fun o => { o with coil := .hold, fb := true }) ({ W .service with alc.cabinet := .precharge })),
        _, rfl, by decide +kernel⟩
  · exact ⟨S ({ W .service with alc.cabinet := .on }), _, rfl, by decide +kernel⟩
  · exact ⟨S ({ W .service with alc.test := some ⟨1, 100, ⟨2, 1⟩, 1⟩ }), _, 1, ⟨1, 100, ⟨2, 1⟩, 1⟩, rfl,
        by decide +kernel⟩

/-- A state and operands that meet the hypotheses of every clause of `Obligations.PowerModuleRows` that has some. -/
theorem witness_PowerModuleRows :
    (∃ (s : State) (b : Block),
      s.blk = b ∧ b.pwr.pfw = false ∧ b.pwr.heldBy = .no ∧ b.pwr.anvilDown = false) ∧
    (∃ (s : State) (b : Block) (link : Nat) (node : Nat) (_data : List Byte),
      s.blk = b ∧ canOk link = true ∧ 1 ≤ node ∧ node ≤ 15 ∧ b.canOn link = true) ∧
    (∃ (s : State) (b : Block) (link : Nat) (node : Nat) (data : List Byte) (b1 : Block),
      s.blk = b ∧ updNode link node (fun m => { m with ident := fixLen 16 data }) b = b1 ∧ canOk link = true ∧
      1 ≤ node ∧ node ≤ 15 ∧ b.canOn link = true) ∧
    (∃ (s : State) (b : Block) (link : Nat) (node : Nat),
      s.blk = b ∧ canOk link && 1 ≤ node && node ≤ 15 && (nodeRec link node b).present) ∧
    (∃ (s : State) (b : Block) (link : Nat),
      s.blk = b ∧ canOk link = true ∧ b.canOn link = true ∧ (b.link link).state ≠ 2) ∧
    (∃ (s : State) (b : Block) (link : Nat),
      s.blk = b ∧ canOk link && (b.link link).state == 2) := by
  refine ⟨?_, ?_, ?_, ?_, ?_, ?_⟩
  · exact ⟨S (W .service), _, rfl, by decide +kernel⟩
  · exact ⟨S (cfg 8 232 [1] (W .service)), _, 1, 1, [], rfl, by decide +kernel⟩
  · exact ⟨S (cfg 8 232 [1] (W .service)), _, 1, 1, [], _, rfl, rfl, by decide +kernel⟩
  · exact ⟨S (updNode 1 1 (fun m => { m with present := true }) (W .service)), _, 1, 1, rfl, by decide +kernel⟩
  · exact ⟨S (cfg 8 232 [1] (W .service)), _, 1, rfl, by decide +kernel⟩
  · exact ⟨S (updLink 1 (fun m => { m with state := 2 }) (W .service)), _, 1, rfl, by decide +kernel⟩

/-- A state and operands that meet the hypotheses of every clause of `Obligations.ResidualCurrentRows` that has some. -/
theorem witness_ResidualCurrentRows :
    (∃ (s : State) (b : Block) (outlet : Nat) (cause : Nat),
      s.blk = b ∧
      b.pwr.heldBy == .no && outletOk outlet && 1 ≤ cause && cause ≤ 8 && cause != 7 && detecting outlet b) ∧
    (∃ (s : State) (b : Block) (outlet : Nat),
      s.blk = b ∧ b.pwr.heldBy = .no ∧ outletOk outlet = true ∧ b.svcOf outlet ≠ 0 ∧
      (b.rc outlet).linkFault = false) ∧
    (∃ (s : State) (b : Block) (outlet : Nat),
      s.blk = b ∧ outletOk outlet = true ∧ (b.rc outlet).linkFault = true) ∧
    (∃ (s : State) (b : Block) (outlet : Nat) (_offset : Int) (_plus : Int) (_minus : Int) (_ac : Nat) (_asserted : Bool),
      s.blk = b ∧ outletOk outlet = true ∧ (b.rc outlet).run.testing = true) ∧
    (∃ (s : State) (b : Block) (outlet : Nat) (since : Nat),
      s.blk = b ∧ retrySince outlet b = some since ∧ outletOk outlet = true) ∧
    (∃ (s : State) (b : Block) (outlet : Nat) (_risoOhm : Nat),
      s.blk = b ∧ outletOk outlet = true ∧ b.isDc outlet = true ∧
      ((b.drv outlet).fb = true ∨ (b.ao outlet).dcStep ≠ 0) ∧ b.svcOf outlet ≠ 3 ∧ b.svcOf outlet ≠ 0) ∧
    (∃ (s : State) (b : Block) (injector : Nat) (_risoOhm : Nat) (_ms : Nat) (q : InsReq),
      s.blk = b ∧ (injector = 1 ∨ injector = 2) ∧ (b.inj (injector - 1)).cur = some q) ∧
    (∃ (s : State) (b : Block) (outlet : Nat) (vaReached : Bool),
      s.blk = b ∧ outletOk outlet = true ∧ (b.ao outlet).dcStep = 4 ∧
      (vaReached = true → (b.rc outlet).cableOhm.isSome)) ∧
    (∃ (s : State) (b : Block) (injector : Nat) (fault : Bool),
      s.blk = b ∧ b.pwr.heldBy = .no ∧ (injector = 1 ∨ injector = 2) ∧ (b.inj (injector - 1)).fault ≠ fault) ∧
    (∃ (s : State) (b : Block) (outlet : Nat) (r : CmdRef) (u : Nat) (v : Nat),
      s.blk = b ∧ outletOk outlet = true ∧ (b.rc outlet).run = .inject r u v) := by
  refine ⟨?_, ?_, ?_, ?_, ?_, ?_, ?_, ?_, ?_, ?_⟩
  · exact ⟨S (W .service), _, 1, 1, rfl, by decide +kernel⟩
  · exact ⟨S (W .service), _, 1, rfl, by decide +kernel⟩
  · exact ⟨S (updRc 1 (fun o => { o with linkFault := true }) (W .service)), _, 1, rfl, by decide +kernel⟩
  · exact ⟨S (updRc 1 (fun o => { o with run := .session false }) (W .service)), _, 1, 0, 0, 0, 1, true, rfl,
        by decide +kernel⟩
  · exact ⟨S (updRc 1 (fun o => { o with run := .retryWait 0 }) (W .service)), _, 1, _, rfl,
        getD_eq (d := default) (by decide +kernel), by decide +kernel⟩
  · exact ⟨S (updDrv 1 (fun o => { o with fb := true }) (cfg 6 16 [2] (W .service))), _, 1, 1, rfl, by decide +kernel⟩
  · exact ⟨S (updInj 0 (fun i => { i with cur := some ⟨1, 1, none⟩ }) (W .service)), _, 1, 1, 1, ⟨1, 1, none⟩, rfl,
        by decide +kernel⟩
  · exact ⟨S (updRc 1 (fun o => { o with cableOhm := some 5 }) (updAo 1 (fun o => { o with dcStep := 4 }) (W .service))),
        _, 1, true, rfl, by decide +kernel⟩
  · exact ⟨S (W .service), _, 1, true, rfl, by decide +kernel⟩
  · exact ⟨S (updRc 1 (fun o => { o with run := .inject ⟨2, 1⟩ 0 5 }) (W .service)), _, 1, ⟨2, 1⟩, 0, 5, rfl,
        by decide +kernel⟩

/-- A state and operands that meet the hypotheses of every clause of `Obligations.SafetyRows` that has some. -/
theorem witness_SafetyRows :
    (∃ (s : State) (b : Block) (input : Nat) (chanB : Bool) (value : Bool),
      s.blk = b ∧ b.pwr.anvilDown = false ∧ safOk input = true ∧ b.inType input ≠ 0 ∧
      (chanB = true → b.inType input ≠ 4) ∧ (value = true → b.pwr.vddioOk = true)) ∧
    (∃ (s : State) (b : Block) (_missedOwn : List (Nat × Bool)) (_foreign : List (Nat × Bool)) (_readback : Nat),
      s.blk = b ∧ b.pwr.anvilDown = false) ∧
    (∃ (s : State) (b : Block) (input : Nat),
      s.blk = b ∧ b.pwr.anvilDown = false ∧ safOk input = true ∧
      ((b.inType input = 1 ∨ b.inType input = 3) ∧ (b.sin input).fA ≠ (b.sin input).fB ∨ b.inType input = 2 ∧ (b.sin input).fA = (b.sin input).fB)) ∧
    (∃ (s : State) (b : Block) (input : Nat),
      s.blk = b ∧ b.pwr.anvilDown = false ∧ safOk input = true ∧
      ((b.sin input).fcause ≠ 0 ∨ (safNums.any fun f => b.fnEdm f == input && (b.fn f).edm) = true) ∧
      (b.sin input).relSeen = true ∧ inHealthy input b = true ∧ b.pwr.vddioOk = true) ∧
    (∃ (s : State) (b : Block) (fn : Nat),
      s.blk = b ∧ b.pwr.anvilDown = false ∧ safOk fn = true ∧ (b.fn fn).st = .demand ∧ fnHealthy fn b = true) ∧
    (∃ (s : State) (b : Block) (input : Nat) (_heldMs : Nat),
      s.blk = b ∧ b.pwr.anvilDown = false ∧ safOk input = true ∧ b.inType input = 4 ∧
      safNums.any (fun f => b.fnKind f != 0 && psFn b.saf.pset f 3 == input) = true) ∧
    (∃ (s : State) (b : Block) (input : Nat) (q : Nat),
      s.blk = b ∧ ((safNums.filter fun f => b.fnKind f != 0 && b.fnEdm f == input).map b.fnPair).headD 0 = q ∧
      b.pwr.anvilDown = false ∧ safOk input = true ∧ q ≠ 0 ∧ inHealthy input b = bit b.saf.pairs (q - 1)) ∧
    (∃ (s : State) (b : Block) (fn : Nat) (_pairUs : Nat) (_coilUs : Nat) (r : CmdRef),
      s.blk = b ∧ (b.fn fn).test = some r) := by
  refine ⟨?_, ?_, ?_, ?_, ?_, ?_, ?_, ?_⟩
  · exact ⟨S ({ W .service with saf.pset := putBytes Block.reset.saf.pset 24 [1] }), _, 1, true, true, rfl,
        by decide +kernel⟩
  · exact ⟨S (W .service), _, [], [], 1, rfl, by decide +kernel⟩
  · exact ⟨S ({ W .service with saf.pset := putBytes Block.reset.saf.pset 24 [2] }), _, 1, rfl, by decide +kernel⟩
  · exact ⟨
        S (updIn 1 (fun i => { i with fcause := 1, relSeen := true, fA := true, fB := true }) ({ W .service with saf.pset := putBytes Block.reset.saf.pset 24 [1] })),
        _, 1, rfl, by decide +kernel⟩
  · exact ⟨
        S (updIn 1 (fun i => { i with fA := true, fB := true }) (updFn 1 (fun f => { f with st := .demand }) ({ W .service with saf.pset := putBytes (putBytes Block.reset.saf.pset 24 [1]) 176 [2, 1, 0, 255] }))),
        _, 1, rfl, by decide +kernel⟩
  · exact ⟨S ({ W .service with saf.pset := putBytes (putBytes Block.reset.saf.pset 24 [4]) 176 [1, 0, 0, 1] }), _, 1, 1,
        rfl, by decide +kernel⟩
  · exact ⟨
        S ({ W .service with saf.pset := putBytes (putBytes Block.reset.saf.pset 24 [5]) 176 [1, 0, 0, 0, 0, 0, 1, 1] }),
        _, 1, 1, rfl, by decide +kernel, by decide +kernel⟩
  · exact ⟨S (updFn 1 (fun f => { f with test := some ⟨2, 1⟩ }) (W .service)), _, 1, 1, 1, ⟨2, 1⟩, rfl, by decide +kernel⟩

/-- A state and operands that meet the hypotheses of every clause of `Obligations.SecurityRows` that has some. -/
theorem witness_SecurityRows :
    (∃ (s : State) (b : Block) (k : Nat),
      s.blk = b ∧ watched b && 1 ≤ k && k ≤ 8 && !bit b.cru.tmpOpen (k - 1)) ∧
    (∃ (s : State) (b : Block) (k : Nat),
      s.blk = b ∧ watched b && 1 ≤ k && k ≤ 8) ∧
    (∃ (s : State) (b : Block),
      s.blk = b ∧ watched b) ∧
    (∃ (s : State) (b : Block) (_clock : Bool),
      s.blk = b ∧ watched b = true) ∧
    (∃ (s : State) (b : Block) (m : Nat) (_fieldDmT : Option Nat),
      s.blk = b ∧ watched b && 1 ≤ m && m ≤ 4 && magAddr m b != 0) ∧
    (∃ (s : State) (b : Block) (_blocked : Option Nat),
      s.blk = b ∧ b.cru.dbgState ≠ 1 ∧ b.pwr.heldBy = .no) ∧
    (∃ (s : State) (b : Block) (core : Nat),
      s.blk = b ∧ core < 4 && b.cru.dbgState == 1 && b.inMode mHalt && larkspurRuns core b) ∧
    (∃ (s : State) (b : Block) (core : Nat),
      s.blk = b ∧ core < 4 && b.cru.dbgState == 1) ∧
    (∃ (s : State) (b : Block),
      s.blk = b ∧ crucRuns b && b.cru.drbgOk) ∧
    (∃ (s : State) (b : Block) (_kind : Nat),
      s.blk = b ∧ crucRuns b && b.cru.drbgOk) ∧
    (∃ (s : State) (b : Block) (_pass : Bool),
      s.blk = b ∧ crucRuns b = true ∧ b.cru.drbgOk = false) ∧
    (∃ (s : State) (b : Block) (g : Grant),
      s.blk = b ∧ b.cru.grant = some g ∧ g.expiry ≤ b.sys.mtime) ∧
    (∃ (s : State) (b : Block) (port : Nat) (tls13 : Bool) (suiteOk : Bool) (_certChain : List Byte),
      s.blk = b ∧ (port = 1 ∨ port = 2) ∧ tls13 = true ∧ suiteOk = true ∧ served b = true ∧ crucRuns b = true ∧
      b.cru.drbgOk = true ∧ b.lnk.conns.any (fun c => c.port == port && c.service == 0) = true ∧
      tget b.cru.tls (port - 1) = false ∧ slotValid 19 b = true ∧ (lookupN 19 b.cru.chains).isSome = true) := by
  refine ⟨?_, ?_, ?_, ?_, ?_, ?_, ?_, ?_, ?_, ?_, ?_, ?_, ?_⟩
  · exact ⟨S (W .service), _, 1, rfl, by decide +kernel⟩
  · exact ⟨S (W .service), _, 1, rfl, by decide +kernel⟩
  · exact ⟨S (W .service), _, rfl, by decide +kernel⟩
  · exact ⟨S (W .service), _, true, rfl, by decide +kernel⟩
  · exact ⟨S ({ W .service with cru.tamperCfg := zeros 32 ++ [1] ++ zeros 20 }), _, 1, none, rfl, by decide +kernel⟩
  · exact ⟨S ({ W .service with cru.dbgState := 0 }), _, none, rfl, by decide +kernel⟩
  · exact ⟨S ({ W .maintain with cru.dbgState := 1 }), _, 1, rfl, by decide +kernel⟩
  · exact ⟨S ({ W .service with cru.dbgState := 1 }), _, 1, rfl, by decide +kernel⟩
  · exact ⟨S (W .service), _, rfl, by decide +kernel⟩
  · exact ⟨S (W .service), _, 1, rfl, by decide +kernel⟩
  · exact ⟨S ({ W .service with cru.drbgOk := false }), _, true, rfl, by decide +kernel⟩
  · exact ⟨S ({ W .service with cru.grant := some { grant0 with expiry := 5 } }), _, _, rfl,
        getD_eq (d := default) (by decide +kernel), by decide +kernel⟩
  · exact ⟨
        S ({ W .service with lnk.conns := [⟨1, 1, 1, 0⟩], cru.slots := List.replicate 64 ⟨0x81000000, []⟩, cru.chains := [(19, [])] }),
        _, 1, true, true, [], rfl, by decide +kernel⟩

/-- A state and operands that meet the hypotheses of every clause of `Obligations.ContactlessRows` that has some. -/
theorem witness_ContactlessRows :
    (∃ (s : State) (b : Block) (ant : Nat) (_icoilMA : Nat) (_found : PollResult),
      s.blk = b ∧ polled ant b = true ∧ (b.ant ant).fault = 0) ∧
    (∃ (s : State) (b : Block) (uid : List Byte) (d : Decided),
      s.blk = b ∧ b.cls.decided.find? (fun d => d.uid == uid) = some d ∧
      antennas.any (fun k => (b.ant k).present && (b.ant k).uid == uid) = false) ∧
    (∃ (s : State) (b : Block) (ant : Nat) (_icoilMA : Nat),
      s.blk = b ∧ polled ant b = true ∧ (b.ant ant).fault ≠ 0) ∧
    (∃ (s : State) (b : Block) (x : CardHold),
      s.blk = b ∧ b.cls.hold = some x) ∧
    (∃ (s : State) (b : Block) (_icoilMA : Nat) (t : FieldTest),
      s.blk = b ∧ b.cls.test = some t) ∧
    (∃ (s : State) (b : Block) (_vhMV : Nat),
      s.blk = b ∧ ¬ (b.tag.field)) ∧
    (∃ (s : State) (b : Block),
      s.blk = b ∧ b.tag.field = true) ∧
    (∃ (s : State) (b : Block) (wupa : Bool),
      s.blk = b ∧ (b.tag.st = 1 ∨ b.tag.st = 2 ∨ (b.tag.st = 4 ∧ wupa = true))) ∧
    (∃ (s : State) (b : Block) (_uid : List Byte),
      s.blk = b ∧ b.tag.st = 2) ∧
    (∃ (s : State) (b : Block) (deselect : Bool),
      s.blk = b ∧ b.tag.st = 3 ∧ deselect = b.tag.rats) ∧
    (∃ (s : State) (b : Block),
      s.blk = b ∧ b.tag.st == 3 && !b.tag.rats) ∧
    (∃ (s : State) (b : Block),
      s.blk = b ∧ b.tag.st == 2) ∧
    (∃ (s : State) (b : Block) (c : Block),
      s.blk = b ∧ tagServed b = c ∧ b.tag.st = 3 ∧ b.tag.rats = true) ∧
    (∃ (s : State) (b : Block) (toolId : Nat) (_rndT : List Byte) (c : Block) (key : List Byte),
      s.blk = b ∧ tagServed b = c ∧ b.tag.st = 3 ∧ b.tag.rats = true ∧ c.tag.key = some key ∧
      c.tag.toolMin ≤ toolId ∧ c.tag.blocked = false) ∧
    (∃ (s : State) (b : Block) (_macT : List Byte) (c : Block) (tool : Nat) (key : List Byte),
      s.blk = b ∧ tagServed b = c ∧ b.tag.st = 3 ∧ b.tag.rats = true ∧ c.tag.auth1 = some tool ∧
      c.tag.key = some key) ∧
    (∃ (s : State) (b : Block),
      s.blk = b ∧ b.tag.blocked) ∧
    (∃ (s : State) (b : Block) (block : Nat) (ccmOk : Bool) (c : Block),
      s.blk = b ∧ tagServed b = c ∧ b.tag.st = 3 ∧ b.tag.rats = true ∧ block < 256 ∧
      (rfAccess block = 1 ∨ (rfAccess block = 2 ∧ c.tag.session = true)) ∧ (c.tag.session = true → ccmOk = true) ∧
      c.tag.bad.contains block = false) ∧
    (∃ (s : State) (b : Block) (block : Nat) (cc : Nat) (_data : List Byte) (ccmOk : Bool) (_step : Nat) (c : Block),
      s.blk = b ∧ tagServed b = c ∧ b.tag.st = 3 ∧ b.tag.rats = true ∧ 64 ≤ block ∧ block ≤ 127 ∧
      c.tag.session = true ∧ ccmOk = true ∧ c.tag.lastCC < cc) ∧
    (∃ (s : State) (b : Block) (first : Nat) (count : Nat) (ccmOk : Bool) (c : Block),
      s.blk = b ∧ tagServed b = c ∧ b.tag.st = 3 ∧ b.tag.rats = true ∧ 1 ≤ count ∧ first + count ≤ 256 ∧
      128 ≤ first ∧ c.tag.session = true ∧ ccmOk = true) ∧
    (∃ (s : State) (b : Block) (first : Nat) (count : Nat) (ccmOk : Bool) (c : Block),
      s.blk = b ∧ tagServed b = c ∧ b.tag.st = 3 ∧ b.tag.rats = true ∧ 1 ≤ count ∧ first + count ≤ 256 ∧
      128 ≤ first ∧ c.tag.session = true ∧ ccmOk = true) ∧
    (∃ (s : State) (b : Block) (_pass : Bool),
      s.blk = b ∧ b.tag.port = false ∧ b.tag.key.isSome ∧ crucRuns b = true ∧ slotValid 5 b = true) := by
  refine ⟨?_, ?_, ?_, ?_, ?_, ?_, ?_, ?_, ?_, ?_, ?_, ?_, ?_, ?_, ?_, ?_, ?_, ?_, ?_, ?_, ?_⟩
  · exact ⟨S (updAnt 1 (fun a => { a with held := true }) (W .service)), _, 1, 170, .none, rfl, by decide +kernel⟩
  · exact ⟨S ({ W .service with cls.decided := [⟨[], 1⟩] }), _, [], _, rfl, getD_eq (d := default) (by decide +kernel),
        by decide +kernel⟩
  · exact ⟨S (updAnt 1 (fun a => { a with held := true, fault := 1 }) (W .service)), _, 1, 170, rfl, by decide +kernel⟩
  · exact ⟨S ({ W .service with cls.hold := some ⟨1, 1, 0⟩ }), _, _, rfl, getD_eq (d := default) (by decide +kernel)⟩
  · exact ⟨S ({ W .service with cls.test := some ⟨1, 1, 100, ⟨2, 1⟩⟩ }), _, 1, ⟨1, 1, 100, ⟨2, 1⟩⟩, rfl,
        by decide +kernel⟩
  · exact ⟨S (W .service), _, 1, rfl, by decide +kernel⟩
  · exact ⟨S ({ W .service with tag.field := true }), _, rfl, by decide +kernel⟩
  · exact ⟨S ({ W .service with tag.st := 1 }), _, true, rfl, by decide +kernel⟩
  · exact ⟨S ({ W .service with tag.st := 2 }), _, [], rfl, by decide +kernel⟩
  · exact ⟨S ({ W .service with tag.st := 3, tag.rats := true }), _, true, rfl, by decide +kernel⟩
  · exact ⟨S ({ W .service with tag.st := 3 }), _, rfl, by decide +kernel⟩
  · exact ⟨S ({ W .service with tag.st := 2 }), _, rfl, by decide +kernel⟩
  · exact ⟨S ({ W .service with tag.st := 3, tag.rats := true }), _, _, rfl, rfl, by decide +kernel⟩
  · exact ⟨S ({ W .service with tag.st := 3, tag.rats := true, tag.key := some [1] }), _, 1, [], _, [1], rfl, rfl,
        by decide +kernel⟩
  · exact ⟨S ({ W .service with tag.st := 3, tag.rats := true, tag.key := some [1], tag.auth1 := some 1 }), _, [], _, 1,
        [1], rfl, rfl, by decide +kernel⟩
  · exact ⟨S ({ W .service with tag.blocked := true, tag.blockedAt := 1 }), _, rfl, by decide +kernel⟩
  · exact ⟨S ({ W .service with tag.st := 3, tag.rats := true }), _, 0, true, _, rfl, rfl, by decide +kernel⟩
  · exact ⟨S ({ W .service with tag.st := 3, tag.rats := true, tag.session := true }), _, 64, 1, [], true, 1, _, rfl,
        rfl, by decide +kernel⟩
  · exact ⟨S ({ W .service with tag.st := 3, tag.rats := true, tag.session := true }), _, 128, 1, true, _, rfl, rfl,
        by decide +kernel⟩
  · exact ⟨S ({ W .service with tag.st := 3, tag.rats := true, tag.session := true }), _, 128, 1, true, _, rfl, rfl,
        by decide +kernel⟩
  · exact ⟨
        S ({ W .service with tag.key := some [1], tag.port := false, cru.slots := List.replicate 64 ⟨0x81000000, []⟩ }),
        _, true, rfl, by decide +kernel⟩

/-- A state and operands that meet the hypotheses of every clause of `Obligations.MainsLinkRows` that has some. -/
theorem witness_MainsLinkRows :
    (∃ (s : State) (b : Block) (f : RxFrame),
      s.blk = b ∧ mlkHears b = true ∧ ofType 1 f.raw = true ∧ verdict true f b ≠ .crc ∧ verdict true f b ≠ .erased) ∧
    (∃ (s : State) (b : Block) (f : RxFrame),
      s.blk = b ∧ mlkHears b = true ∧ ofType 2 f.raw = true ∧ verdict true f b ≠ .crc ∧ verdict true f b ≠ .erased) ∧
    (∃ (s : State) (b : Block) (f : RxFrame) (_sinceMs : Nat),
      s.blk = b ∧ mlkHears b = true ∧ ofType 3 f.raw = true ∧ verdict true f b ≠ .crc ∧ verdict true f b ≠ .erased) ∧
    (∃ (s : State) (b : Block) (f : RxFrame),
      s.blk = b ∧ mlkHears b = true ∧ ofType 4 f.raw = true ∧ verdict true f b ≠ .crc ∧ verdict true f b ≠ .erased) ∧
    (∃ (s : State) (b : Block) (f : RxFrame),
      s.blk = b ∧ mlkHears b = true ∧ ofType 5 f.raw = true ∧ verdict true f b ≠ .crc ∧ verdict true f b ≠ .erased) ∧
    (∃ (s : State) (b : Block) (f : RxFrame),
      s.blk = b ∧ mlkHears b = true ∧ ofCtrl 1 f.raw = true ∧ verdict true f b ≠ .crc ∧ verdict true f b ≠ .erased) ∧
    (∃ (s : State) (b : Block) (f : RxFrame),
      s.blk = b ∧ mlkHears b = true ∧ ofCtrl 2 f.raw = true ∧ verdict true f b ≠ .crc ∧ verdict true f b ≠ .erased) ∧
    (∃ (s : State) (b : Block) (f : RxFrame),
      s.blk = b ∧ mlkHears b = true ∧ ofCtrl 3 f.raw = true ∧ verdict true f b ≠ .crc ∧ verdict true f b ≠ .erased) ∧
    (∃ (s : State) (b : Block) (f : RxFrame),
      s.blk = b ∧ mlkHears b = true ∧ ofCtrl 4 f.raw = true ∧ verdict true f b ≠ .crc ∧ verdict true f b ≠ .erased) ∧
    (∃ (s : State) (b : Block) (f : RxFrame),
      s.blk = b ∧ mlkHears b = true ∧ ofType 7 f.raw = true ∧ verdict true f b ≠ .crc ∧ verdict true f b ≠ .erased) ∧
    (∃ (s : State) (b : Block) (f : RxFrame),
      s.blk = b ∧ mlkHears b = true ∧ ofType 8 f.raw = true ∧ verdict true f b ≠ .crc ∧ verdict true f b ≠ .erased) ∧
    (∃ (s : State) (b : Block) (f : RxFrame),
      s.blk = b ∧ mlkHears b = true ∧ ofType 10 f.raw = true ∧ verdict true f b ≠ .crc ∧
      verdict true f b ≠ .erased) ∧
    (∃ (s : State) (b : Block) (f : RxFrame),
      s.blk = b ∧ mlkHears b = true ∧ ofType 11 f.raw = true ∧ verdict true f b ≠ .crc ∧
      verdict true f b ≠ .erased) ∧
    (∃ (s : State) (b : Block) (_w : RxWin) (_timer : Bool),
      s.blk = b ∧ b.mlk.st ≠ 0) ∧
    (∃ (s : State) (b : Block),
      s.blk = b ∧ (b.mlk.st = 1 ∨ b.mlk.st = 3) ∧ b.mlk.test = none ∧ b.mlk.txq ≠ [] ∧ b.mlk.wait = some 0) ∧
    (∃ (s : State) (b : Block),
      s.blk = b ∧ b.mlk.st ≠ 0) ∧
    (∃ (s : State) (b : Block),
      s.blk = b ∧ b.mlk.st ≠ 0 ∧ b.mlk.lock = false ∧ b.m8 2 = 3) ∧
    (∃ (s : State) (b : Block) (fcnt : Nat) (f : TxFrame),
      s.blk = b ∧ b.mlk.await.find? (fun f => frFcnt f.raw == fcnt) = some f ∧
      (f.tries < b.m8 32 → b.mlk.txq.length + b.mlk.out.length < 16)) ∧
    (∃ (s : State) (b : Block),
      s.blk = b ∧ ¬ (b.mlk.st == 0 || u16At b.mlk.cfg 34 == 0)) ∧
    (∃ (s : State) (b : Block) (coupling : Nat) (_pass : Bool),
      s.blk = b ∧ 1 ≤ coupling ∧ coupling ≤ 3 ∧ b.mlk.st ≠ 0 ∧ (tget b.mlk.cps (coupling - 1)).fault = true) ∧
    (∃ (s : State) (b : Block) (coupling : Nat),
      s.blk = b ∧ 1 ≤ coupling && coupling ≤ 3 && b.mlk.st != 0 && cpOn coupling b) ∧
    (∃ (s : State) (b : Block) (_itxMA : Nat) (t : Nat × Nat × Nat × CmdRef),
      s.blk = b ∧ b.mlk.test = some t) := by
  refine ⟨?_, ?_, ?_, ?_, ?_, ?_, ?_, ?_, ?_, ?_, ?_, ?_, ?_, ?_, ?_, ?_, ?_, ?_, ?_, ?_, ?_, ?_⟩
  · exact ⟨S ({ W .service with mlk.st := 1 }), _, ⟨frame0 1 0, 0⟩, rfl, by decide +kernel⟩
  · exact ⟨S ({ W .service with mlk.st := 1 }), _, ⟨frame0 2 0, 0⟩, rfl, by decide +kernel⟩
  · exact ⟨S ({ W .service with mlk.st := 1 }), _, ⟨frame0 3 0, 0⟩, 1, rfl, by decide +kernel⟩
  · exact ⟨S ({ W .service with mlk.st := 1 }), _, ⟨frame0 4 0, 0⟩, rfl, by decide +kernel⟩
  · exact ⟨S ({ W .service with mlk.st := 1 }), _, ⟨frame0 5 0, 0⟩, rfl, by decide +kernel⟩
  · exact ⟨S ({ W .service with mlk.st := 1 }), _, ⟨frame0 6 1, 0⟩, rfl, by decide +kernel⟩
  · exact ⟨S ({ W .service with mlk.st := 1 }), _, ⟨frame0 6 2, 0⟩, rfl, by decide +kernel⟩
  · exact ⟨S ({ W .service with mlk.st := 1 }), _, ⟨frame0 6 3, 0⟩, rfl, by decide +kernel⟩
  · exact ⟨S ({ W .service with mlk.st := 1 }), _, ⟨frame0 6 4, 0⟩, rfl, by decide +kernel⟩
  · exact ⟨S ({ W .service with mlk.st := 1 }), _, ⟨frame0 7 0, 0⟩, rfl, by decide +kernel⟩
  · exact ⟨S ({ W .service with mlk.st := 1 }), _, ⟨frame0 8 0, 0⟩, rfl, by decide +kernel⟩
  · exact ⟨S ({ W .service with mlk.st := 1 }), _, ⟨frame0 10 0, 0⟩, rfl, by decide +kernel⟩
  · exact ⟨S ({ W .service with mlk.st := 1 }), _, ⟨frame0 11 0, 0⟩, rfl, by decide +kernel⟩
  · exact ⟨S ({ W .service with mlk.st := 1 }), _, default, true, rfl, by decide +kernel⟩
  · exact ⟨S ({ W .service with mlk.st := 1, mlk.txq := [⟨[], 0, 0, 0⟩], mlk.wait := some 0 }), _, rfl, by decide +kernel⟩
  · exact ⟨S ({ W .service with mlk.st := 1 }), _, rfl, by decide +kernel⟩
  · exact ⟨S ({ W .service with mlk.st := 1, mlk.cfg := putBytes Block.reset.mlk.cfg 2 [3] }), _, rfl, by decide +kernel⟩
  · exact ⟨S ({ W .service with mlk.await := [⟨zeros 20, 0, 0, 0⟩] }), _, 0, ⟨zeros 20, 0, 0, 0⟩, rfl, by decide +kernel⟩
  · exact ⟨S ({ W .service with mlk.st := 1, mlk.cfg := putBytes Block.reset.mlk.cfg 34 [1] }), _, rfl, by decide +kernel⟩
  · exact ⟨S ({ W .service with mlk.st := 1, mlk.cps := Block.reset.mlk.cps.map fun c => { c with fault := true } }), _,
        1, true, rfl, by decide +kernel⟩
  · exact ⟨S ({ W .service with mlk.st := 1 }), _, 1, rfl, by decide +kernel⟩
  · exact ⟨S ({ W .service with mlk.test := some (1, 0, 100, ⟨2, 1⟩) }), _, 1, (1, 0, 100, ⟨2, 1⟩), rfl,
        by decide +kernel⟩

/-- A state and operands that meet the hypotheses of every clause of `Obligations.DisplayRows` that has some. -/
theorem witness_DisplayRows :
    (∃ (s : State) (b : Block) (_o : FrameObs),
      s.blk = b ∧ ¬ (b.pwr.heldBy != .no)) ∧
    (∃ (s : State) (b : Block) (_faultyOpen : List Nat) (_faultyShort : List Nat) (_faultyRows : List Nat),
      s.blk = b ∧ b.dis.mstate = 1 ∧ disCause b = 0) ∧
    (∃ (s : State) (b : Block) (_pageMs : Nat),
      s.blk = b ∧ b.dis.shown.isSome) ∧
    (∃ (s : State) (b : Block) (_driveMA : Nat),
      s.blk = b ∧ bsdRuns b = true ∧ b.dis.bsd.seg ≤ 47) ∧
    (∃ (s : State) (b : Block) (_openCols : Nat) (_shortCols : Nat) (_rows : Nat) (t : DisTest),
      s.blk = b ∧ b.dis.test = some t) := by
  refine ⟨?_, ?_, ?_, ?_, ?_⟩
  · exact ⟨S (W .service), _, default, rfl, by decide +kernel⟩
  · exact ⟨S ({ cfg 0x0C 0 [1] (W .service) with dis.mstate := 1 }), _, [], [], [], rfl, by decide +kernel⟩
  · exact ⟨S ({ W .service with dis.shown := some (1, 1) }), _, 1, rfl, by decide +kernel⟩
  · exact ⟨S ({ cfg 0x0C 12 [1] (W .service) with dis.bsd.seg := 0 }), _, 1, rfl, by decide +kernel⟩
  · exact ⟨S ({ W .service with dis.test := some ⟨1, 100, 100, ⟨2, 1⟩⟩ }), _, 1, 1, 1, ⟨1, 100, 100, ⟨2, 1⟩⟩, rfl,
        by decide +kernel⟩

/-- A state and operands that meet the hypotheses of every clause of `Obligations.LoadSwitchRows` that has some. -/
theorem witness_LoadSwitchRows :
    (∃ (s : State) (b : Block) (ch : Nat) (_peakDA : Nat),
      s.blk = b ∧ lsOk ch && (b.ls ch).st == .on) ∧
    (∃ (s : State) (b : Block) (ch : Nat) (_peakDA : Nat),
      s.blk = b ∧ lsOk ch = true ∧ ((b.ls ch).st = .on ∨ (b.ls ch).st = .inrush)) ∧
    (∃ (s : State) (b : Block) (ch : Nat) (_peakDA : Nat) (_tjDC : Int),
      s.blk = b ∧ b.pwr.heldBy == .no && lsOk ch && !(b.ls ch).latch) ∧
    (∃ (s : State) (b : Block) (ch : Nat) (tjDC : Int),
      s.blk = b ∧ lsOk ch && (b.ls ch).latch && tjDC ≤ 1500) ∧
    (∃ (s : State) (b : Block) (ch : Nat),
      s.blk = b ∧ lsOk ch && (b.ls ch).st == .inrush) ∧
    (∃ (s : State) (b : Block) (ch : Nat),
      s.blk = b ∧ lsOk ch && (b.ls ch).tripped && (b.ls ch).st != .suspended) ∧
    (∃ (s : State) (b : Block) (ch : Nat),
      s.blk = b ∧ lsOk ch && (b.ls ch).st == .on) ∧
    (∃ (s : State) (b : Block) (ch : Nat) (_pass : Bool),
      s.blk = b ∧ lsOk ch = true ∧ (b.ls ch).st = .off ∧ b.lsEn ch = true) ∧
    (∃ (s : State) (b : Block) (ch : Nat) (cause : Nat) (found : Bool),
      s.blk = b ∧ lsOk ch = true ∧ 4 ≤ cause ∧ cause ≤ 6 ∧
      (if found then flagLive ch cause b = true ∧ bit (b.ls ch).flags cause = false else bit (b.ls ch).flags cause = true)) ∧
    (∃ (s : State) (b : Block) (ch : Nat) (_peakMA : Nat) (t : LsTest),
      s.blk = b ∧ b.lsw.test = some t ∧ t.ch = ch ∧ t.op = 2) := by
  refine ⟨?_, ?_, ?_, ?_, ?_, ?_, ?_, ?_, ?_, ?_⟩
  · exact ⟨S (updLs 1 (fun o => { o with st := .on }) (W .service)), _, 1, 1, rfl, by decide +kernel⟩
  · exact ⟨S (updLs 1 (fun o => { o with st := .on }) (W .service)), _, 1, 1, rfl, by decide +kernel⟩
  · exact ⟨S (W .service), _, 1, 1, 0, rfl, by decide +kernel⟩
  · exact ⟨S (updLs 1 (fun o => { o with latch := true }) (W .service)), _, 1, 0, rfl, by decide +kernel⟩
  · exact ⟨S (updLs 1 (fun o => { o with st := .inrush }) (W .service)), _, 1, rfl, by decide +kernel⟩
  · exact ⟨S (updLs 1 (fun o => { o with st := .wait, tripped := true }) (W .service)), _, 1, rfl, by decide +kernel⟩
  · exact ⟨S (updLs 1 (fun o => { o with st := .on }) (W .service)), _, 1, rfl, by decide +kernel⟩
  · exact ⟨S (cfg 0x0D 16 [1] (W .service)), _, 1, true, rfl, by decide +kernel⟩
  · exact ⟨S (updLs 1 (fun o => { o with flags := 16 }) (W .service)), _, 1, 4, false, rfl, by decide +kernel⟩
  · exact ⟨S ({ W .service with lsw.test := some ⟨1, 2, 100, 0, ⟨2, 1⟩⟩ }), _, 1, 1, ⟨1, 2, 100, 0, ⟨2, 1⟩⟩, rfl,
        by decide +kernel⟩

/-- A state and operands that meet the hypotheses of every clause of `Obligations.UpdateRows` that has some. -/
theorem witness_UpdateRows :
    (∃ (s : State) (b : Block),
      s.blk = b ∧ ¬ (b.upd.st != .erasing || !updRuns b)) ∧
    (∃ (s : State) (b : Block),
      s.blk = b ∧ b.upd.st == .verifying && updRuns b) ∧
    (∃ (s : State) (b : Block),
      s.blk = b ∧ b.upd.st = .scheduled ∧ updRuns b = true ∧ b.inMode [.standby, .service, .degraded] = true ∧
      b.sys.trans = none ∧ updDue b ≤ b.sys.mtime ∧ b.sys.mtime ≤ updWindowEnd b) ∧
    (∃ (s : State) (b : Block),
      s.blk = b ∧ b.upd.st == .scheduled && updWindowEnd b ≤ b.sys.mtime && b.pwr.heldBy == .no) ∧
    (∃ (s : State) (b : Block) (x : Nat),
      s.blk = b ∧ b.sys.mode = .activate ∧ b.upd.act = .trial x) ∧
    (∃ (s : State) (b : Block) (_code : Nat) (_part : Nat) (x : Nat),
      s.blk = b ∧ b.upd.act = .trial x) ∧
    (∃ (s : State) (b : Block),
      s.blk = b ∧ b.upd.st = .activating ∧ b.upd.act = .stopping ∧ outletsOpen b = true ∧ b.pwr.heldBy = .no ∧
      b.sys.mode ≠ .outage) ∧
    (∃ (s : State) (b : Block) (outlet : Nat),
      s.blk = b ∧
      (outletOk outlet && b.upd.gpmLoad == 0 && updRuns b && bit b.upd.gpmPend (outlet - 1) && noSession outlet b && (upto 1 (outlet - 1)).all (fun k => !bit b.upd.gpmPend (k - 1) || !noSession k b))) ∧
    (∃ (s : State) (b : Block) (outlet : Nat) (_failed : Bool),
      s.blk = b ∧ outletOk outlet && b.upd.gpmLoad == outlet) := by
  refine ⟨?_, ?_, ?_, ?_, ?_, ?_, ?_, ?_, ?_⟩
  · exact ⟨S ({ W .service with upd.st := .erasing }), _, rfl, by decide +kernel⟩
  · exact ⟨S ({ W .service with upd.st := .verifying }), _, rfl, by decide +kernel⟩
  · exact ⟨S ({ W .service with upd.st := .scheduled, upd.sched := some (0, 10) }), _, rfl, by decide +kernel⟩
  · exact ⟨S ({ W .service with upd.st := .scheduled, upd.sched := some (0, 1) }), _, rfl, by decide +kernel⟩
  · exact ⟨S ({ W .activate with upd.act := .trial 1 }), _, 1, rfl, by decide +kernel⟩
  · exact ⟨S ({ W .service with upd.act := .trial 1 }), _, 1, 1, 1, rfl, by decide +kernel⟩
  · exact ⟨S ({ W .service with upd.st := .activating, upd.act := .stopping }), _, rfl, by decide +kernel⟩
  · exact ⟨S ({ W .service with upd.gpmPend := 1 }), _, 1, rfl, by decide +kernel⟩
  · exact ⟨S ({ W .service with upd.gpmLoad := 1 }), _, 1, true, rfl, by decide +kernel⟩

/-- A state and operands that meet the hypotheses of every clause of `Obligations.LinkRows` that has some. -/
theorem witness_LinkRows :
    (∃ (s : State) (b : Block),
      s.blk = b ∧ b.pwr.heldBy == .no && !b.lnk.phyRst) ∧
    (∃ (s : State) (b : Block) (port : Nat) (_up : Bool) (direct : Bool),
      s.blk = b ∧ ((port == 1 || port == 2) && (direct || b.lnk.phyRst))) ∧
    (∃ (s : State) (b : Block) (port : Nat) (_dst : Nat) (_src : Nat) (_frame : List Byte),
      s.blk = b ∧ forwards port b) ∧
    (∃ (s : State) (b : Block) (mac : Nat) (x : MacEntry),
      s.blk = b ∧ b.lnk.macs.find? (fun e => e.mac == mac % 2 ^ 48) = some x) ∧
    (∃ (s : State) (b : Block) (port : Nat) (_client : Nat) (_tcpPort : Nat),
      s.blk = b ∧ (port = 1 ∨ port = 2) ∧ tcpOffered b = true) ∧
    (∃ (s : State) (b : Block) (conn : Nat) (c : TcpConn),
      s.blk = b ∧ b.lnk.conns.find? (fun c => c.id == conn) = some c) ∧
    (∃ (s : State) (b : Block) (conn : Nat) (_tid : Nat) (_unit : Nat) (_pdu : List Byte),
      s.blk = b ∧ tcpOffered b = true ∧ b.lnk.conns.any (fun c => c.id == conn && c.service == 1) = true) ∧
    (∃ (s : State) (b : Block) (link : Nat) (unit : Nat) (pdu : List Byte) (crcOk : Bool) (r : MbReq),
      s.blk = b ∧ 1 ≤ link ∧ link ≤ 10 ∧ (b.ser link).cur = some r ∧ crcOk = true ∧ unit = r.unit ∧
      u8At pdu 0 % 128 = u8At r.pdu 0 % 128) ∧
    (∃ (s : State) (b : Block) (link : Nat) (r : MbReq),
      s.blk = b ∧ 1 ≤ link ∧ link ≤ 10 ∧ (b.ser link).cur = some r) ∧
    (∃ (s : State) (b : Block) (uart : Nat) (_data : List Byte),
      s.blk = b ∧ isBridge uart b && (bridgeConn uart b).isSome) ∧
    (∃ (s : State) (b : Block) (uart : Nat) (_data : List Byte) (c : TcpConn),
      s.blk = b ∧ isBridge uart b = true ∧ bridgeConn uart b = some c) := by
  refine ⟨?_, ?_, ?_, ?_, ?_, ?_, ?_, ?_, ?_, ?_, ?_⟩
  · exact ⟨S (W .service), _, rfl, by decide +kernel⟩
  · exact ⟨S (W .service), _, 1, true, true, rfl, by decide +kernel⟩
  · exact ⟨S ({ W .service with lnk.phyRst := true, lnk.linkUp := [true, true] }), _, 1, 1, 1, [], rfl, by decide +kernel⟩
  · exact ⟨S ({ W .service with lnk.macs := [⟨1, 1, 0⟩] }), _, 1, _, rfl, getD_eq (d := default) (by decide +kernel)⟩
  · exact ⟨S (W .service), _, 1, 1, 1, rfl, by decide +kernel⟩
  · exact ⟨S ({ W .service with lnk.conns := [⟨1, 1, 1, 1⟩] }), _, 1, ⟨1, 1, 1, 1⟩, rfl, by decide +kernel⟩
  · exact ⟨S ({ W .service with lnk.conns := [⟨1, 1, 1, 1⟩] }), _, 1, 1, 1, [], rfl, by decide +kernel⟩
  · exact ⟨S (updSer 0 (fun x => { x with cur := some ⟨1, 1, 1, [3]⟩ }) (W .service)), _, 1, 1, [3], true,
        ⟨1, 1, 1, [3]⟩, rfl, by decide +kernel⟩
  · exact ⟨S (updSer 0 (fun x => { x with cur := some ⟨1, 1, 1, [3]⟩ }) (W .service)), _, 1, ⟨1, 1, 1, [3]⟩, rfl,
        by decide +kernel⟩
  · exact ⟨S ({ cfg 0x0E 72 [1] (W .service) with lnk.conns := [⟨1, 1, 1, 2⟩] }), _, 1, [], rfl, by decide +kernel⟩
  · exact ⟨S ({ cfg 0x0E 72 [1] (W .service) with lnk.conns := [⟨1, 1, 1, 2⟩] }), _, 1, [], ⟨1, 1, 1, 2⟩, rfl,
        by decide +kernel⟩

/-- A state and operands that meet the hypotheses of every clause of `Obligations.CommandStart` that has some. -/
theorem witness_CommandStart :
    (∃ (s : State) (b : Block) (mb : Nat) (e : Entry),
      s.blk = b ∧ mayStart b = true ∧
      (b.box mb).entries.find? (fun e => e.phase == .resume && e.final.isNone) = none ∧
      nextReady (b.box mb).entries false = some e) := by
  · exact ⟨
        S (updBox 1 (fun x => { x with entries := [⟨1, 0x0100, 0, 0, 1, 0, [], .waiting, none, false⟩] }) (W .service)),
        _, 1, ⟨1, 0x0100, 0, 0, 1, 0, [], .waiting, none, false⟩, rfl, by decide +kernel⟩

end Sys2Proof.Tests
end

/-!
PROOF. The transport CRC of HSPI frames (04 R97, R98): the model's byte step as eight steps of the shift register, and what a
frame whose HCRC is wrong leaves unchanged.
-/

namespace Sys2Proof.Machine

/-! ### The shift register of the CRC (R97) -/

theorem crc16Bit_lt (c : Nat) : crc16Bit c < 65536 := by
  have hmod : c * 2 % 65536 < 2 ^ 16 := Nat.mod_lt _ (by decide)
  unfold crc16Bit
  split
  · exact Nat.xor_lt_two_pow hmod (by decide)
  · exact hmod

theorem foldl_crc16Byte_lt (l : List Byte) {c : Nat} (hc : c < 65536) : l.foldl crc16Byte c < 65536 := by
  induction l generalizing c with
  | nil => exact hc
  | cons x l ih => exact ih (crc16Bit_lt _)

theorem crc16_lt (l : List Byte) : crc16 l < 65536 := foldl_crc16Byte_lt l (by decide)

/-- One shift of a 16-bit register: the bit that is shifted out decides whether the polynomial is applied. -/
def crc16Shift (c : Nat) : Nat := if 32768 ≤ c then Nat.xor (c * 2 % 65536) 0x1021 else c * 2

/-- On 16 bits the model's bit step is the shift of the register. -/
theorem crc16Bit_eq_crc16Shift {c : Nat} (hc : c < 65536) : crc16Bit c = crc16Shift c := by
  unfold crc16Bit crc16Shift
  by_cases htop : 32768 ≤ c
  · have hbit : c / 32768 % 2 = 1 := by omega
    simp [htop, hbit]
  · have hbit : c / 32768 % 2 = 0 := by omega
    have hmod : c * 2 % 65536 = c * 2 := by omega
    simp [htop, hbit, hmod]

/-- As many bit steps as a list is long are as many shifts, since a bit step stays within 16 bits. -/
theorem foldl_crc16Bit_eq_foldl_crc16Shift (l : List Nat) {c : Nat} (hc : c < 65536) :
    l.foldl (fun c _ => crc16Bit c) c = l.foldl (fun c _ => crc16Shift c) c := by
  induction l generalizing c with
  | nil => rfl
  | cons _ l ih =>
    rw [List.foldl_cons, List.foldl_cons, ih (crc16Bit_lt c), crc16Bit_eq_crc16Shift hc]

theorem crc16Byte_eq_foldl_crc16Bit (c : Nat) (x : Byte) :
    crc16Byte c x = (List.range 8).foldl (fun c _ => crc16Bit c) (Nat.xor c (256 * x.toNat)) := by
  rw [Nat.mul_comm 256]
  rfl

/-- A further byte enters the register at its high end and is shifted through it, most significant bit first. -/
theorem crc16_append_singleton (l : List Byte) (x : Byte) :
    crc16 (l ++ [x]) = (List.range 8).foldl (fun c _ => crc16Shift c) (Nat.xor (crc16 l) (256 * x.toNat)) := by
  have hbyte : 256 * x.toNat < 2 ^ 16 := by have := x.isLt; omega
  have hreg : Nat.xor (crc16 l) (256 * x.toNat) < 2 ^ 16 := Nat.xor_lt_two_pow (crc16_lt l) hbyte
  calc crc16 (l ++ [x]) = crc16Byte (crc16 l) x := List.foldl_append
    _ = (List.range 8).foldl (fun c _ => crc16Bit c) (Nat.xor (crc16 l) (256 * x.toNat)) :=
      crc16Byte_eq_foldl_crc16Bit _ _
    _ = _ := foldl_crc16Bit_eq_foldl_crc16Shift _ hreg

/-! ### Frames with a wrong HCRC (R98) -/

theorem readFrame_of_wrong_hcrc {cmd addr hcrc : Nat} {s : Block} (n : Nat) (hs : served s)
    (h : crc16 (frameHead cmd addr) ≠ hcrc) :
    readFrame cmd addr n hcrc s = crcFrame (fun t => readTx t (List.replicate n 0)) s := by
  simp [readFrame, hs, h]

theorem writeFrame_of_wrong_hcrc {cmd addr hcrc : Nat} {ws : List Word} {s : Block} (hs : served s)
    (h : crc16 (frameHead cmd addr ++ wordBytes ws) ≠ hcrc) :
    writeFrame cmd addr ws hcrc s = crcFrame writeTx s := by
  simp [writeFrame, hs, h]

theorem exec_hspiReadFrame (cmd : Byte) (addr : BitVec 24) (hcrc : BitVec 16) (s : State) :
    exec (.hspiReadFrame cmd addr hcrc) s =
      became s (readFrame cmd.toNat addr.toNat (cmd.toNat % 16 + 1) hcrc.toNat s.blk) := rfl

theorem exec_hspiWriteFrame (cmd : Byte) (addr : BitVec 24) (ws : List Word) (hcrc : BitVec 16) (s : State) :
    exec (.hspiWriteFrame cmd addr ws hcrc) s = became s (writeFrame cmd.toNat addr.toNat ws hcrc.toNat s.blk) := rfl

/-- A frame with a wrong HCRC changes the HST block at most. -/
theorem became_crcFrame (tx : Nat → List Byte) (s : State) :
    ∃ hst, became s (crcFrame tx s.blk) = became s { s.blk with hst := hst } := ⟨_, rfl⟩

/-- Settles O13: the register stays below 2^16, so that each of its shifts is the model's bit step; a frame with a wrong
HCRC is counted in the HST block and does nothing else. -/
theorem transportCrc : Obligations.TransportCrc := by
  refine ⟨by decide +kernel, rfl, crc16_append_singleton, fun _ _ => rfl, ?_, ?_⟩
  · intro cmd addr hcrc s hs h
    rw [exec_hspiReadFrame, readFrame_of_wrong_hcrc _ hs h]
    exact became_crcFrame _ s
  · intro cmd addr ws hcrc s hs h
    rw [exec_hspiWriteFrame, writeFrame_of_wrong_hcrc hs h]
    exact became_crcFrame _ s

end Sys2Proof.Machine

/-!
PROOF. A write of `EVT_SETg` that names an event which no chapter defines (05 R141, R145).
-/

namespace Sys2Proof.Machine

/-- Reset released, in COMMISSION. MTIME and `mbx.chanAt` are both 0, so that the frame itself moves nothing but HST. -/
def commissioned : State :=
  { State.reset with
    blk := { Block.reset with sys.mode := .commission, pwr.heldBy := .no } }

/-- RAW of event `e` in a next state; an outcome without one has no RAW. -/
def rawAfter (e : Nat) : Host.Outcome State Fault Refusal → Bool
  | .next t => rawBit e t.blk
  | _ => false

theorem rawAfter_became (e : Nat) (s : State) (b : Block) : rawAfter e (became s b) = rawBit e b := rfl

theorem rawBit_hst (e : Nat) (b : Block) (hst : Hst) : rawBit e { b with hst := hst } = rawBit e b := rfl

/-- No chapter defines `EV018`: it never occurs, though its bit of `EVT_SET0` is written (R141). -/
theorem rawAfter_evtSetWrite_ev018 : rawAfter 18 (exec (.evtSetWrite 0 0x40000) commissioned) = false := by
  decide +kernel

/-- The occurrences that O10 names for a write of bit 18 of `EVT_SET0` latch RAW of `EV018`. -/
theorem rawBit_claimed_ev018 :
    rawBit 18 (((List.range 32).filter (bit (0x40000 : Word).toNat ·)).foldl
      (fun x i => raiseAs true (32 * 0 + i) 0xFFFFFFFF x) commissioned.blk) = true := by
  decide +kernel

/-- Refutes O10: `commissioned`, with bit 18 of `EVT_SET0` written. O10 raises an occurrence of every bit written, so of
`EV018` too, which no chapter defines; the model raises the defined events only, and RAW of `EV018` stays 0 (R141).
O10 also has every clause leave the block but for HST as it was, where the frame sets `mbx.chanAt` to MTIME (06 R180). -/
theorem not_eventSetRaisesTestOccurrences : ¬ Obligations.EventSetRaisesTestOccurrences := by
  unfold Obligations.EventSetRaisesTestOccurrences
  intro h
  obtain ⟨hcommission, -, -⟩ := h 0 0x40000 commissioned commissioned.blk rfl (by decide) (by decide)
  obtain ⟨hst, hexec⟩ := hcommission rfl
  have hraw : rawAfter 18 (exec (.evtSetWrite 0 0x40000) commissioned) = true := by
    rw [hexec, rawAfter_became, rawBit_hst]
    exact rawBit_claimed_ev018
  rw [rawAfter_evtSetWrite_ev018] at hraw
  exact Bool.false_ne_true hraw

end Sys2Proof.Machine

/-!
PROOF. A halt of a core through DBG and the heartbeat check of a halted core (14 R436).
-/

namespace Sys2Proof.Machine

/-- What a halt request asks for: a core that runs, the debug port open, one of the five modes (R436). -/
def mayHalt (core : Nat) (b : Block) : Bool :=
  core < 4 && b.cru.dbgState == 1 && b.inMode mHalt && larkspurRuns core b

theorem exec_dbgCoreHalt (core : Nat) (s : State) :
    exec (.dbgCoreHalt core) s = became s
      (if mayHalt core s.blk then updCru (fun c => { c with halted := setBit c.halted core }) s.blk else s.blk) := rfl

theorem exec_heartbeatTimeout (core : Nat) (s : State) :
    exec (.heartbeatTimeout core) s = became s
      (if larkspurRuns core s.blk && !heartbeatOff core s.blk then larkspurLost s.blk else s.blk) := rfl

theorem mayHalt_eq_false_of_inMode {core : Nat} {b : Block} (hmode : b.inMode mHalt = false) :
    mayHalt core b = false := by
  simp [mayHalt, hmode]

theorem mayHalt_iff {core : Nat} {b : Block} :
    mayHalt core b ↔ core < 4 ∧ b.cru.dbgState = 1 ∧ b.inMode mHalt ∧ larkspurRuns core b := by
  simp [mayHalt, and_assoc]

theorem heartbeatOff_iff {core : Nat} {b : Block} :
    heartbeatOff core b ↔ bit b.cru.halted core ∧ b.inMode mHalt := by
  simp [heartbeatOff, mHalt]

/-- Settles O12: the mode is one of the conditions of a halt, and in these modes a halted core has its heartbeat check off,
so that a missed heartbeat resets nothing. -/
theorem coreHaltsOnlyInItsModes : Obligations.CoreHaltsOnlyInItsModes := by
  rintro core s _ rfl
  refine ⟨fun hmode => ?_, fun hmode hcore hopen hruns => ?_, fun hmode hhalted => ?_⟩
  · rw [exec_dbgCoreHalt, mayHalt_eq_false_of_inMode hmode]
    rfl
  · rw [exec_dbgCoreHalt, if_pos (mayHalt_iff.mpr ⟨hcore, hopen, hmode, hruns⟩)]
  · have hoff : heartbeatOff core s.blk := heartbeatOff_iff.mpr ⟨hhalted, hmode⟩
    rw [exec_heartbeatTimeout, hoff, Bool.not_true, Bool.and_false]
    rfl

end Sys2Proof.Machine

/-!
PROOF. The tag memory through every step, the queue of commands and meter time: the invariant of a step, the order of the
queue, an empty queue.
-/

namespace Sys2Proof.Machine

/-! ### The invariant of the tag memory -/

/-- The writes of a command keep the invariant, whatever block it leaves: they are made and none is left over. -/
theorem tagSound_wrote {s : State} (b : Block) (h : TagSound s) : TagSound (wrote s b) := by
  obtain ⟨hwf, hin, -⟩ := h
  exact ⟨memWf_applyWrites _ _ hwf, memInside_applyWrites _ _ hin, rfl⟩

/-- A step answers the state with a block that its command leaves, the writes of that block made. -/
theorem step_eq_wrote (s : State) : ∃ (q : List Instr) (b : Block), step s = .next (wrote { s with pending := q } b) := by
  unfold step
  cases s.pending with
  | nil => exact ⟨s.pending, idleMs s.blk, rfl⟩
  | cons c r =>
    obtain ⟨b, hb⟩ := exec_wrote c { s with pending := r }
    exact ⟨r, b, hb⟩

/-- Settles O5: whatever a step does to the block, the tag memory changes by the writes that the block lists. -/
theorem stepKeepsTagMemory : Obligations.StepKeepsTagMemory := by
  intro s t hs hst
  obtain ⟨q, b, hb⟩ := step_eq_wrote s
  obtain rfl : wrote { s with pending := q } b = t := by simpa [hb] using hst
  exact tagSound_wrote b hs

/-- Settles O4: nothing is written in the tag memory at reset. -/
theorem resetKeepsTagMemory : Obligations.ResetKeepsTagMemory := ⟨rfl, rfl, rfl⟩

/-! ### The order of the queue -/

theorem step_cons (c : Instr) (r : List Instr) (s : State) :
    step { s with pending := c :: r } = exec c { s with pending := r } := rfl

/-- Settles O1. -/
theorem stepTakesTheFront : Obligations.StepTakesTheFront := step_cons

/-- Settles O3: a command is a function of the block and of the tag memory. -/
theorem everyCommandAnswers : Obligations.EveryCommandAnswers := by
  intro c s
  obtain ⟨b, hb⟩ := exec_wrote c s
  exact ⟨wrote s b, hb, rfl⟩

/-- Settles O15, by induction on the commands that wait: each leaves what waits behind it as it is, so it does the same with
the rest of the queue behind it. -/
theorem queueRunsInOrder : Obligations.QueueRunsInOrder := by
  intro l r
  induction l with
  | nil => intro s; rfl
  | cons c l ih =>
    intro s
    obtain ⟨b, hb⟩ := exec_queue c s
    calc runFor (c :: l).length { s with pending := c :: (l ++ r) }
        = runFor l.length { wrote s b with pending := l ++ r } := by
          simp only [List.length_cons, runFor, step_cons, hb]
      _ = execAll l { wrote s b with pending := r } := ih _
      _ = execAll (c :: l) { s with pending := r } := by simp only [execAll, hb]

/-! ### An empty queue -/

/-- With no write to the tag memory listed, `wrote` makes none and leaves the tag's blocks as good or bad as they were. -/
theorem tag_without_writes {t : Tag} (h : t.out = []) :
    { t with out := [], bad := t.bad.filter fun k => !t.out.any (covers k) } = t := by
  cases t
  cases h
  simp

theorem wrote_of_out_nil (s : State) {b : Block} (h : b.tag.out = []) : wrote s b = { s with blk := b } := by
  rw [wrote, tag_without_writes h, h]
  rfl

theorem tget_of_lt {α : Type} [Inhabited α] {l : List α} {i : Nat} (h : i < l.length) : tget l i = l[i] := by
  rw [tget, List.getD_eq_getElem?_getD, List.getElem?_eq_getElem h, Option.getD_some]

theorem tget_of_length_le {α : Type} [Inhabited α] {l : List α} {i : Nat} (h : l.length ≤ i) : tget l i = default := by
  rw [tget, List.getD_eq_getElem?_getD, List.getElem?_eq_none h, Option.getD_none]

theorem mem_heldGroups_of_tget {s : Block} {i : Nat} {g : Group} (h : tget s.pln.groups i = some g) : g ∈ heldGroups s := by
  simp only [heldGroups, List.mem_filterMap, id_eq]
  refine ⟨some g, ?_, rfl⟩
  rw [← h]
  rcases Nat.lt_or_ge i s.pln.groups.length with hi | hi
  · exact (tget_of_lt hi) ▸ List.getElem_mem hi
  · rw [tget_of_length_le hi] at h
    cases h

/-- No group of a class is due where none of that class is held. -/
theorem dueSlots_eq_nil {bclass : Nat} (inst : Nat) {s : Block} (h : ∀ g ∈ heldGroups s, g.bclass ≠ bclass) :
    dueSlots bclass inst s = [] := by
  refine List.eq_nil_iff_forall_not_mem.mpr fun x hx => ?_
  simp only [dueSlots, List.mem_mergeSort, List.mem_filterMap, Option.bind_eq_some_iff] at hx
  obtain ⟨i, -, g, hg, hx⟩ := hx
  simp [h g (mem_heldGroups_of_tget hg)] at hx

theorem boundary_of_no_group {bclass : Nat} (inst : Nat) {s : Block} (h : ∀ g ∈ heldGroups s, g.bclass ≠ bclass) :
    boundary bclass inst s = s := by
  simp [boundary, dueSlots_eq_nil inst h]

theorem tickMs_pln (s : Block) : (tickMs s).pln = s.pln := by unfold tickMs; split <;> rfl

theorem tickMs_tag (s : Block) : (tickMs s).tag = s.tag := by unfold tickMs; split <;> rfl

/-- A millisecond without a command, where no group of class IMM waits, is one of meter time and nothing else. -/
theorem idleMs_of_no_imm {s : Block} (h : ∀ g ∈ heldGroups s, g.bclass ≠ 0) : idleMs s = tickMs s := by
  have hheld : heldGroups (tickMs s) = heldGroups s := by rw [heldGroups, heldGroups, tickMs_pln]
  simp only [idleMs, boundary_of_no_group 0 (s := tickMs s) (hheld ▸ h), ite_self]

theorem step_idle {s : State} (hq : s.pending = []) (hs : TagSound s) (h : ∀ g ∈ heldGroups s.blk, g.bclass ≠ 0) :
    step s = .next { s with blk := tickMs s.blk } := by
  obtain ⟨-, -, hout⟩ := hs
  have hstep : step s = .next (wrote s (idleMs s.blk)) := by rw [step, hq]; rfl
  rw [hstep, idleMs_of_no_imm h, wrote_of_out_nil s (by rw [tickMs_tag, hout])]

/-- Settles O2. -/
theorem idleStepCountsMeterTime : Obligations.IdleStepCountsMeterTime := by
  intro s hq hs h
  rw [step_idle hq hs h, tickMs]
  split <;> rfl

/-- The state `n` milliseconds of meter time later, nothing else changed. -/
def later (n : Nat) (s : State) : State :=
  { s with blk := { s.blk with sys := { s.blk.sys with mtime := (s.blk.sys.mtime + n) % 18446744073709551616 } } }

/-- Milliseconds add up, whichever of the two counts was reduced modulo 2^64 on the way. -/
theorem later_later (m n : Nat) (s : State) : later n (later m s) = later (m + n) s := by
  simp only [later, Nat.mod_add_mod, Nat.add_assoc]

theorem runFor_idle (n : Nat) {s : State} (hq : s.pending = []) (hs : TagSound s)
    (h : ∀ g ∈ heldGroups s.blk, g.bclass ≠ 0) (hrun : s.blk.sys.mtimeRun = true) :
    runFor (n + 1) s = .next (later (n + 1) s) := by
  have hstep : step s = .next (later 1 s) := by rw [step_idle hq hs h, tickMs, if_pos hrun]; rfl
  induction n generalizing s with
  | zero => simp only [runFor, hstep]
  | succ n ih =>
    have hnext : step (later 1 s) = .next (later 1 (later 1 s)) := by
      rw [step_idle (s := later 1 s) hq hs h, tickMs, if_pos (show (later 1 s).blk.sys.mtimeRun = true from hrun)]; rfl
    rw [runFor, hstep]
    dsimp only
    rw [ih (s := later 1 s) hq hs h hrun hnext, later_later, Nat.add_comm 1]

/-- Settles O16, by induction on the steps: each counts one millisecond and leaves the queue and the groups as they are. -/
theorem idleRunCountsMeterTime : Obligations.IdleRunCountsMeterTime := fun n _ hq hs h hrun => runFor_idle n hq hs h hrun

end Sys2Proof.Machine

/-!
PROOF. Bytes of the tag memory read back after a write (15 R456), bits of a register word, occurrences and their queue
(05 R143, R146), the W1C write of `EVT_RAWg`.
-/

namespace Sys2Proof.Machine

/-! ### Reads of the tag memory after a write (15 R456) -/

theorem memRead_memWrites (d : List Byte) (a : Nat) (m : List Host.Cell) (x : Nat) (h : memWf m = true)
    (ha : a + d.length ≤ 32768) :
    memRead x (memWrites a d m) = if a ≤ x ∧ x < a + d.length then d.getD (x - a) 0 else memRead x m := by
  induction d generalizing a m with
  | nil =>
    rw [if_neg (by simp only [List.length_nil]; omega)]
    rfl
  | cons v d ih =>
    rw [List.length_cons] at ha ⊢
    rw [memWrites, if_pos (by omega), ih (a + 1) _ (memWf_memWrite a v m h) (by omega), memRead_memWrite a v m x h]
    rcases Nat.lt_trichotomy x a with hx | rfl | hx
    · rw [if_neg (by omega), if_neg (by omega), if_neg (by omega)]
    · rw [if_neg (by omega), if_pos rfl, if_pos (by omega), Nat.sub_self, List.getD_cons_zero]
    · obtain ⟨k, rfl⟩ : ∃ k, x = a + 1 + k := ⟨x - (a + 1), by omega⟩
      rw [if_neg (by omega : ¬ a + 1 + k = a), Nat.add_sub_cancel_left, show a + 1 + k - a = k + 1 by omega,
        List.getD_cons_succ]
      by_cases hk : k < d.length
      · rw [if_pos (by omega), if_pos (by omega)]
      · rw [if_neg (by omega), if_neg (by omega)]

/-- Settles O6, by induction on the bytes. -/
theorem tagMemoryReadsWhatWasWritten : Obligations.TagMemoryReadsWhatWasWritten :=
  fun m a d x h ha => memRead_memWrites d a m x h ha

/-! ### Bits -/

theorem bit_eq_testBit (n k : Nat) : bit n k = n.testBit k := by
  rw [Nat.testBit_eq_decide_div_mod_eq]
  rfl

/-- A sum without a carry is the union of the bits. -/
theorem testBit_add_of_disjoint (a b j : Nat) (h : ∀ i, (a.testBit i && b.testBit i) = false) :
    (a + b).testBit j = (a.testBit j || b.testBit j) := by
  have h0 : (decide (a % 2 = 1) && decide (b % 2 = 1)) = false := by simpa only [Nat.testBit_zero] using h 0
  simp only [Bool.and_eq_false_iff, decide_eq_false_iff_not] at h0
  induction j generalizing a b with
  | zero =>
    have hsum : (a + b) % 2 = 1 ↔ a % 2 = 1 ∨ b % 2 = 1 := by omega
    simp only [Nat.testBit_zero, hsum, Bool.decide_or]
  | succ j ih =>
    have hhalf : (a + b) / 2 = a / 2 + b / 2 := by omega
    have hrest : ∀ i, ((a / 2).testBit i && (b / 2).testBit i) = false := fun i => by
      simpa only [Nat.testBit_add_one] using h (i + 1)
    rw [Nat.testBit_add_one, Nat.testBit_add_one, Nat.testBit_add_one, hhalf]
    refine ih _ _ hrest ?_
    simpa only [Nat.testBit_zero, Bool.and_eq_false_iff, decide_eq_false_iff_not] using hrest 0

theorem bit_setBit (n k j : Nat) : bit (setBit n k) j = (bit n j || decide (k = j)) := by
  simp only [bit_eq_testBit, setBit]
  cases hk : n.testBit k with
  | true =>
    rw [if_pos rfl]
    by_cases hj : k = j
    · subst hj; simp [hk]
    · simp [hj]
  | false =>
    rw [if_neg Bool.false_ne_true, testBit_add_of_disjoint n (2 ^ k) j fun i => ?_, Nat.testBit_two_pow]
    by_cases hi : k = i
    · subst hi; simp [hk]
    · simp [hi]

theorem bit_setBit_self (n k : Nat) : bit (setBit n k) k = true := by simp [bit_setBit]

theorem bit_setBit_of_bit {n j : Nat} (k : Nat) (h : bit n j = true) : bit (setBit n k) j = true := by
  simp [bit_setBit, h]

/-- A number is what the mask leaves of it and what the mask takes from it. -/
theorem xor_land_add_land (n m : Nat) : (n ^^^ (n &&& m)) + (n &&& m) = n := by
  refine Nat.eq_of_testBit_eq fun i => ?_
  rw [testBit_add_of_disjoint]
  · simp only [Nat.testBit_xor, Nat.testBit_and]
    cases n.testBit i <;> cases m.testBit i <;> rfl
  · intro i
    simp only [Nat.testBit_xor, Nat.testBit_and]
    cases n.testBit i <;> cases m.testBit i <;> rfl

/-- A write of 1 to bits of a W1C register clears these and no other. -/
theorem bit_sub_land (n m k : Nat) : bit (n - Nat.land n m) k = (bit n k && !bit m k) := by
  have hsub : n - Nat.land n m = n ^^^ (n &&& m) := Nat.sub_eq_of_eq_add (xor_land_add_land n m).symm
  simp only [bit_eq_testBit, hsub, Nat.testBit_xor, Nat.testBit_and]
  cases n.testBit k <;> cases m.testBit k <;> rfl

/-! ### Occurrences (05 R143) -/

/-- An occurrence is a first latch, entry and log entry, followed by at most two more (R142): what each of these keeps and the
first establishes holds of the occurrence. -/
theorem raiseAs_of_raiseOnce {P : Block → Prop} {t : Bool} {e x : Nat} {s : Block}
    (hkeep : ∀ t e x b, P b → P (raiseOnce t e x b)) (hfirst : P (raiseOnce t e x s)) : P (raiseAs t e x s) := by
  unfold raiseAs
  dsimp only
  split
  · split
    · exact hkeep _ _ _ _ (hkeep _ _ _ _ hfirst)
    · exact hkeep _ _ _ _ hfirst
  · split
    · exact hkeep _ _ _ _ hfirst
    · exact hfirst

@[simp] theorem logOccurrence_evt (t : Bool) (e x : Nat) (s : Block) : (logOccurrence t e x s).evt = s.evt := by
  unfold logOccurrence
  split
  · rfl
  · split
    · rfl
    · split <;> rfl

theorem queueEvent_groups (t : Bool) (e x : Nat) (s : Block) : (queueEvent t e x s).evt.groups = s.evt.groups := by
  unfold queueEvent
  split
  · rfl
  · split <;> rfl

theorem raiseOnce_groups (t : Bool) (e x : Nat) (s : Block) :
    (raiseOnce t e x s).evt.groups = (latchEvent e s).evt.groups := by
  rw [raiseOnce, logOccurrence_evt, queueEvent_groups]

theorem raiseOnce_groups_length (t : Bool) (e x : Nat) (s : Block) :
    (raiseOnce t e x s).evt.groups.length = s.evt.groups.length := by
  rw [raiseOnce_groups]
  exact tupd_length _ _ _

/-- A latch leaves every other group, and its own group but for the bit of its event. -/
theorem tget_latchEvent_groups (e g : Nat) (s : Block) :
    tget (latchEvent e s).evt.groups g = tget s.evt.groups g ∨ g = e / 32 ∧ tget (latchEvent e s).evt.groups g =
      { tget s.evt.groups g with
        raw := setBit (tget s.evt.groups g).raw (e % 32)
        ovf := if bit (tget s.evt.groups g).raw (e % 32) then setBit (tget s.evt.groups g).ovf (e % 32)
               else (tget s.evt.groups g).ovf } := by
  by_cases hg : g = e / 32
  · by_cases hl : e / 32 < s.evt.groups.length
    · subst hg
      exact .inr ⟨rfl, tget_tupd_same _ _ _ hl⟩
    · left
      have hlen : (latchEvent e s).evt.groups.length = s.evt.groups.length := tupd_length _ _ _
      rw [tget_of_length_le (by omega), tget_of_length_le (by omega)]
  · exact .inl (tget_tupd_ne _ _ _ _ hg)

theorem rawBit_raiseOnce {k : Nat} {s : Block} (t : Bool) (e x : Nat) (h : rawBit k s = true) :
    rawBit k (raiseOnce t e x s) = true := by
  rw [rawBit] at h ⊢
  rw [raiseOnce_groups]
  rcases tget_latchEvent_groups e (k / 32) s with hg | ⟨-, hg⟩
  · rw [hg, h]
  · rw [hg]
    exact bit_setBit_of_bit _ h

theorem ovfBit_raiseOnce {k : Nat} {s : Block} (t : Bool) (e x : Nat) (h : ovfBit k s = true) :
    ovfBit k (raiseOnce t e x s) = true := by
  rw [ovfBit] at h ⊢
  rw [raiseOnce_groups]
  rcases tget_latchEvent_groups e (k / 32) s with hg | ⟨-, hg⟩
  · rw [hg, h]
  · rw [hg]
    dsimp only
    split
    · exact bit_setBit_of_bit _ h
    · exact h

theorem tget_latchEvent_own {e : Nat} {s : Block} (h : e / 32 < s.evt.groups.length) :
    tget (latchEvent e s).evt.groups (e / 32) =
      { tget s.evt.groups (e / 32) with
        raw := setBit (tget s.evt.groups (e / 32)).raw (e % 32)
        ovf := if bit (tget s.evt.groups (e / 32)).raw (e % 32) then setBit (tget s.evt.groups (e / 32)).ovf (e % 32)
               else (tget s.evt.groups (e / 32)).ovf } := tget_tupd_same _ _ _ h

theorem rawBit_raiseOnce_self {e : Nat} {s : Block} (t : Bool) (x : Nat) (h : e / 32 < s.evt.groups.length) :
    rawBit e (raiseOnce t e x s) = true := by
  rw [rawBit, raiseOnce_groups, tget_latchEvent_own h]
  exact bit_setBit_self _ _

theorem ovfBit_raiseOnce_self {e : Nat} {s : Block} (t : Bool) (x : Nat) (h : e / 32 < s.evt.groups.length)
    (hraw : rawBit e s = true) : ovfBit e (raiseOnce t e x s) = true := by
  rw [ovfBit, raiseOnce_groups, tget_latchEvent_own h]
  rw [rawBit] at hraw
  rw [if_pos hraw]
  exact bit_setBit_self _ _

/-- Settles O8: the first latch sets the bits, and neither it nor a further one clears any. -/
theorem occurrenceLatches : Obligations.OccurrenceLatches := by
  intro e x s he
  simp only [raise]
  refine ⟨?_, fun hraw => ?_, fun k hk => ?_, ?_⟩
  · exact raiseAs_of_raiseOnce (P := fun b => rawBit e b = true) (fun t e x _ h => rawBit_raiseOnce t e x h)
      (rawBit_raiseOnce_self _ _ he)
  · exact raiseAs_of_raiseOnce (P := fun b => ovfBit e b = true) (fun t e x _ h => ovfBit_raiseOnce t e x h)
      (ovfBit_raiseOnce_self _ _ he hraw)
  · exact raiseAs_of_raiseOnce (P := fun b => rawBit k b = true) (fun t e x _ h => rawBit_raiseOnce t e x h)
      (rawBit_raiseOnce _ _ _ hk)
  · exact raiseAs_of_raiseOnce (P := fun b => b.evt.groups.length = s.evt.groups.length)
      (fun t e x _ h => (raiseOnce_groups_length t e x _).trans h) (raiseOnce_groups_length _ _ _ _)

/-! ### The event queue (05 R146) -/

/-- The queue `q` with entries appended, and room for no more than 512. -/
def Extends (q : List QEntry) (s : Block) : Prop := (∃ l, s.evt.queue = q ++ l) ∧ s.evt.queue.length ≤ 512

theorem extends_raiseOnce {q : List QEntry} {s : Block} (t : Bool) (e x : Nat) (h : Extends q s) :
    Extends q (raiseOnce t e x s) := by
  obtain ⟨⟨l, hl⟩, hlen⟩ := h
  rw [Extends, raiseOnce, logOccurrence_evt]
  have hq : (latchEvent e s).evt.queue = s.evt.queue := rfl
  unfold queueEvent
  split
  · exact ⟨⟨l, hl⟩, hlen⟩
  · split
    · next hroom =>
      rw [hq] at hroom ⊢
      refine ⟨⟨l ++ _, by rw [hl, List.append_assoc]⟩, ?_⟩
      rw [List.length_append, List.length_singleton]
      exact hroom
    · exact ⟨⟨l, hl⟩, hlen⟩

/-- Settles O9: each entry is appended, and only where fewer than 512 are held. -/
theorem eventQueueKeepsItsEntries : Obligations.EventQueueKeepsItsEntries := by
  intro e x s hs
  have hstart : Extends s.evt.queue s := ⟨⟨[], by rw [List.append_nil]⟩, hs⟩
  exact raiseAs_of_raiseOnce (P := Extends s.evt.queue) (fun t e x _ h => extends_raiseOnce t e x h)
    (extends_raiseOnce _ _ _ hstart)

/-! ### A write of `EVT_RAWg` (05 R143, 04 R102) -/

/-- What a frame of one word with its HCRC right does while the window is served (R98, R100). -/
theorem hostWrite_of_served {s : Block} (addr : Nat) (v : Word) (hs : served s = true) :
    hostWrite addr v s =
      let x := writeMany 0 (frameBad 0 addr) addr [v] (goodFrame s)
      updHst (fun h => { h with lastTx := writeTx (tsb x.berr false x.np s.hst.prevAbort x.s) }) x.s := by
  simp [hostWrite, writeFrame, hs]

/-- One word written outside the mailbox ports, in a mode that performs it (R102). -/
theorem writeMany_of_performed {path addr : Nat} {v : Word} {s t : Block} (haddr : addr < 0x1000000)
    (hport : portOf addr = none) (hwin : winWrite addr v.toNat s = .ok t) :
    (writeMany path false addr [v] s).s = t := by
  have hword : writeWord path false ⟨s, [], false, false, []⟩ (addr, v.toNat) = ⟨t, [], false, false, []⟩ := by
    simp [writeWord, hport, hwin, Nat.not_le.mpr haddr]
  have hone : wordAddrs addr [v].length = [addr] := rfl
  rw [writeMany, hone]
  cases hwarn : warnWord s (addr, v.toNat) <;> simp [hwarn, hword]

theorem winWrite_evtRaw {g : Nat} (v : Nat) {s : Block} (hg : g < 8) (hmode : s.inMode mRun = true) :
    winWrite (0x030000 + 0x100 * g) v s = .ok (rawClear g v s) := by
  have hlive : s.sys.mode ≠ .zeroised := by
    intro h
    simp [Block.inMode, h, mRun] at hmode
  have hreg : regWrite (0x030000 + 0x100 * g) v s = .ok (rawClear g v s) := by
    have hblock : ¬ (0x030000 + 0x100 * g < 0x030000) := by omega
    have h1 : ¬ (0x030000 + 0x100 * g < 0x010000) := by omega
    have h2 : ¬ (0x030000 + 0x100 * g < 0x020000) := by omega
    have h3 : 0x030000 + 0x100 * g < 0x040000 := by omega
    rw [regWrite, if_neg h1, if_neg h2, if_neg hblock, if_pos h3, Nat.add_sub_cancel_left, wrEvt, if_pos (by omega),
      Nat.mul_mod_right, Nat.mul_div_cancel_left _ (by decide)]
    rfl
  simp [winWrite, hlive, hmode, hreg]

/-- What `EVT_RAW_CLEAR` leaves of the events where its write is performed. -/
theorem exec_evtRawClear {g : Nat} {v : Word} {s : State} (hs : served s.blk = true) (hg : g < 8)
    (hmode : s.blk.inMode mRun = true) :
    ∃ t, exec (.evtRawClear g v) s = .next t ∧ t.blk.evt = (rawClear g v.toNat s.blk).evt := by
  have hbad : frameBad 0 (0x030000 + 0x100 * g) = false := by
    simp [frameBad, bits]
    omega
  have hport : portOf (0x030000 + 0x100 * g) = none := by
    rw [portOf, if_neg]
    simp
    omega
  have hdone : (writeMany 0 false (0x030000 + 0x100 * g) [v] (goodFrame s.blk)).s = rawClear g v.toNat (goodFrame s.blk) :=
    writeMany_of_performed (by omega) hport (winWrite_evtRaw _ hg hmode)
  have hexec : exec (.evtRawClear g v) s = became s (hostWrite (0x030000 + 0x100 * g) v s.blk) := rfl
  rw [hexec, hostWrite_of_served _ _ hs]
  refine ⟨_, rfl, ?_⟩
  simp only [wrote_evt, updHst_evt, hbad, hdone]
  rfl

/-- The W1C write changes RAW of its group, and nothing else of the events. -/
theorem tget_rawClear_groups (g v k : Nat) (s : Block) :
    tget (rawClear g v s).evt.groups k =
      { tget s.evt.groups k with
        raw := if k = g then (tget s.evt.groups k).raw - Nat.land (tget s.evt.groups k).raw v
               else (tget s.evt.groups k).raw } := by
  have hgroups : (rawClear g v s).evt.groups = tupd s.evt.groups g fun x => { x with raw := x.raw - Nat.land x.raw v } := rfl
  rw [hgroups]
  by_cases hk : k = g
  · subst hk
    rw [if_pos rfl]
    by_cases hlen : k < s.evt.groups.length
    · rw [tget_tupd_same _ _ _ hlen]
    · rw [tget_of_length_le (by rw [tupd_length]; omega), tget_of_length_le (by omega)]
      simp [show (default : EvtGroup) = ⟨0, 0, 0, 0, 0, 0⟩ from rfl]
  · rw [if_neg hk, tget_tupd_ne _ _ _ _ hk]

/-- Settles O11. -/
theorem eventRawClearsWhatIsWritten : Obligations.EventRawClearsWhatIsWritten := by
  intro g v s hs hg hmode
  obtain ⟨t, ht, hevt⟩ := exec_evtRawClear (v := v) hs hg hmode
  refine ⟨t, ht, by rw [hevt]; rfl, fun e => ?_⟩
  rw [rawBit, rawBit, ovfBit, ovfBit, hevt, tget_rawClear_groups]
  refine ⟨?_, rfl⟩
  dsimp only
  by_cases he : e / 32 = g
  · rw [if_pos he, bit_sub_land]
    simp [he]
  · simp [he]

end Sys2Proof.Machine

/-!
PROOF. What a final response leaves unchanged where commands hold locks (05 R132, 06 R178, R179), `CMD_CLS_TAG_WRITE`
(15 R461), checks 5 to 8 of Table 5-4 (05 R128), the chain of waits for locks (06 R178).
-/

namespace Sys2Proof.Machine

/-! ### A final response releases locks -/

/-- Two blocks that differ at most in the mailboxes, the events, the log and the plans, locks and groups. -/
def SameButLocks (s t : Block) : Prop := ∃ m e d q, t = { s with mbx := m, evt := e, dbg := d, pln := q }

theorem SameButLocks.refl (s : Block) : SameButLocks s s := ⟨s.mbx, s.evt, s.dbg, s.pln, rfl⟩

theorem SameButLocks.trans {s t u : Block} (h : SameButLocks s t) (k : SameButLocks t u) : SameButLocks s u := by
  obtain ⟨m, e, d, q, rfl⟩ := h
  obtain ⟨m2, e2, d2, q2, rfl⟩ := k
  exact ⟨m2, e2, d2, q2, rfl⟩

theorem SameButBoxes.locks {s t : Block} (h : SameButBoxes s t) : SameButLocks s t := by
  obtain ⟨m, e, d, rfl, -, -⟩ := h
  exact ⟨m, e, d, s.pln, rfl⟩

theorem updLock_sameButLocks (n : Nat) (f : Lock → Lock) (s : Block) : SameButLocks s (updLock n f s) :=
  ⟨s.mbx, s.evt, s.dbg, _, rfl⟩

theorem setPhase_same (r : CmdRef) (ph : Phase) (s : Block) : SameButBoxes s (setPhase r ph s) := updBox_same _ _ _

theorem waiterGranted_sameButLocks (n : Nat) (w : Waiter) (s : Block) : SameButLocks s (waiterGranted n w s) := by
  unfold waiterGranted
  split
  · exact .refl s
  · split
    · exact SameButLocks.trans ⟨s.mbx, s.evt, s.dbg, _, rfl⟩ (setPhase_same _ _ _).locks
    · exact (respondFinal_same _ _ _ _).locks

/-- A lock that passes to its next waiter (R178, R181). -/
theorem lockGive_sameButLocks (n : Nat) (broken : Bool) (l : List Waiter) (s : Block) :
    SameButLocks s (lockGive n broken l s) := by
  induction l generalizing broken s with
  | nil => exact updLock_sameButLocks _ _ s
  | cons w l ih =>
    unfold lockGive
    split
    · refine SameButLocks.trans ?_ (ih _ _)
      split
      · exact .refl s
      · exact (respondFinal_same _ _ _ _).locks
    · exact (updLock_sameButLocks _ _ s).trans (waiterGranted_sameButLocks _ _ _)

theorem foldl_lockFree_sameButLocks (l : List (CmdRef × Nat)) (s : Block) :
    SameButLocks s (l.foldl (fun s t => lockFree t.2 s) s) := by
  induction l generalizing s with
  | nil => exact .refl s
  | cons t l ih => exact (lockGive_sameButLocks _ _ _ _).trans (ih _)

/-- The final response of a command changes the mailboxes, the events, the log and the locks only (R132, R179). -/
theorem complete_sameButLocks (r : CmdRef) (st : Nat) (d : List Byte) (s : Block) :
    SameButLocks s (complete r st d s) := by
  have hrelease : SameButLocks s (releaseTaken r s) :=
    SameButLocks.trans ⟨s.mbx, s.evt, s.dbg, _, rfl⟩ (foldl_lockFree_sameButLocks _ _)
  have hsweep : ∀ t : Block, SameButLocks t (sweepTaken t) := fun t =>
    SameButLocks.trans ⟨t.mbx, t.evt, t.dbg, _, rfl⟩ (foldl_lockFree_sameButLocks _ _)
  exact (hrelease.trans (respondFinal_same _ _ _ _).locks).trans (hsweep _)

theorem complete_tag (r : CmdRef) (st : Nat) (d : List Byte) (s : Block) : (complete r st d s).tag = s.tag := by
  obtain ⟨m, e, g, q, h⟩ := complete_sameButLocks r st d s
  rw [h]

/-! ### Commands by their answers -/

/-- What acceptance leaves unchanged, field by field where a command's body reads it. -/
theorem begun_tag {op : Nat} {role : Role} {modes : List Mode} {h : Req} {p : List Byte} {s : Block}
    (H : starts op role modes h p s = true) : (begun op h p s).tag = s.tag := by
  obtain ⟨m, e, d, heq, -⟩ := begun_eq H
  rw [heq]

/-- A command that takes no locks and checks nothing before them, by what its body answers. -/
theorem runCmd_done (c : CmdSpec) {h : Req} {p : List Byte} {s b : Block} {st : Nat} {d : List Byte}
    (H : starts c.op c.role c.modes h p s = true) (hl : c.len p = true)
    (hp : c.pre (refOf h s) p (begun c.op h p s) = none) (hk : c.lock p (begun c.op h p s) = [])
    (hmode : c.modeOf p (begun c.op h p s) = true)
    (hbody : c.body (refOf h s) p (begun c.op h p s) = .done b st d) :
    runCmd c h p s = complete (refOf h s) st d b := by
  rw [runCmd_answer c h p s H hl hp hk hmode, hbody]
  rfl

/-! ### `CMD_CLS_TAG_WRITE` (15 R461) -/

/-- The block after a `CMD_CLS_TAG_WRITE` that completes: its write is listed and recorded. -/
def tagWritten (p : List Byte) (b : Block) : Block :=
  wiredDone (u8At p 0) 0 (updTag (fun t => { t with
    out := t.out ++ [(128 * u8At p 0, p.drop 4)], wrWired := (t.wrWired + 1) % 65536
    wrec := ⟨2, (t.wrec.seq + 1) % 4294967296, u8At p 0, u8At p 1, 0, crc32 (p.drop 4)⟩ })
    (if b.tag.port then engOp 8 b else b))

theorem tagWritten_out (p : List Byte) (b : Block) :
    (tagWritten p b).tag.out = b.tag.out ++ [(128 * u8At p 0, p.drop 4)] := by
  unfold tagWritten
  cases b.tag.port <;> rfl

theorem specClsTagWrite_body {r : CmdRef} {p : List Byte} {b : Block} (hlow : 128 ≤ u8At p 0) (hone : 1 ≤ u8At p 1)
    (hthree : u8At p 1 ≤ 3) (hhigh : u8At p 0 + u8At p 1 ≤ 256) (hwired : wiredOk b = true)
    (hfree : (upto (u8At p 0) (u8At p 0 + u8At p 1 - 1)).filter (fun j => bit b.tag.locks (j - 128)) = []) :
    specClsTagWrite.body r p b = .done (tagWritten p b) stOk [] := by
  have hrange : (decide (128 ≤ u8At p 0) && decide (1 ≤ u8At p 1) && decide (u8At p 1 ≤ 3) &&
      decide (u8At p 0 + u8At p 1 ≤ 256)) = true := by simp [hlow, hone, hthree, hhigh]
  simp only [specClsTagWrite, hrange, hwired, hfree, Bool.not_true, Bool.false_eq_true, if_false]
  rfl

/-- Settles O7: the tag memory changes by the one write that the command lists. -/
theorem tagWriteStoresItsBlocks : Obligations.TagWriteStoresItsBlocks := by
  intro h p s b hs H hfour hlen hlow hone hthree hhigh hwired hfree
  obtain ⟨hwf, -, hout⟩ := hs
  have hl : specClsTagWrite.len p = true := by simpa [specClsTagWrite, hfour] using hlen
  have hbody := specClsTagWrite_body (r := refOf h s.blk) hlow hone hthree hhigh hwired hfree
  have hexec : exec (.cmdClsTagWrite h p) s = became s (complete (refOf h s.blk) stOk [] (tagWritten p b)) :=
    congrArg (became s) (runCmd_done specClsTagWrite H hl rfl rfl rfl hbody)
  have hlisted : (complete (refOf h s.blk) stOk [] (tagWritten p b)).tag.out = [(128 * u8At p 0, p.drop 4)] := by
    rw [complete_tag, tagWritten_out, begun_tag H, hout, List.nil_append]
  have hmem : (wrote s (complete (refOf h s.blk) stOk [] (tagWritten p b))).tagMem =
      memWrites (128 * u8At p 0) (p.drop 4) s.tagMem := by
    rw [wrote, hlisted]
    rfl
  have hdata : (p.drop 4).length = 128 * u8At p 1 := by rw [List.length_drop]; omega
  refine ⟨_, hexec, fun x => ?_⟩
  rw [hmem, memRead_memWrites _ _ _ _ hwf (by omega), hdata, Nat.mul_add]

/-! ### Checks 5 to 8 of Table 5-4 (05 R128) -/

theorem runCmd_of_checkFails {c : CmdSpec} {h : Req} {p : List Byte} {s : Block} {st : Nat} (hacc : accepted h p s = true)
    (hfails : checkFails c h.mb.toNat p (begun c.op h p s) = some st) :
    runCmd c h p s = complete (refOf h s) st [] (begun c.op h p s) := by
  rw [runCmd_accepted c h p s hacc, runStarted, show (refOf h s).mb = h.mb.toNat from rfl, hfails]

theorem begun_inMode {op : Nat} {h : Req} {p : List Byte} {s : Block} (hacc : accepted h p s = true) (l : List Mode) :
    (begun op h p s).inMode l = s.inMode l := by
  obtain ⟨m, e, d, heq, -⟩ := begun_accepted op hacc
  rw [heq]
  rfl

theorem begun_grantValid {op : Nat} {h : Req} {p : List Byte} {s : Block} (hacc : accepted h p s = true) :
    grantValid (begun op h p s) = grantValid s := by
  obtain ⟨m, e, d, heq, -⟩ := begun_accepted op hacc
  rw [heq]
  rfl

/-- Settles O14: the checks read nothing that acceptance changes, and come before anything else of the command. -/
theorem failedChecksTakeNoEffect : Obligations.FailedChecksTakeNoEffect := by
  intro c h p s hacc
  refine ⟨fun hrole => ?_, fun hrole hmode => ?_, fun hrole hmode hdom hexp hgrant => ?_,
    fun hrole hmode hdom hexp hlen => ?_⟩ <;> refine runCmd_of_checkFails hacc ?_
  · simp [checkFails, hrole]
  · simp [checkFails, hrole, begun_inMode hacc, hmode]
  · simp [checkFails, hrole, begun_inMode hacc, hmode, hdom, hexp, begun_grantValid hacc, hgrant]
  · have hpass : (isExpert c.op && !grantValid s) = false := by
      cases hx : isExpert c.op with
      | false => rfl
      | true => simp [hexp hx]
    simp [checkFails, hrole, begun_inMode hacc, hmode, hdom, begun_grantValid hacc, hpass, hlen]

/-! ### The chain of waits for locks (06 R178) -/

theorem tget_updLock (n k : Nat) (f : Lock → Lock) (s : Block) :
    tget (updLock n f s).pln.locks k = tget s.pln.locks k ∨
      k = n ∧ n < s.pln.locks.length ∧ tget (updLock n f s).pln.locks k = f (tget s.pln.locks k) := by
  have hlocks : (updLock n f s).pln.locks = tupd s.pln.locks n f := rfl
  rw [hlocks]
  by_cases hk : k = n
  · subst hk
    by_cases hlen : k < s.pln.locks.length
    · exact .inr ⟨rfl, hlen, tget_tupd_same _ _ _ hlen⟩
    · left
      rw [tget_of_length_le (by rw [tupd_length]; omega), tget_of_length_le (by omega)]
  · exact .inl (tget_tupd_ne _ _ _ _ hk)

/-- An update of a lock that keeps its owner keeps who holds which lock. -/
theorem owner_updLock {n : Nat} {f : Lock → Lock} (hf : ∀ l, (f l).owner = l.owner) (k : Nat) (s : Block) :
    (tget (updLock n f s).pln.locks k).owner = (tget s.pln.locks k).owner := by
  rcases tget_updLock n k f s with h | ⟨-, -, h⟩
  · rw [h]
  · rw [h, hf]

theorem mem_any_waiters {s : Block} {m : Nat} {w : Waiter} (hw : w ∈ (tget s.pln.locks m).waiters) :
    ∃ l ∈ s.pln.locks, w ∈ l.waiters := by
  by_cases hlen : m < s.pln.locks.length
  · refine ⟨_, ?_, hw⟩
    rw [tget_of_lt hlen]
    exact List.getElem_mem hlen
  · rw [tget_of_length_le (by omega)] at hw
    cases hw

/-- What R178 and R181 ask of an acquisition that is not refused at once: the owner holds no lock numbered as high or higher
and waits for none. -/
theorem lockAsk_cases (owner n : Nat) (s : Block) :
    (∃ st, lockAsk owner n s = .fail st s) ∨
    ((∀ k, n ≤ k → k ≤ 31 → holdsLock owner k s = false) ∧ (∀ l ∈ s.pln.locks, ∀ w ∈ l.waiters, w.owner ≠ owner) ∧
      (lockAsk owner n s = .wait ∨
       lockAsk owner n s = .granted (updLock n (fun l => { l with owner }) s) ∨
       lockAsk owner n s = .fail stLockBroken (updLock n (fun l => { l with broken := false }) s))) := by
  unfold lockAsk
  dsimp only
  split
  · exact .inl ⟨_, rfl⟩
  split
  · exact .inl ⟨_, rfl⟩
  split
  · exact .inl ⟨_, rfl⟩
  next habove hown hwaits =>
  refine .inr ⟨fun k hk hk31 => ?_, fun l hl w hw => ?_, ?_⟩
  · rcases Nat.eq_or_lt_of_le hk with rfl | hlt
    · simpa [holdsLock] using hown
    · simp only [List.any_eq_true, not_exists, not_and, Bool.not_eq_true] at habove
      refine habove k ?_
      simp only [upto, List.mem_map, List.mem_range]
      exact ⟨k - (n + 1), by omega, by omega⟩
  · simp only [List.any_eq_true, beq_iff_eq, not_exists, not_and] at hwaits
    exact hwaits l hl w hw
  · split
    · exact .inr (.inr rfl)
    · split
      · exact .inr (.inl rfl)
      · exact .inl rfl

/-- An update of one lock that keeps its owner and adds no waiter but `w` keeps the chain of waits rising, where the owner of `w`
holds no lock numbered as high or higher. -/
theorem waitsRise_updLock {n : Nat} {f : Lock → Lock} {s : Block} (hs : WaitsRise s) (howner : ∀ l, (f l).owner = l.owner)
    (hnew : ∀ w, w ∈ (f (tget s.pln.locks n)).waiters → w ∉ (tget s.pln.locks n).waiters →
      ∀ k, n ≤ k → k ≤ 31 → holdsLock w.owner k s = false) : WaitsRise (updLock n f s) := by
  intro m w hw k hk hk31
  rw [holdsLock, owner_updLock howner]
  rcases tget_updLock n m f s with h | ⟨rfl, -, h⟩
  · exact hs m w (h ▸ hw) k hk hk31
  · rw [h] at hw
    by_cases hold : w ∈ (tget s.pln.locks m).waiters
    · exact hs m w hold k hk hk31
    · exact hnew w hw hold k hk hk31

theorem waitsRise_granted {owner n : Nat} {s : Block} (hs : WaitsRise s)
    (hwaits : ∀ l ∈ s.pln.locks, ∀ w ∈ l.waiters, w.owner ≠ owner) :
    WaitsRise (updLock n (fun l => { l with owner }) s) := by
  intro m w hw k hk hk31
  have hw' : w ∈ (tget s.pln.locks m).waiters := by
    rcases tget_updLock n m (fun l => { l with owner }) s with h | ⟨-, -, h⟩
    · exact h ▸ hw
    · rw [h] at hw
      exact hw
  rw [holdsLock]
  rcases tget_updLock n k (fun l => { l with owner }) s with h | ⟨-, -, h⟩
  · rw [h]
    exact hs m w hw' k hk hk31
  · rw [h]
    obtain ⟨l, hl, hwl⟩ := mem_any_waiters hw'
    exact beq_eq_false_iff_ne.mpr (hwaits l hl w hwl).symm

/-- Settles O17: an owner is made to wait only where it holds no lock numbered as high or higher, a lock is granted only to an
owner that waits for none, and a BROKEN lock loses its mark and nothing else. -/
theorem lockWaitsRise : Obligations.LockWaitsRise := by
  intro owner n w s hs hn
  have hbroken : WaitsRise (updLock n (fun l => { l with broken := false }) s) :=
    waitsRise_updLock hs (fun _ => rfl) fun w hw hnew => absurd hw hnew
  refine ⟨fun hwait hown => ?_, fun t hgrant => ?_, fun st t hfail => ?_⟩
  · rcases lockAsk_cases owner n s with ⟨st, h⟩ | ⟨habove, -, -⟩
    · rw [h] at hwait
      cases hwait
    · refine waitsRise_updLock hs (fun _ => rfl) fun w' hw' hnew => ?_
      obtain rfl : w' = w := by simpa [hnew] using hw'
      exact hown ▸ habove
  · rcases lockAsk_cases owner n s with ⟨st, h⟩ | ⟨-, hwaits, h | h | h⟩ <;> rw [h] at hgrant <;> cases hgrant
    refine ⟨waitsRise_granted hs hwaits, fun hlen => ?_⟩
    have hlock : tget (updLock n (fun l => { l with owner }) s).pln.locks n = { tget s.pln.locks n with owner } :=
      tget_tupd_same _ _ _ hlen
    rw [holdsLock, hlock, beq_self_eq_true]
  · rcases lockAsk_cases owner n s with ⟨st', h⟩ | ⟨-, -, h | h | h⟩ <;> rw [h] at hfail <;> cases hfail
    · exact ⟨hs, fun _ => rfl⟩
    · exact ⟨hbroken, fun k => owner_updLock (f := fun l => { l with broken := false }) (fun _ => rfl) k s⟩

end Sys2Proof.Machine

/-!
PROOF. The commands that only read (05 R132), a read frame that the host sends (04 R100), the values at reset, and the
interleaver of the mains link (16 R466, R471).
-/

namespace Sys2Proof.Machine

/-! ### The commands that only read -/

/-- A body's answer that carries the state unchanged. -/
def Reads (s : Block) (a : CmdRes) : Prop := ∃ st d, a = .done s st d

theorem reads_ok (d : List Byte) (s : Block) : Reads s (ok d s) := ⟨stOk, d, rfl⟩

theorem reads_refuse (st : Nat) (s : Block) : Reads s (refuse st s) := ⟨st, [], rfl⟩

theorem reads_ite {c : Prop} [Decidable c] {s : Block} {a b : CmdRes} (ha : Reads s a) (hb : Reads s b) :
    Reads s (if c then a else b) := by
  split
  · exact ha
  · exact hb

/-- A command that refuses by its parameters and else reads. -/
theorem reads_refuse_or_ok {c : Prop} [Decidable c] {st : Nat} {s : Block} {d : List Byte} :
    Reads s (if c then refuse st s else ok d s) := reads_ite (reads_refuse st s) (reads_ok d s)

theorem reads_ok_or_refuse {c : Prop} [Decidable c] {st : Nat} {s : Block} {d : List Byte} :
    Reads s (if c then ok d s else refuse st s) := reads_ite (reads_ok d s) (reads_refuse st s)

theorem specSecCertRead_reads (r : CmdRef) (p : List Byte) (s : Block) : Reads s (specSecCertRead.body r p s) := by
  simp only [specSecCertRead]
  split
  · exact reads_refuse _ s
  · exact reads_refuse_or_ok

theorem specDiagDumpInfo_reads (r : CmdRef) (p : List Byte) (s : Block) : Reads s (specDiagDumpInfo.body r p s) := by
  simp only [specDiagDumpInfo]
  split
  · exact reads_ok _ s
  · exact reads_refuse _ s

theorem specDiagDumpRead_reads (r : CmdRef) (p : List Byte) (s : Block) : Reads s (specDiagDumpRead.body r p s) := by
  simp only [specDiagDumpRead]
  split
  · exact reads_refuse _ s
  · exact reads_refuse_or_ok

theorem specDiagDumpFull_reads (r : CmdRef) (p : List Byte) (s : Block) : Reads s (specDiagDumpFull.body r p s) := by
  simp only [specDiagDumpFull]
  split
  · exact reads_refuse _ s
  · exact reads_refuse_or_ok

/-- A command that takes no locks, checks nothing before them, and only reads. -/
structure ReadsOnly (c : CmdSpec) : Prop where
  pre : ∀ r p s, c.pre r p s = none
  lock : ∀ p s, c.lock p s = []
  body : ∀ r p s, Reads s (c.body r p s)

/-- Each of the 39 commands reads; a command that checks its parameters refuses or reads. -/
theorem readsOnly_of_isRead {h : Req} {p : List Byte} {i : Instr} (hi : IsRead h p i) :
    ∃ c, ReadsOnly c ∧ exec i = act (runCmd c h p) := by
  simp only [IsRead, List.mem_cons, List.not_mem_nil, or_false] at hi
  obtain rfl | rfl | rfl | rfl | rfl | rfl | rfl | rfl | rfl | rfl | rfl | rfl | rfl | rfl | rfl | rfl | rfl | rfl | rfl | rfl | rfl | rfl | rfl | rfl | rfl | rfl | rfl | rfl | rfl | rfl | rfl | rfl | rfl | rfl | rfl | rfl | rfl | rfl | rfl := hi
  · exact ⟨specSysInfoGet, ⟨fun _ _ _ => rfl, fun _ _ => rfl, fun _ _ _ => reads_ok _ _⟩, rfl⟩
  · exact ⟨specSysStatusGet, ⟨fun _ _ _ => rfl, fun _ _ => rfl, fun _ _ _ => reads_ok _ _⟩, rfl⟩
  · exact ⟨specSysConfigRead, ⟨fun _ _ _ => rfl, fun _ _ => rfl, fun _ _ _ => reads_refuse_or_ok⟩, rfl⟩
  · exact ⟨specPlanStatus, ⟨fun _ _ _ => rfl, fun _ _ => rfl, fun _ _ _ => reads_refuse_or_ok⟩, rfl⟩
  · exact ⟨specGroupStatus, ⟨fun _ _ _ => rfl, fun _ _ => rfl, fun _ _ _ => reads_ok _ _⟩, rfl⟩
  · exact ⟨specAsyStatus, ⟨fun _ _ _ => rfl, fun _ _ => rfl, fun _ _ _ => reads_refuse_or_ok⟩, rfl⟩
  · exact ⟨specAsyCalRead, ⟨fun _ _ _ => rfl, fun _ _ => rfl, fun _ _ _ => reads_refuse_or_ok⟩, rfl⟩
  · exact ⟨specNrgSnapshot, ⟨fun _ _ _ => rfl, fun _ _ => rfl, fun _ _ _ => reads_ok _ _⟩, rfl⟩
  · exact ⟨specNrgQtyRead, ⟨fun _ _ _ => rfl, fun _ _ => rfl, fun _ _ _ => reads_refuse_or_ok⟩, rfl⟩
  · exact ⟨specNrgDemandRead, ⟨fun _ _ _ => rfl, fun _ _ => rfl, fun _ _ _ => reads_refuse_or_ok⟩, rfl⟩
  · exact ⟨specNrgPqRead, ⟨fun _ _ _ => rfl, fun _ _ => rfl, fun _ _ _ => reads_refuse_or_ok⟩, rfl⟩
  · exact ⟨specNrgBalRead, ⟨fun _ _ _ => rfl, fun _ _ => rfl, fun _ _ _ => reads_ok _ _⟩, rfl⟩
  · exact ⟨specBilStatus, ⟨fun _ _ _ => rfl, fun _ _ => rfl, fun _ _ _ => reads_ok _ _⟩, rfl⟩
  · exact ⟨specBilIngotRead, ⟨fun _ _ _ => rfl, fun _ _ => rfl, fun _ _ _ => reads_ok_or_refuse⟩, rfl⟩
  · exact ⟨specOutletStatus, ⟨fun _ _ _ => rfl, fun _ _ => rfl, fun _ _ _ => reads_ok_or_refuse⟩, rfl⟩
  · exact ⟨specAlcStatus, ⟨fun _ _ _ => rfl, fun _ _ => rfl, fun _ _ _ => reads_ok _ _⟩, rfl⟩
  · exact ⟨specRcmStatus, ⟨fun _ _ _ => rfl, fun _ _ => rfl, fun _ _ _ => reads_ok_or_refuse⟩, rfl⟩
  · exact ⟨specSafStatus, ⟨fun _ _ _ => rfl, fun _ _ => rfl, fun _ _ _ => reads_ok _ _⟩, rfl⟩
  · exact ⟨specSafPsetRead, ⟨fun _ _ _ => rfl, fun _ _ => rfl, fun _ _ _ => reads_ok_or_refuse⟩, rfl⟩
  · exact ⟨specSecStatus, ⟨fun _ _ _ => rfl, fun _ _ => rfl, fun _ _ _ => reads_ok _ _⟩, rfl⟩
  · exact ⟨specSecPubkeyRead, ⟨fun _ _ _ => rfl, fun _ _ => rfl, fun _ _ _ => reads_refuse_or_ok⟩, rfl⟩
  · exact ⟨specSecCertRead, ⟨fun _ _ _ => rfl, fun _ _ => rfl, specSecCertRead_reads⟩, rfl⟩
  · exact ⟨specSecTamperRead, ⟨fun _ _ _ => rfl, fun _ _ => rfl, fun _ _ _ => reads_refuse_or_ok⟩, rfl⟩
  · exact ⟨specClsStatus, ⟨fun _ _ _ => rfl, fun _ _ => rfl, fun _ _ _ => reads_ok _ _⟩, rfl⟩
  · exact ⟨specClsCardRead, ⟨fun _ _ _ => rfl, fun _ _ => rfl, fun _ _ _ => reads_ok _ _⟩, rfl⟩
  · exact ⟨specClsWlRead, ⟨fun _ _ _ => rfl, fun _ _ => rfl, fun _ _ _ => reads_refuse_or_ok⟩, rfl⟩
  · exact ⟨specMlkStatus, ⟨fun _ _ _ => rfl, fun _ _ => rfl, fun _ _ _ => reads_ok _ _⟩, rfl⟩
  · exact ⟨specDisStatus, ⟨fun _ _ _ => rfl, fun _ _ => rfl, fun _ _ _ => reads_ok _ _⟩, rfl⟩
  · exact ⟨specDisMapRead, ⟨fun _ _ _ => rfl, fun _ _ => rfl, fun _ _ _ => reads_refuse_or_ok⟩, rfl⟩
  · exact ⟨specDisBsdRead, ⟨fun _ _ _ => rfl, fun _ _ => rfl, fun _ _ _ => reads_ok _ _⟩, rfl⟩
  · exact ⟨specLswStatus, ⟨fun _ _ _ => rfl, fun _ _ => rfl, fun _ _ _ => reads_refuse_or_ok⟩, rfl⟩
  · exact ⟨specLswProfileRead, ⟨fun _ _ _ => rfl, fun _ _ => rfl, fun _ _ _ => reads_refuse_or_ok⟩, rfl⟩
  · exact ⟨specUpdStatus, ⟨fun _ _ _ => rfl, fun _ _ => rfl, fun _ _ _ => reads_ok _ _⟩, rfl⟩
  · exact ⟨specUpdMapRead, ⟨fun _ _ _ => rfl, fun _ _ => rfl, fun _ _ _ => reads_refuse_or_ok⟩, rfl⟩
  · exact ⟨specDiagLogRead, ⟨fun _ _ _ => rfl, fun _ _ => rfl, fun _ _ _ => reads_refuse_or_ok⟩, rfl⟩
  · exact ⟨specDiagAlogRead, ⟨fun _ _ _ => rfl, fun _ _ => rfl, fun _ _ _ => reads_refuse_or_ok⟩, rfl⟩
  · exact ⟨specDiagDumpInfo, ⟨fun _ _ _ => rfl, fun _ _ => rfl, specDiagDumpInfo_reads⟩, rfl⟩
  · exact ⟨specDiagDumpRead, ⟨fun _ _ _ => rfl, fun _ _ => rfl, specDiagDumpRead_reads⟩, rfl⟩
  · exact ⟨specDiagDumpFull, ⟨fun _ _ _ => rfl, fun _ _ => rfl, specDiagDumpFull_reads⟩, rfl⟩

theorem runStarted_of_readsOnly {c : CmdSpec} (hc : ReadsOnly c) (r : CmdRef) (p : List Byte) {s : Block}
    (htaken : s.pln.taken = []) : SameButBoxes s (runStarted c r p s) := by
  unfold runStarted
  split
  · exact complete_same _ _ _ _ htaken
  · obtain ⟨st, d, hbody⟩ := hc.body r p s
    have hrun : runChecked c r p s = complete r st d s := by
      rw [runChecked, hc.pre, hc.lock]
      exact congrArg (answer r) hbody
    rw [hrun]
    exact complete_same _ _ _ _ htaken

theorem runCmd_of_readsOnly {c : CmdSpec} (hc : ReadsOnly c) {h : Req} {p : List Byte} {s : Block}
    (hacc : accepted h p s = true) (htaken : s.pln.taken = []) :
    ∃ mbx evt dbg, runCmd c h p s = { s with mbx := mbx, evt := evt, dbg := dbg } := by
  obtain ⟨m, e, d, hbegun, -⟩ := begun_accepted c.op hacc
  have hrun := runStarted_of_readsOnly hc (refOf h s) p (s := begun c.op h p s) (by rw [hbegun]; exact htaken)
  rw [runCmd_accepted c h p s hacc]
  obtain ⟨m', e', d', heq, -, -⟩ := hrun
  rw [heq, hbegun]
  exact ⟨m', e', d', rfl⟩

/-- Settles O20: whatever the payload, the command ends with a status on the state it found. -/
theorem readCommandsChangeNothing : Obligations.ReadCommandsChangeNothing := by
  intro h p i s t hi hs hacc htaken hexec
  obtain ⟨-, -, hout⟩ := hs
  obtain ⟨c, hc, hi⟩ := readsOnly_of_isRead hi
  obtain ⟨mbx, evt, dbg, hrun⟩ := runCmd_of_readsOnly hc hacc htaken
  have hwrote : wrote s (runCmd c h p s.blk) = { s with blk := { s.blk with mbx := mbx, evt := evt, dbg := dbg } } := by
    rw [hrun]
    exact wrote_of_out_nil s hout
  rw [hi] at hexec
  obtain rfl : wrote s (runCmd c h p s.blk) = t := by simpa [act, lift] using hexec
  rw [hwrote]
  exact ⟨rfl, mbx, evt, dbg, rfl⟩

/-! ### A read frame (04 R100, 06 R180) -/

/-- Reset released, in COMMISSION, one millisecond after the last frame from the host. -/
def frameDue : State :=
  { State.reset with blk := { Block.reset with sys := { Sys.reset with mode := .commission, mtime := 1 }, pwr.heldBy := .no } }

/-- MTIME at which the host channel was last seen alive, in a next state. -/
def chanAtAfter : Host.Outcome State Fault Refusal → Nat
  | .next t => t.blk.mbx.chanAt
  | _ => 0

theorem chanAtAfter_became_hst (s : State) (hst : Hst) :
    chanAtAfter (became s { s.blk with hst := hst }) = s.blk.mbx.chanAt := rfl

/-- A frame with its HCRC right keeps the host channel alive (06 R180). -/
theorem chanAtAfter_hspiReadFrame :
    chanAtAfter (exec (.hspiReadFrame 0x80 0 (BitVec.ofNat 16 (crc16 (frameHead 0x80 0)))) frameDue) = 1 := by
  decide +kernel

/-- Refutes O19: a read of `SYS_ID` at MTIME 1 with its HCRC right, the host channel last seen at MTIME 0. The frame moves
`mbx.chanAt`, from which the host channel's fault is timed (06 R180), to 1; O19 has it stay with all else but HST. -/
theorem not_readFramesChangeNothing : ¬ Obligations.ReadFramesChangeNothing := by
  unfold Obligations.ReadFramesChangeNothing
  intro h
  obtain ⟨hst, hexec⟩ := h 0x80 0 (BitVec.ofNat 16 (crc16 (frameHead 0x80 0))) frameDue (by decide)
  have hchan := chanAtAfter_hspiReadFrame
  rw [hexec, chanAtAfter_became_hst] at hchan
  exact Nat.zero_ne_one hchan

/-! ### Reset -/

theorem resetGroups_none (n : Nat) : tget State.reset.blk.pln.groups n = none := by
  have hgroups : State.reset.blk.pln.groups = List.replicate 16 none := rfl
  rw [hgroups, tget, List.getD_eq_getElem?_getD, List.getElem?_replicate]
  split <;> rfl

theorem resetLocks_free (n : Nat) (hn : n ≤ 31) :
    (tget State.reset.blk.pln.locks n).owner = 0 ∧ (tget State.reset.blk.pln.locks n).broken = false := by
  revert n
  decide +kernel

theorem resetBoxes_unbound (n : Nat) (hn : n ≤ 7) :
    (State.reset.blk.box n).bind = 0 ∧ (State.reset.blk.box n).entries = [] ∧ (State.reset.blk.box n).rsps = [] ∧
      (State.reset.blk.box n).asm = [] := by
  revert n
  decide +kernel

/-- Settles O18. -/
theorem resetValues : Obligations.ResetValues :=
  ⟨rfl, rfl, rfl, rfl, rfl, rfl, rfl, rfl, resetLocks_free, resetBoxes_unbound, resetGroups_none, rfl⟩

/-! ### The interleaver of the mains link (16 R471) -/

/-- 267 is the inverse of 163 modulo 512. -/
theorem symWindow_symAt {h : Nat} (pos : Nat) (hh : h < 512) : symWindow (symAt h pos) = h := by
  unfold symWindow symAt
  omega

theorem symPos_symAt (h pos : Nat) : symPos (symAt h pos) = pos := by
  unfold symPos symAt
  omega

theorem symAt_symWindow_symPos (j : Nat) : symAt (symWindow j) (symPos j) = j := by
  unfold symWindow symPos symAt
  omega

theorem windowTones_getD {pos : Nat} (blk : List Byte) (h : Nat) (hpos : pos < 16) :
    (windowTones blk (1 + h)).getD pos 0 = toneOf (codedDibit blk (symAt h pos)) := by
  have hn : ¬ (1 + h == 0) = true := by simp
  rw [windowTones, if_neg hn, List.getD_eq_getElem?_getD, List.getElem?_map, List.getElem?_range hpos, Option.map_some,
    Option.getD_some, Nat.add_sub_cancel_left]

/-- Settles O21: the window and the position of a symbol give the symbol back. -/
theorem interleaverPlacesSymbols : Obligations.InterleaverPlacesSymbols := by
  refine ⟨fun blk j hj => ?_, fun j k hw hp => ?_, fun h pos hh => ⟨symWindow_symAt pos hh, symPos_symAt h pos⟩⟩
  · have hsym : symAt (163 * j % 512) (j / 512) = j := symAt_symWindow_symPos j
    rw [windowTones_getD blk _ (by omega), hsym]
  · calc j = symAt (symWindow j) (symPos j) := (symAt_symWindow_symPos j).symm
      _ = symAt (symWindow k) (symPos k) := congr (congrArg symAt hw) hp
      _ = k := symAt_symWindow_symPos k

end Sys2Proof.Machine

/-!
PROOF. The commands of the mailbox tables (05 R128 to R132): a started command by what its body answers; then each chapter's
commands. Where a command takes no lock, its conditions decide the branch that its body takes.
-/

namespace Sys2Proof.Machine

/-! ### A started command by its body's answer -/

section

variable (c : CmdSpec) {i : Instr} {h : Req} {p : List Byte} {s : State} {a b b' : Block} {st : Nat} {d : List Byte}

/-- A command with its LENGTH right and its own checks passed, all of its locks taken. -/
theorem runCmd_of_locked (hb : b = begun c.op h p s.blk) (H : starts c.op c.role c.modes h p s.blk = true)
    (hl : c.len p = true) (hk : takeLocks (refOf h s.blk) (c.lock p b) b = .all a)
    (hmode : c.modeOf p b = true := by rfl) (hp : c.pre (refOf h s.blk) p b = none := by rfl) :
    runCmd c h p s.blk = answer (refOf h s.blk) (c.body (refOf h s.blk) p a) := by
  subst hb
  exact runCmd_locked c h p s.blk a H hl hp hk hmode

/-- The same where the command takes no lock. -/
theorem runCmd_of_unlocked (hb : b = begun c.op h p s.blk) (H : starts c.op c.role c.modes h p s.blk = true)
    (hl : c.len p = true) (hmode : c.modeOf p b = true := by rfl) (hp : c.pre (refOf h s.blk) p b = none := by rfl)
    (hk : c.lock p b = [] := by rfl) :
    runCmd c h p s.blk = answer (refOf h s.blk) (c.body (refOf h s.blk) p b) :=
  runCmd_of_locked c hb H hl (by rw [hk]; rfl) hmode hp

/-- A command that takes no lock, by the answer of its body. -/
theorem exec_answer {res : CmdRes} (hi : exec i s = became s (runCmd c h p s.blk)) (hb : b = begun c.op h p s.blk)
    (H : starts c.op c.role c.modes h p s.blk = true) (hl : c.len p = true)
    (hbody : c.body (refOf h s.blk) p b = res) (hmode : c.modeOf p b = true := by rfl)
    (hp : c.pre (refOf h s.blk) p b = none := by rfl) (hk : c.lock p b = [] := by rfl) :
    exec i s = became s (answer (refOf h s.blk) res) := by
  rw [hi, runCmd_of_unlocked c hb H hl hmode hp hk, hbody]

/-- A command that has taken its locks, by the answer of its body. -/
theorem exec_answer_locked {res : CmdRes} (hi : exec i s = became s (runCmd c h p s.blk)) (hb : b = begun c.op h p s.blk)
    (H : starts c.op c.role c.modes h p s.blk = true) (hl : c.len p = true)
    (hk : takeLocks (refOf h s.blk) (c.lock p b) b = .all a)
    (hbody : c.body (refOf h s.blk) p a = res) (hmode : c.modeOf p b = true := by rfl)
    (hp : c.pre (refOf h s.blk) p b = none := by rfl) : exec i s = became s (answer (refOf h s.blk) res) := by
  rw [hi, runCmd_of_locked c hb H hl hk hmode hp, hbody]

/-- A command that takes no lock and ends. -/
theorem exec_done (hi : exec i s = became s (runCmd c h p s.blk)) (hb : b = begun c.op h p s.blk)
    (H : starts c.op c.role c.modes h p s.blk = true) (hl : c.len p = true)
    (hbody : c.body (refOf h s.blk) p b = .done b' st d) (hmode : c.modeOf p b = true := by rfl)
    (hp : c.pre (refOf h s.blk) p b = none := by rfl) (hk : c.lock p b = [] := by rfl) :
    exec i s = answered h s st d b' :=
  exec_answer c hi hb H hl hbody hmode hp hk

/-- A command that takes no lock, answers `ACCEPTED` and goes on. -/
theorem exec_accepted (hi : exec i s = became s (runCmd c h p s.blk)) (hb : b = begun c.op h p s.blk)
    (H : starts c.op c.role c.modes h p s.blk = true) (hl : c.len p = true)
    (hbody : c.body (refOf h s.blk) p b = .accepted b') (hmode : c.modeOf p b = true := by rfl)
    (hp : c.pre (refOf h s.blk) p b = none := by rfl) (hk : c.lock p b = [] := by rfl) :
    exec i s = acceptedAs h s b' :=
  exec_answer c hi hb H hl hbody hmode hp hk

/-- A command that takes no lock and has no response yet. -/
theorem exec_waits (hi : exec i s = became s (runCmd c h p s.blk)) (hb : b = begun c.op h p s.blk)
    (H : starts c.op c.role c.modes h p s.blk = true) (hl : c.len p = true)
    (hbody : c.body (refOf h s.blk) p b = .waits b') (hmode : c.modeOf p b = true := by rfl)
    (hp : c.pre (refOf h s.blk) p b = none := by rfl) (hk : c.lock p b = [] := by rfl) :
    exec i s = became s b' :=
  exec_answer c hi hb H hl hbody hmode hp hk

/-- A command that has taken its locks and ends. -/
theorem exec_done_locked (hi : exec i s = became s (runCmd c h p s.blk)) (hb : b = begun c.op h p s.blk)
    (H : starts c.op c.role c.modes h p s.blk = true) (hl : c.len p = true)
    (hk : takeLocks (refOf h s.blk) (c.lock p b) b = .all a)
    (hbody : c.body (refOf h s.blk) p a = .done b' st d) (hmode : c.modeOf p b = true := by rfl)
    (hp : c.pre (refOf h s.blk) p b = none := by rfl) :
    exec i s = answered h s st d b' :=
  exec_answer_locked c hi hb H hl hk hbody hmode hp

/-- A command that has taken its locks, answers `ACCEPTED` and goes on. -/
theorem exec_accepted_locked (hi : exec i s = became s (runCmd c h p s.blk)) (hb : b = begun c.op h p s.blk)
    (H : starts c.op c.role c.modes h p s.blk = true) (hl : c.len p = true)
    (hk : takeLocks (refOf h s.blk) (c.lock p b) b = .all a)
    (hbody : c.body (refOf h s.blk) p a = .accepted b') (hmode : c.modeOf p b = true := by rfl)
    (hp : c.pre (refOf h s.blk) p b = none := by rfl) :
    exec i s = acceptedAs h s b' :=
  exec_answer_locked c hi hb H hl hk hbody hmode hp

/-- A command that has taken its locks and has no response yet. -/
theorem exec_waits_locked (hi : exec i s = became s (runCmd c h p s.blk)) (hb : b = begun c.op h p s.blk)
    (H : starts c.op c.role c.modes h p s.blk = true) (hl : c.len p = true)
    (hk : takeLocks (refOf h s.blk) (c.lock p b) b = .all a)
    (hbody : c.body (refOf h s.blk) p a = .waits b') (hmode : c.modeOf p b = true := by rfl)
    (hp : c.pre (refOf h s.blk) p b = none := by rfl) :
    exec i s = became s b' :=
  exec_answer_locked c hi hb H hl hk hbody hmode hp

end

theorem lenIs_iff {n : Nat} {p : List Byte} : lenIs n p = true ↔ p.length = n := by simp [lenIs]

/-- A command that names an outlet takes the lock of its outlet. -/
theorem takeLocks_lockOf {p : List Byte} (hn : outletOk (u8At p 0) = true) (r : CmdRef) (b : Block) :
    takeLocks r (lockOf p b) b = takeLocks r [u8At p 0] b := by
  rw [lockOf, if_pos hn]

/-! ### The plan commands (06 Table 6-17) -/

/-- Settles O22: the conditions of a clause decide the branch its body takes; an opening is by its signature,
  a cancellation by
the state of its plan. -/
theorem planCommands : Obligations.PlanCommands := by
  intro h p s
  refine ⟨?_, ?_, ?_, ?_, ?_⟩
  · intro b H hlen hdom hmode hsplit hflags hrows hrows' hswap htrans hkey hstage
    clear_value (hb : b = _)
    have hsome : (parseHdr p).rows ≠ 0 := by omega
    split
    · next hsigned =>
      exact exec_done specPlanBegin rfl hb H (lenIs_iff.mpr hlen) (by
        simp [specPlanBegin, ok, refOf, Nat.not_lt_of_le hdom, hsplit, hflags, hsome, Nat.not_lt_of_le hrows',
          Nat.not_lt_of_le hswap, htrans, hkey,
          hsigned, hstage]) hmode
    · next hsigned =>
      exact exec_done specPlanBegin rfl hb H (lenIs_iff.mpr hlen) (by
        simp [specPlanBegin, refuse, Nat.not_lt_of_le hdom, hsplit, hflags, hsome, Nat.not_lt_of_le hrows',
          Nat.not_lt_of_le hswap, htrans, hkey,
          hsigned]) hmode
  · intro b H hhead hlen hmode hask
    clear_value (hb : b = _)
    exact exec_done specPlanLoad rfl hb H (by simpa [specPlanLoad, hhead] using hlen)
      (by simp only [specPlanLoad, refOf, hask]; rfl) hmode
  · intro b H hlen hmode hask
    clear_value (hb : b = _)
    exact exec_waits specPlanArm rfl hb H (lenIs_iff.mpr hlen) (by simp only [specPlanArm, refOf, hask]) hmode
  · intro b H hlen hmode hask
    clear_value (hb : b = _)
    split
    · next hval =>
      exact exec_done specPlanCancel rfl hb H (lenIs_iff.mpr hlen)
        (by simp only [specPlanCancel, refOf, hask, hval, if_true, ok]) hmode
    · next hval =>
      exact exec_done specPlanCancel rfl hb H (lenIs_iff.mpr hlen)
        (by simp only [specPlanCancel, refOf, hask, if_neg hval, ok]) hmode
  · intro b H hlen hdom
    clear_value (hb : b = _)
    exact exec_done specPlanStatus rfl hb H (lenIs_iff.mpr hlen) (if_neg (Nat.not_lt_of_le hdom))

end Sys2Proof.Machine

/-!
PROOF. The commands of the chapters’ command tables. A started command ends by what its body answers (`exec_done`,
`exec_accepted`, `exec_waits`); the conditions of its clause decide the branch that the body takes.
-/

namespace Sys2Proof.Machine

/-! ### Commit groups, locks and arbiter classes (06) -/

/-- Settles O23: the conditions of a clause decide the branch its body takes; a lock asked for is granted, refused or
waited for. -/
theorem groupCommands : Obligations.GroupCommands := by
  intro h p s
  refine ⟨?_, ?_, ?_, ?_, ?_, ?_⟩
  · intro b H hhead hlen hgroupOk hgroupRoom hjrnBad
    clear_value (hb : b = _)
    have hrun := runCmd_of_unlocked specGroupSubmit hb H (by simp [specGroupSubmit, hlen])
      (hp := by simp [specGroupSubmit, badUnless, hgroupOk])
    show became s (boundary 0 0 (runCmd specGroupSubmit h p s.blk)) = _
    rw [hrun]
    simp only [specGroupSubmit, hgroupRoom, hjrnBad, Bool.not_true, Bool.false_eq_true, if_false]
    rfl
  · intro i g b H hlen hgroupBySeq howner hdue
    clear_value (hb : b = _)
    exact exec_done specGroupAbort rfl hb H (lenIs_iff.mpr hlen)
      (by simp [specGroupAbort, refOf, ok, refuse, hgroupBySeq, howner, hdue])
  · intro b H hnil
    clear_value (hb : b = _)
    exact exec_done specGroupStatus rfl hb H (lenIs_iff.mpr (congrArg List.length hnil))
      (by simp [specGroupStatus, refOf, ok])
  · intro b H hlen hlock hwait
    clear_value (hb : b = _)
    cases hask : lockAsk (mbOwner h.mb.toNat) (u8At p 0) b with
    | granted b1 =>
      exact exec_done specLockAcquire rfl hb H (lenIs_iff.mpr hlen)
        (by simp [specLockAcquire, refOf, ok, Nat.not_lt_of_le hlock, Nat.not_lt_of_le hwait, hask])
    | fail st b1 =>
      exact exec_done specLockAcquire rfl hb H (lenIs_iff.mpr hlen)
        (by simp [specLockAcquire, refOf, Nat.not_lt_of_le hlock, Nat.not_lt_of_le hwait, hask])
    | wait =>
      by_cases hzero : u16At p 2 = 0
      · simp only [hzero, if_true]
        exact exec_done specLockAcquire rfl hb H (lenIs_iff.mpr hlen)
          (by simp [specLockAcquire, refOf, refuse, Nat.not_lt_of_le hlock, hask, hzero])
      · simp only [hzero, if_false]
        exact exec_accepted specLockAcquire rfl hb H (lenIs_iff.mpr hlen)
          (by simp [specLockAcquire, refOf, Nat.not_lt_of_le hlock, Nat.not_lt_of_le hwait, hask, hzero])
  · intro b H hlen h0_le hholdsLock
    clear_value (hb : b = _)
    exact exec_done specLockRelease rfl hb H (lenIs_iff.mpr hlen)
      (by simp [specLockRelease, refOf, ok, refuse, h0_le, hholdsLock])
  · intro b H hlen h0 h1_le h2_le hcls
    clear_value (hb : b = _)
    exact exec_done specArbPrioSet rfl hb H (lenIs_iff.mpr hlen)
      (by simp [specArbPrioSet, refOf, ok, refuse, h0, Nat.not_le_of_lt h1_le, Nat.not_lt_of_le h2_le, hcls])

/-! ### Metrology (07) -/

theorem recorded_of_some {op : Nat} {p : List Byte} {s s1 : Block} (f : Block → CmdRes)
    (h : asyRecord op (p.map fun b => b.toNat) s = some s1) : recorded op p s f = f s1 := by
  rw [recorded, h]

/-- Settles O24: the conditions of a clause decide the branch its body takes. -/
theorem metrologyCommands : Obligations.MetrologyCommands := by
  intro h p s
  refine ⟨?_, ?_, ?_, ?_, ?_, ?_, ?_, ?_, ?_⟩
  · intro b H hlen hpointOk
    clear_value (hb : b = _)
    exact exec_done specAsyStatus rfl hb H (lenIs_iff.mpr hlen)
      (by simp [specAsyStatus, refOf, ok, refuse, hpointOk])
  · intro b H hlen hpointOk h1_le hchInUse hcheckSuppressed
    clear_value (hb : b = _)
    exact exec_accepted specAsyInjRun rfl hb H (lenIs_iff.mpr hlen)
      (by simp [specAsyInjRun, refOf, refuse, hpointOk, Nat.not_lt_of_le h1_le, hchInUse, hcheckSuppressed])
  · intro a b H hlen hasyResetOk hasyResetOk' htakeLocks
    clear_value (hb : b = _)
    exact exec_done_locked specAsyFaultReset rfl hb H (lenIs_iff.mpr hlen) htakeLocks
      (by simp [specAsyFaultReset, refOf, ok, refuse, hasyResetOk']) (hp := by simp [specAsyFaultReset, badUnless,
        hasyResetOk])
  · intro b H hlen h4_ge h4_le hcond
    clear_value (hb : b = _)
    exact exec_done specAsyCalRead rfl hb H (lenIs_iff.mpr hlen)
      (by simp [specAsyCalRead, refOf, ok, refuse, Nat.one_le_iff_ne_zero.mp h4_ge, Nat.not_lt_of_le h4_le,
        Nat.not_lt_of_le hcond])
  · intro b1 b H hlen hpointOk hptOn h2_ge h2_le hasyRecord
    clear_value (hb : b = _)
    exact exec_accepted specAsyCalMeasure rfl hb H (lenIs_iff.mpr hlen)
      (by simp [specAsyCalMeasure, refOf, hpointOk, hptOn, Nat.not_lt_of_le h2_ge, Nat.not_lt_of_le h2_le,
        recorded_of_some _ hasyRecord])
  · intro b1 b H hlen hpointOk hasyRecord
    clear_value (hb : b = _)
    exact exec_done specAsyTctabLoad rfl hb H (lenIs_iff.mpr hlen)
      (by simp [specAsyTctabLoad, refOf, ok, hpointOk, recorded_of_some _ hasyRecord])
  · intro b1 b H hlen hedgesOk hasyRecord
    clear_value (hb : b = _)
    exact exec_done specAsyBandSet rfl hb H (lenIs_iff.mpr hlen)
      (by simp [specAsyBandSet, refOf, ok, hedgesOk, recorded_of_some _ hasyRecord])
  · intro b1 b H hlen hasyClear hcalCommit
    clear_value (hb : b = _)
    exact exec_done specAsyCalCommit rfl hb H (lenIs_iff.mpr hlen)
      (by simp [specAsyCalCommit, refOf, ok, refuse, hasyClear, hcalCommit])
  · rintro b1 b H rfl hasyRecord
    clear_value (hb : b = _)
    exact exec_done specAsyCalDiscard rfl hb H rfl (recorded_of_some _ hasyRecord)

/-! ### Energy (08) -/

/-- Settles O25: the conditions of a clause decide the branch its body takes. -/
theorem energyCommands : Obligations.EnergyCommands := by
  intro h p s
  refine ⟨?_, ?_, ?_, ?_, ?_, ?_, ?_⟩
  · intro b H hnil
    clear_value (hb : b = _)
    exact exec_done specNrgSnapshot rfl hb H (lenIs_iff.mpr (congrArg List.length hnil))
      (by simp [specNrgSnapshot, refOf, ok])
  · intro b H hlen hpointOk
    clear_value (hb : b = _)
    exact exec_done specNrgQtyRead rfl hb H (lenIs_iff.mpr hlen)
      (by simp [specNrgQtyRead, refOf, ok, refuse, hpointOk])
  · intro b H hlen hpoint htype hkind hused
    clear_value (hb : b = _)
    have hchan : (u8At p 1 ≤ 2 || (4 ≤ u8At p 1 && u8At p 1 ≤ 6) : Bool) = true := by simpa using hkind
    exact exec_done specNrgHarmRead rfl hb H (lenIs_iff.mpr hlen)
      (by simp only [specNrgHarmRead, hpoint, bne_iff_ne.mpr htype, hchan, hused]; rfl)
  · intro b H hlen hpointOk
    clear_value (hb : b = _)
    exact exec_done specNrgDemandRead rfl hb H (lenIs_iff.mpr hlen)
      (by simp [specNrgDemandRead, refOf, ok, refuse, hpointOk])
  · intro b H hlen h0_le h2_ge h2_le
    clear_value (hb : b = _)
    exact exec_done specNrgPqRead rfl hb H (lenIs_iff.mpr hlen)
      (by simp [specNrgPqRead, refOf, ok, refuse, Nat.not_lt_of_le h0_le, Nat.one_le_iff_ne_zero.mp h2_ge,
        Nat.not_lt_of_le h2_le])
  · intro b H hnil
    clear_value (hb : b = _)
    exact exec_done specNrgBalRead rfl hb H (lenIs_iff.mpr (congrArg List.length hnil))
      (by simp [specNrgBalRead, refOf, ok])
  · intro b H hlen h0_ge h0_le h2_ge h2_le hpulseOn htestCmd
    clear_value (hb : b = _)
    exact exec_accepted specNrgPulseTest rfl hb H (lenIs_iff.mpr hlen)
      (by simp [specNrgPulseTest, refOf, refuse, Nat.one_le_iff_ne_zero.mp h0_ge, Nat.not_lt_of_le h0_le,
        Nat.one_le_iff_ne_zero.mp h2_ge, Nat.not_lt_of_le h2_le, hpulseOn, htestCmd])

/-! ### Billing (09) -/

/-- Settles O26: the conditions of a clause decide the branch its body takes, a token’s outcome by its check. -/
theorem billingCommands : Obligations.BillingCommands := by
  intro h p s
  refine ⟨?_, ?_, ?_, ?_, ?_, ?_, ?_, ?_, ?_, ?_⟩
  · intro b H hnil
    clear_value (hb : b = _)
    exact exec_done specBilStatus rfl hb H (lenIs_iff.mpr (congrArg List.length hnil))
      (by simp [specBilStatus, refOf, ok])
  · intro a b H hlen htakeLocks
    clear_value (hb : b = _)
    exact exec_answer_locked specBilPeriodClose rfl hb H (lenIs_iff.mpr hlen) htakeLocks rfl
  · rintro l b H hlen hfirst hseven hseq hheld hcount
    clear_value (hb : b = _)
    exact exec_done specBilIngotRead rfl hb H (lenIs_iff.mpr hlen)
      (by simp only [specBilIngotRead, hheld]; simp [ok, hfirst, hseven, hseq, hcount])
  · intro b H hlen h0_le
    clear_value (hb : b = _)
    exact exec_done specBilIngotAck rfl hb H (lenIs_iff.mpr hlen)
      (by simp [specBilIngotAck, refOf, ok, refuse, Nat.not_lt_of_le h0_le])
  · intro a b H hhead hk
    clear_value (hb : b = _)
    rw [exec_answer_locked specBilTokenApply rfl hb H (decide_eq_true hhead) hk rfl]
    simp only [specBilTokenApply]
    cases tokCheck (p.drop 4) (tokSession (p.drop 4) a).isSome a with
    | some x => rfl
    | none =>
      by_cases hslot : bit (u8At p 0) 0 = true
      · by_cases htype : u8At (p.drop 4) 1 = 1
        · simp [hslot, htype]
        · simp only [hslot, htype, if_true, if_false, beq_iff_eq]
          rfl
      · simp only [hslot]
        rcases u8At (p.drop 4) 1 with _ | _ | _ | _ | n <;> cases tokSession (p.drop 4) a <;> rfl
  · intro a b H hnil hecAvail htakeLocks
    clear_value (hb : b = _)
    exact exec_answer_locked specBilEcActivate rfl hb H (lenIs_iff.mpr (congrArg List.length hnil)) htakeLocks rfl (hp :=
      by simp [specBilEcActivate, badUnless, hecAvail])
  · intro a b H hlen hsplit hreq hk
    clear_value (hb : b = _)
    refine exec_done_locked specBilRelayReq rfl hb H (lenIs_iff.mpr hlen) hk ?_
      (hp := by simp only [specBilRelayReq, hsplit, hreq, badUnless, Bool.and_self, if_true])
    by_cases harm : u8At p 0 = 1 <;> simp [specBilRelayReq, ok, harm, refOf]
  · intro a b H hnil hpp hfb htakeLocks
    clear_value (hb : b = _)
    exact exec_done_locked specBilRelayReset rfl hb H (lenIs_iff.mpr (congrArg List.length hnil)) htakeLocks
      (by simp [specBilRelayReset, refOf, ok]) (hp := by simp [specBilRelayReset, badUnless, hpp, hfb])
  · intro a b H hlen hsession hkind hlow hhigh hk
    clear_value (hb : b = _)
    refine exec_done_locked specBilSessionCredit rfl hb H (lenIs_iff.mpr hlen) hk ?_
      (hp := by simp [specBilSessionCredit, badUnless, hsession, hkind, hlow, hhigh])
    by_cases hset : u8At p 1 = 1 <;> simp [specBilSessionCredit, ok, hset]
  · intro a b H hlen hppen htakeLocks
    clear_value (hb : b = _)
    exact exec_answer_locked specBilCreditAdjust rfl hb H (lenIs_iff.mpr hlen) htakeLocks rfl (hp := by simp
      [specBilCreditAdjust, badUnless, hppen])

/-! ### Allocation (11) -/

/-- Settles O28: the conditions of a clause decide the branch its body takes. -/
theorem allocationCommands : Obligations.AllocationCommands := by
  intro h p s
  refine ⟨?_, ?_, ?_, ?_, ?_, ?_, ?_⟩
  · intro b H hnil
    clear_value (hb : b = _)
    exact exec_done specAlcStatus rfl hb H (lenIs_iff.mpr (congrArg List.length hnil))
      (by simp [specAlcStatus, refOf, ok])
  · intro b H hlen
    clear_value (hb : b = _)
    exact exec_done specAlcLimitSet rfl hb H (lenIs_iff.mpr hlen)
      (by simp [specAlcLimitSet, refOf, ok])
  · intro a b H hlen houtletOk ho8 hinProgress htakeLocks
    clear_value (hb : b = _)
    exact exec_done_locked specAlcTargetSet rfl hb H (lenIs_iff.mpr hlen) ((takeLocks_lockOf houtletOk _ b).trans
      htakeLocks)
      (by simp [specAlcTargetSet, refOf, ok]) (hp := by simp [specAlcTargetSet, badUnless, houtletOk, ho8, hinProgress])
  · intro a b H hlen hcdNameOk hresetOk htakeLocks
    clear_value (hb : b = _)
    exact exec_done_locked specAlcFaultReset rfl hb H (lenIs_iff.mpr hlen) htakeLocks
      (by simp [specAlcFaultReset, refOf, ok]) (hp := by simp [specAlcFaultReset, badUnless, hcdNameOk, hresetOk])
  · intro b H hlen hcanOk h1_ge h1_le hnodesConfigured hlink
    clear_value (hb : b = _)
    exact exec_accepted specAlcPmRead rfl hb H (lenIs_iff.mpr hlen)
      (by simp [specAlcPmRead, refOf, refuse, hlink]) (hp := by simp [specAlcPmRead, badUnless, hcanOk, h1_ge, h1_le,
        hnodesConfigured])
  · intro a b H hlen hcdNameOk h2_ge h2_le hcdTestOk htest htakeLocks
    clear_value (hb : b = _)
    exact exec_accepted_locked specAlcCdTest rfl hb H (lenIs_iff.mpr hlen) htakeLocks
      (by simp [specAlcCdTest, refOf, refuse, htest]) (hp := by simp [specAlcCdTest, badUnless, hcdNameOk, h2_ge, h2_le,
        hcdTestOk])
  · intro b H hlen hlink hfmt hid hid' hdata hidle
    clear_value (hb : b = _)
    exact exec_done specAlcCanRaw rfl hb H (by simp [specAlcCanRaw, hlen]) (by simp [specAlcCanRaw, ok])
      (hp := by simp only [specAlcCanRaw, badUnless, hlink, hfmt, hid, hid', hdata, hidle, decide_true]; rfl)

/-! ### Residual current (12) -/

/-- Settles O29: the conditions of a clause decide the branch its body takes. -/
theorem residualCurrentCommands : Obligations.ResidualCurrentCommands := by
  intro h p s
  refine ⟨?_, ?_, ?_, ?_, ?_⟩
  · intro b H hlen houtletOk
    clear_value (hb : b = _)
    exact exec_done specRcmStatus rfl hb H (lenIs_iff.mpr hlen)
      (by simp [specRcmStatus, refOf, ok, refuse, houtletOk])
  · intro a b H hlen hrcmResetOk hrun htakeLocks
    clear_value (hb : b = _)
    exact exec_accepted_locked specRcmFaultReset rfl hb H (lenIs_iff.mpr hlen) htakeLocks
      (by simp [specRcmFaultReset, refOf, refuse, hrun]) (hp := by simp [specRcmFaultReset, badUnless, hrcmResetOk])
  · intro a b H hlen houtletOk hsvcOf hsvcOf' hfb hon hdcStep hrun htakeLocks
    clear_value (hb : b = _)
    exact exec_accepted_locked specRcmSelftest rfl hb H (lenIs_iff.mpr hlen) ((takeLocks_lockOf houtletOk _ b).trans
      htakeLocks)
      (by simp [specRcmSelftest, refOf, hrun]) (hp := by simp [specRcmSelftest, badUnless, houtletOk, hsvcOf, hsvcOf',
        hfb, hon, hdcStep])
  · intro a b H hlen houtletOk hisDc hsvcOf hfb hon htakeLocks
    clear_value (hb : b = _)
    exact exec_accepted_locked specInsMeasure rfl hb H (lenIs_iff.mpr hlen) ((takeLocks_lockOf houtletOk _ b).trans
      htakeLocks)
      (by simp [specInsMeasure, refOf]) (hp := by simp [specInsMeasure, badUnless, houtletOk, hisDc, hsvcOf, hfb, hon])
  · intro a b H hlen houtletOk hcond h2_ge h2_le h4_ge h4_le hsvcOf hsvcOf' hrun htakeLocks
    clear_value (hb : b = _)
    exact exec_accepted_locked specRcmTestInject rfl hb H (lenIs_iff.mpr hlen) ((takeLocks_lockOf houtletOk _ b).trans
      htakeLocks)
      (by simp [specRcmTestInject, refOf, hrun]) (hp := by simp [specRcmTestInject, badUnless, houtletOk, hcond, h2_ge,
        h2_le, h4_ge, h4_le, hsvcOf, hsvcOf'])

/-! ### Safety inputs (13) -/

/-- Settles O30: the conditions of a clause decide the branch its body takes; a staged set is by its owner, a commit
by its claims. -/
theorem safetyInputCommands : Obligations.SafetyInputCommands := by
  intro h p s
  refine ⟨?_, ?_, ?_, ?_, ?_, ?_⟩
  · intro b H hnil
    clear_value (hb : b = _)
    exact exec_done specSafStatus rfl hb H (lenIs_iff.mpr (congrArg List.length hnil))
      (by simp [specSafStatus, refOf, ok])
  · intro b H hlen h4_ge h4_le hcond
    clear_value (hb : b = _)
    exact exec_done specSafPsetRead rfl hb H (lenIs_iff.mpr hlen)
      (by simp [specSafPsetRead, refOf, ok, refuse, h4_ge, h4_le, hcond])
  · intro b H hlow hhigh haligned hend
    clear_value (hb : b = _)
    have hl : specSafPsetLoad.len p = true := by simp [specSafPsetLoad, hlow, hhigh]
    cases hstage : b.saf.stage with
    | none =>
      exact exec_done specSafPsetLoad rfl hb H hl
        (by simp only [specSafPsetLoad, hstage, haligned, Nat.not_lt_of_le hend, decide_false]; rfl)
    | some x =>
      obtain ⟨own, st⟩ := x
      by_cases hown : own = h.mb.toNat
      · simp only [hown, if_true]
        exact exec_done specSafPsetLoad rfl hb H hl
          (by simp only [specSafPsetLoad, refOf, hstage, hown, haligned, Nat.not_lt_of_le hend, decide_false,
            bne_self_eq_false]; rfl)
      · simp only [hown, if_false]
        exact exec_done specSafPsetLoad rfl hb H hl
          (by simp only [specSafPsetLoad, refOf, hstage, bne_iff_ne.mpr hown, if_true]; rfl)
  · rintro own st set b H hlen hstage rfl hset hcrc hid
    clear_value (hb : b = _)
    have hchecks : (psetOk (fixLen 416 st) b.fitted && u32At p 0 == u32At (fixLen 416 st) 8 &&
        u32At p 4 == u32At (fixLen 416 st) 4) = true := by simp [hset, hcrc, hid]
    refine (exec_answer specSafPsetCommit rfl hb H (lenIs_iff.mpr hlen) (by
      simp only [specSafPsetCommit, hstage, hchecks, Bool.not_true, Bool.false_eq_true, if_false]
      rfl)).trans ?_
    dsimp only
    generalize claimAll 4 (psetClaims (fixLen 416 st)) _ = x
    obtain ⟨good, t⟩ := x
    cases good <;> rfl
  · intro b H hlen hstate hid
    clear_value (hb : b = _)
    split
    · next hhash =>
      exact exec_done specSafPsetConfirm rfl hb H (lenIs_iff.mpr hlen)
        (by simp only [specSafPsetConfirm, hstate, hid, hhash, beq_self_eq_true]; rfl)
    · next hhash =>
      exact exec_done specSafPsetConfirm rfl hb H (lenIs_iff.mpr hlen)
        (by simp only [specSafPsetConfirm, hstate, hid, beq_eq_false_iff_ne.mpr hhash, Bool.and_false]; rfl)
  · intro b H hlen h0_le hfnKind h2_ge h2_le htest
    clear_value (hb : b = _)
    exact exec_accepted specSafDemandTest rfl hb H (lenIs_iff.mpr hlen)
      (by simp [specSafDemandTest, refOf, refuse, Nat.not_lt_of_le h0_le, hfnKind, Nat.not_lt_of_le h2_ge,
        Nat.not_lt_of_le h2_le, htest])

/-! ### Security (14) -/

theorem withCred_none {type : Nat} {p : List Byte} {s : Block} (f : Block → CmdRes) (h : credFails type p s = none) :
    withCred type p s f = f (engOp 2 s) := by
  rw [withCred, h]

theorem withCred_some {type k : Nat} {p : List Byte} {s : Block} (f : Block → CmdRes) (h : credFails type p s = some k) :
    withCred type p s f = .done (raise 201 (u8At p 1 * 256 + k) (if k = 5 then engOp 2 s else s))
      (if k = 5 then stAuthFailed else stBadParam) [] := by
  rw [withCred, h]
  simp only [beq_iff_eq]
  rfl

/-- An item whose header passes its checks: unwrapped where it is wrapped, then its body (R422, R423). -/
theorem provItem_of_header {p : List Byte} {s : Block} (hhead : 8 ≤ p.length) (hlen : p.length = 8 + u16At p 2)
    (hlow : 1 ≤ u16At p 0) (hhigh : u16At p 0 ≤ 9) (hflag : u8At p 4 = b2n (itemWrapped (u16At p 0)))
    (hzero : allZero (bytesAt p 5 3) = true) (hwrap : itemWrapped (u16At p 0) = true → 68 ≤ p.length) :
    provItem p s =
      match if itemWrapped (u16At p 0) then itemUnwrap (slotKey 4 s) (p.take 8) (p.drop 8) else some (p.drop 8) with
      | none => .done s stAuthFailed []
      | some d => match itemPut (u16At p 0) d s with
        | none => .done s stBadParam []
        | some (x, s1) => .done (raise 200 (u16At p 0 * 256 + x)
            (updCru (fun c => { c with items := setBit c.items (u16At p 0) }) s1)) stOk [] := by
  have hlength : (decide (p.length < 8) || p.length != 8 + u16At p 2) = false := by simp [hhead, ← hlen]
  have hheader : (!(decide (1 ≤ u16At p 0) && decide (u16At p 0 ≤ 9)) || u8At p 4 != b2n (itemWrapped (u16At p 0)) ||
      !allZero (bytesAt p 5 3)) = false := by simp [hlow, hhigh, hflag, hzero]
  have hlong : (itemWrapped (u16At p 0) && decide (p.length < 68)) = false := by
    cases hw : itemWrapped (u16At p 0) with
    | false => rfl
    | true => simp [hwrap hw]
  simp only [provItem, hlength, hheader, hlong, Bool.false_eq_true, if_false]
  rfl

/-- In STANDBY an item asks for a field item and a grant (R422). -/
theorem specSecProvItem_body {r : CmdRef} {p : List Byte} {s : Block}
    (hfield : s.sys.mode = .standby → itemField (u16At p 0) = true ∧ grantValid s = true) :
    specSecProvItem.body r p s = provItem p s := by
  by_cases hmode : s.sys.mode = .standby
  · obtain ⟨hitem, hgrant⟩ := hfield hmode
    simp [specSecProvItem, hmode, hitem, hgrant]
  · simp [specSecProvItem, hmode]

/-- Settles O31: a command with a credential is split by its check; the others take the branch that their conditions
decide. -/
theorem securityCommands : Obligations.SecurityCommands := by
  intro h p s
  refine ⟨?_, ?_, ?_, ?_, ?_, ?_, ?_, ?_, ?_, ?_, ?_, ?_, ?_, ?_, ?_, ?_⟩
  · intro b H hnil
    clear_value (hb : b = _)
    exact exec_done specSecStatus rfl hb H (lenIs_iff.mpr (congrArg List.length hnil))
      (by simp [specSecStatus, refOf, ok])
  · intro b H hlen h0_ge h0_le
    clear_value (hb : b = _)
    exact exec_done specSecHallmarkGet rfl hb H (by simp [specSecHallmarkGet, hlen])
      (by simp [specSecHallmarkGet, refOf, ok, refuse, Nat.not_lt_of_le h0_ge, Nat.not_lt_of_le h0_le])
  · intro b H hlen
    clear_value (hb : b = _)
    cases hcred : credFails 1 p b with
    | none =>
      exact exec_done specSecGrantInstall rfl hb H (lenIs_iff.mpr hlen) (by
        simp only [specSecGrantInstall]
        rw [withCred_none _ hcred]
        rfl)
    | some k =>
      exact exec_done specSecGrantInstall rfl hb H (lenIs_iff.mpr hlen) (by
        simp only [specSecGrantInstall]
        rw [withCred_some _ hcred])
  · intro g b H hnil hgrant
    clear_value (hb : b = _)
    exact exec_done specSecGrantRemove rfl hb H (lenIs_iff.mpr (congrArg List.length hnil))
      (by simp [specSecGrantRemove, refOf, ok, refuse, hgrant])
  · intro b H hlen
    clear_value (hb : b = _)
    cases hcred : credFails 2 p b with
    | none =>
      exact exec_done specSecProvOpen rfl hb H (lenIs_iff.mpr hlen) (by
        simp only [specSecProvOpen]
        rw [withCred_none _ hcred]
        rfl)
    | some k =>
      exact exec_done specSecProvOpen rfl hb H (lenIs_iff.mpr hlen) (by
        simp only [specSecProvOpen]
        rw [withCred_some _ hcred])
  · intro b H hhead hlen hlow hhigh hflag hzero hwrap hfield
    clear_value (hb : b = _)
    rw [exec_answer specSecProvItem rfl hb H rfl ((specSecProvItem_body hfield).trans
      (provItem_of_header hhead hlen hlow hhigh hflag hzero hwrap))]
    cases (if itemWrapped (u16At p 0) then itemUnwrap (slotKey 4 b) (p.take 8) (p.drop 8) else some (p.drop 8)) with
    | none => rfl
    | some d => cases hput : itemPut (u16At p 0) d b <;> simp only [hput] <;> rfl
  · intro b H hnil hprovComplete
    clear_value (hb : b = _)
    exact exec_done specSecProvClose rfl hb H (lenIs_iff.mpr (congrArg List.length hnil))
      (by simp [specSecProvClose, refOf, ok, refuse, hprovComplete])
  · intro b H hlen hgrant hlow hhigh hdrbg
    clear_value (hb : b = _)
    exact exec_done specSecKeygen rfl hb H rfl (by
      simp only [specSecKeygen, ok, lenIs_iff.mpr hlen, hlow, hhigh, hdrbg]
      rw [if_neg (by simpa using hgrant)]
      rfl)
  · intro b H hlen h0_le hslotValid hkeyType hkeyType'
    clear_value (hb : b = _)
    exact exec_done specSecPubkeyRead rfl hb H (lenIs_iff.mpr hlen)
      (by simp [specSecPubkeyRead, refOf, ok, refuse, Nat.not_le_of_lt h0_le, hslotValid,
        Nat.one_le_iff_ne_zero.mp hkeyType,
        Nat.not_lt_of_le hkeyType'])
  · intro c b H hlen hcert
    clear_value (hb : b = _)
    split
    · next hshort =>
      exact exec_done specSecCertRead rfl hb H (lenIs_iff.mpr hlen)
        (by simp only [specSecCertRead, hcert, hshort, if_true, refuse])
    · next hshort =>
      exact exec_done specSecCertRead rfl hb H (lenIs_iff.mpr hlen)
        (by simp only [specSecCertRead, hcert, hshort, if_false, ok])
  · intro b H hlen h0_le h1_ge h1_le
    clear_value (hb : b = _)
    exact exec_done specSecTamperRead rfl hb H (lenIs_iff.mpr hlen)
      (by simp [specSecTamperRead, refOf, ok, refuse, Nat.not_lt_of_le h0_le, Nat.one_le_iff_ne_zero.mp h1_ge,
        Nat.not_lt_of_le h1_le])
  · intro b H hnil hclass2Open
    clear_value (hb : b = _)
    exact exec_done specSecTamperAck rfl hb H (lenIs_iff.mpr (congrArg List.length hnil))
      (by simp [specSecTamperAck, refOf, ok, refuse, hclass2Open])
  · intro b H hlen
    clear_value (hb : b = _)
    cases hcred : credFails 3 p b with
    | none =>
      exact exec_waits specSecDecommission rfl hb H (lenIs_iff.mpr hlen) (by
        simp only [specSecDecommission]
        rw [withCred_none _ hcred])
    | some k =>
      exact exec_done specSecDecommission rfl hb H (lenIs_iff.mpr hlen) (by
        simp only [specSecDecommission]
        rw [withCred_some _ hcred])
  · intro b H hlen hreq
    clear_value (hb : b = _)
    rcases hreq with hopen | hclose
    · by_cases hstate : b.cru.dbgState = 1
      · rw [if_neg (by simp [hopen]), if_pos hstate]
        exact exec_done specSecDebug rfl hb H (lenIs_iff.mpr hlen) (by simp [specSecDebug, ok, hopen, hstate])
      · rw [if_neg (by simp [hopen]), if_neg hstate]
        exact exec_done specSecDebug rfl hb H (lenIs_iff.mpr hlen) (by simp [specSecDebug, ok, hopen, hstate])
    · rw [if_pos hclose]
      exact exec_done specSecDebug rfl hb H (lenIs_iff.mpr hlen) (by simp [specSecDebug, ok, hclose])
  · intro b H hlen hlow hhigh hlocked
    clear_value (hb : b = _)
    refine exec_done specSecKeyErase rfl hb H (lenIs_iff.mpr hlen) ?_
    cases hvalid : slotValid (u8At p 0) b <;> simp [specSecKeyErase, ok, Nat.not_lt_of_le hlow, Nat.not_lt_of_le hhigh,
      hlocked, hvalid]
  · intro b H hlen h0_ge h0_le
    clear_value (hb : b = _)
    exact exec_done specSecTamperTest rfl hb H (lenIs_iff.mpr hlen)
      (by simp [specSecTamperTest, refOf, ok, refuse, Nat.one_le_iff_ne_zero.mp h0_ge, Nat.not_lt_of_le h0_le])

/-! ### Contactless (15) -/

/-- A change of the whitelist: a new generation where the list differs (R449). -/
theorem wlChanged_eq {l : List (List Byte)} {s : Block} :
    wlChanged l s =
      let g := if l = s.cls.wl then s.cls.gen else (s.cls.gen + 1) % 65536
      let s1 := updCls (fun c => { c with wl := l, gen := g }) s
      .done (if l = s.cls.wl then s1 else raise 211 g s1) stOk (p16 g ++ p16 l.length) := by
  by_cases hsame : l = s.cls.wl <;> simp [wlChanged, ok, hsame]

/-- The assignment of an antenna past its checks: freed, or claimed from its engine. -/
theorem specClsAntAssign_body {r : CmdRef} {p : List Byte} {b : Block} (hlow : 1 ≤ u8At p 0) (hhigh : u8At p 0 ≤ 4)
    (howner : u8At p 1 ≤ 2) (hmask : u16At p 2 < 4096)
    (hfitted : outlets.all (fun n => !bit (u16At p 2) (n - 1) || b.fitted n) = true)
    (hant : u8At p 1 = 0 ∨ b.ant8 (u8At p 0) 4 ≠ 0) (hbusy : antBusy (u8At p 0) b = false) :
    specClsAntAssign.body r p b =
      if u8At p 1 = 0 then .done (antClaim (u8At p 0) 0 (u16At p 2) b) stOk []
      else match claim (5 + u8At p 0) (6 + u8At p 1) b with
        | (false, b1) => .done b1 stResourceHeld []
        | (true, _) => .done (antClaim (u8At p 0) (u8At p 1) (u16At p 2) b) stOk [] := by
  have hengine : (u8At p 1 != 0 && b.ant8 (u8At p 0) 4 == 0) = false := by
    rcases hant with hfree | hset
    · simp [hfree]
    · simp [hset]
  simp only [specClsAntAssign, hlow, hhigh, howner, Nat.not_le_of_lt hmask, hfitted, hengine, hbusy]
  simp only [decide_true, Bool.and_self, Bool.not_true, decide_false, Bool.or_self, Bool.false_eq_true, if_false,
    beq_iff_eq]
  rfl

/-- Settles O32: the conditions of a clause decide the branch its body takes. -/
theorem contactlessCommands : Obligations.ContactlessCommands := by
  intro h p s
  refine ⟨?_, ?_, ?_, ?_, ?_, ?_, ?_, ?_, ?_, ?_, ?_, ?_⟩
  · intro b H hnil
    clear_value (hb : b = _)
    exact exec_done specClsStatus rfl hb H (lenIs_iff.mpr (congrArg List.length hnil))
      (by simp [specClsStatus, refOf, ok])
  · intro b H hnil
    clear_value (hb : b = _)
    exact exec_done specClsCardRead rfl hb H (lenIs_iff.mpr (congrArg List.length hnil))
      (by simp [specClsCardRead, refOf, ok])
  · rintro _ _ b H hhead hlen hlow hhigh rfl hall rfl hlength
    clear_value (hb : b = _)
    exact exec_done specClsWlAdd rfl hb H (by simp [specClsWlAdd, hlen]) (by
      simp only [specClsWlAdd, ok, hlow, hhigh, hall, Nat.not_lt_of_le hlength]
      rfl)
  · intro l b H hhead hlen h2_le hmap
    clear_value (hb : b = _)
    refine exec_done specClsWlDelete rfl hb H (by simp [specClsWlDelete, hlen]) ?_
    simp only [specClsWlDelete, Nat.not_lt_of_le h2_le, if_false]
    rw [← wlChanged_eq]
    by_cases hevery : bit (u8At p 0) 0 = true
    · rw [if_pos hevery] at hmap ⊢
      rw [Option.some.inj hmap]
    · rw [if_neg hevery] at hmap ⊢
      rw [hmap]
  · intro b H hlen h2_ge h2_le
    clear_value (hb : b = _)
    exact exec_done specClsWlRead rfl hb H (lenIs_iff.mpr hlen)
      (by simp [specClsWlRead, refOf, ok, refuse, Nat.one_le_iff_ne_zero.mp h2_ge, Nat.not_lt_of_le h2_le])
  · intro b H hlen h0_ge h0_le h1_le h2_le hall hant8 hantBusy
    clear_value (hb : b = _)
    rw [exec_answer specClsAntAssign rfl hb H (lenIs_iff.mpr hlen)
      (specClsAntAssign_body h0_ge h0_le h1_le h2_le hall hant8 hantBusy)]
    split
    · rfl
    · cases hclaim : claim (5 + u8At p 0) (6 + u8At p 1) b with
      | mk got b1 => cases got <;> rfl
  · intro b H hhead hlen h2_ge h2_le hsplit hheldOn
    clear_value (hb : b = _)
    exact exec_done specClsApdu rfl hb H (by simp [specClsApdu, hlen]) (by
      simp only [specClsApdu, h2_ge, h2_le, hsplit, hheldOn]
      rfl)
  · rintro _ b H hlen hwiredReads hwiredOk rfl hupto
    clear_value (hb : b = _)
    refine exec_done (specClsTagRead s.tagMem) rfl hb H (lenIs_iff.mpr hlen) ?_
    simp only [specClsTagRead, hwiredReads, hwiredOk, Bool.not_true, Bool.false_eq_true, if_false]
    rw [if_neg (by simpa [List.all_eq_true, Classical.or_iff_not_imp_left] using hupto)]
    rfl
  · intro b H hhead hlen h0_ge h1_ge h1_le hcond hwiredOk hupto
    clear_value (hb : b = _)
    exact exec_done specClsTagWrite rfl hb H (by simp [specClsTagWrite, hlen])
      (by simp [specClsTagWrite, ok, Nat.not_lt_of_le h0_ge, Nat.one_le_iff_ne_zero.mp h1_ge, Nat.not_lt_of_le h1_le,
        Nat.not_lt_of_le hcond, hwiredOk,
        hupto])
  · intro key b H hlen hkey h0_ge hport
    clear_value (hb : b = _)
    exact exec_done specClsToolkeyIssue rfl hb H (lenIs_iff.mpr hlen)
      (by simp [specClsToolkeyIssue, refOf, ok, refuse, hkey, Nat.not_lt_of_le h0_ge, hport])
  · intro b H hlen h0_ge hwiredOk
    clear_value (hb : b = _)
    exact exec_done specClsToolminSet rfl hb H (lenIs_iff.mpr hlen)
      (by simp [specClsToolminSet, refOf, ok, refuse, Nat.not_lt_of_le h0_ge, hwiredOk])
  · intro b H hlen h0_ge h0_le h1_le h2_ge h2_le hheld htest hantBusy
    clear_value (hb : b = _)
    exact exec_accepted specClsFieldTest rfl hb H (lenIs_iff.mpr hlen)
      (by simp [specClsFieldTest, refOf, refuse, Nat.one_le_iff_ne_zero.mp h0_ge, Nat.not_lt_of_le h0_le,
        Nat.not_lt_of_le h1_le,
        Nat.not_lt_of_le h2_ge, Nat.not_lt_of_le h2_le, hheld, htest, hantBusy])

/-! ### Mains link (16) -/

/-- Settles O33: the conditions of a clause decide the branch its body takes. -/
theorem mainsLinkCommands : Obligations.MainsLinkCommands := by
  intro h p s
  refine ⟨?_, ?_, ?_, ?_⟩
  · intro b H hnil
    clear_value (hb : b = _)
    exact exec_done specMlkStatus rfl hb H (lenIs_iff.mpr (congrArg List.length hnil))
      (by simp [specMlkStatus, refOf, ok])
  · intro b H hlen h0_ge h0_le
    clear_value (hb : b = _)
    exact exec_done specMlkRxRead rfl hb H (lenIs_iff.mpr hlen)
      (by simp [specMlkRxRead, refOf, ok, refuse, Nat.one_le_iff_ne_zero.mp h0_ge, Nat.not_lt_of_le h0_le])
  · intro b H hhead hlen htype hlong hkey hcoupling hisHead hroom
    clear_value (hb : b = _)
    have hslot : (!(bit (u8At p 1 % 4) 0 && !slotValid 14 b)) = true := by
      cases hsecure : bit (u8At p 1 % 4) 0 with
      | false => rfl
      | true => simp [hkey hsecure]
    exact exec_done specMlkSend rfl hb H (by simp [specMlkSend, hlen]) (by
      simp only [specMlkSend, ok, htype, hlong, hslot, hcoupling, hisHead, Nat.not_le_of_lt hroom, beq_iff_eq]
      rfl)
  · intro b H hlen h0_ge h0_le h1_le h2_ge h2_le hst hst' htest
    clear_value (hb : b = _)
    exact exec_accepted specMlkTxTest rfl hb H (lenIs_iff.mpr hlen)
      (by simp [specMlkTxTest, refOf, refuse, Nat.one_le_iff_ne_zero.mp h0_ge, Nat.not_lt_of_le h0_le,
        Nat.not_lt_of_le h1_le, Nat.not_lt_of_le h2_ge,
        Nat.not_lt_of_le h2_le, hst, hst', htest])

/-! ### Displays (17) -/

/-- Settles O34: the conditions of a clause decide the branch its body takes; a test is of the badge display or of
the matrix. -/
theorem displayCommands : Obligations.DisplayCommands := by
  intro h p s
  refine ⟨?_, ?_, ?_, ?_, ?_, ?_⟩
  · intro b H hnil
    clear_value (hb : b = _)
    exact exec_done specDisStatus rfl hb H (lenIs_iff.mpr (congrArg List.length hnil))
      (by simp [specDisStatus, refOf, ok])
  · intro b H hlen hsplit hmen
    clear_value (hb : b = _)
    exact exec_done specDisFrame rfl hb H (lenIs_iff.mpr hlen)
      (by simp [specDisFrame, refOf, ok, refuse, hsplit, hmen])
  · intro b H hlen h0_le h4_ge h4_le hcond hmaps
    clear_value (hb : b = _)
    exact exec_done specDisMapRead rfl hb H (lenIs_iff.mpr hlen)
      (by simp [specDisMapRead, refOf, ok, refuse, Nat.not_lt_of_le h0_le, Nat.one_le_iff_ne_zero.mp h4_ge,
        Nat.not_lt_of_le h4_le,
        Nat.not_lt_of_le hcond, hmaps])
  · intro b H hnil
    clear_value (hb : b = _)
    exact exec_done specDisBsdRead rfl hb H (lenIs_iff.mpr (congrArg List.length hnil))
      (by simp [specDisBsdRead, refOf, ok])
  · intro b H hlen h0_le hcrc32
    clear_value (hb : b = _)
    exact exec_done specDisMapLoad rfl hb H (lenIs_iff.mpr hlen)
      (by simp [specDisMapLoad, refOf, ok, refuse, Nat.not_lt_of_le h0_le, hcrc32])
  · intro b H hlen h0_ge h0_le h2_le h4_ge h4_le hlit htest hopen_
    clear_value (hb : b = _)
    refine exec_accepted specDisTest rfl hb H (lenIs_iff.mpr hlen) ?_
    simp only [specDisTest, beq_iff_eq]
    by_cases hbadge : u8At p 0 = 4
    · obtain ⟨hclosed, hidle⟩ := hopen_ hbadge
      rw [if_pos hbadge] at hlit
      simp [refOf, Nat.not_lt_of_le h2_le, Nat.not_lt_of_le h4_ge, Nat.not_lt_of_le h4_le, htest, hbadge, hlit, hclosed,
        hidle]
    · rw [if_neg hbadge] at hlit
      simp [refOf, Nat.one_le_iff_ne_zero.mp h0_ge, Nat.not_lt_of_le h0_le, Nat.not_lt_of_le h2_le,
        Nat.not_lt_of_le h4_ge, Nat.not_lt_of_le h4_le, htest,
        hbadge, hlit]

/-! ### Load switches (18) -/

/-- Settles O35: the conditions of a clause decide the branch its body takes. -/
theorem loadSwitchCommands : Obligations.LoadSwitchCommands := by
  intro h p s
  refine ⟨?_, ?_, ?_, ?_, ?_, ?_, ?_⟩
  · intro b H hlen hlsOk
    clear_value (hb : b = _)
    exact exec_done specLswStatus rfl hb H (lenIs_iff.mpr hlen)
      (by simp [specLswStatus, refOf, ok, refuse, hlsOk])
  · intro b H hlen hsplit hland hmaskEnabled hmaskEnabled'
    clear_value (hb : b = _)
    exact exec_done specLswSet rfl hb H (lenIs_iff.mpr hlen) (by
      simp only [specLswSet, ok, hsplit, hland, hmaskEnabled, hmaskEnabled']
      rfl)
  · intro b H hlen hlsOk h1_le h2_ge h2_le hcond hfreq
    clear_value (hb : b = _)
    refine exec_done specLswPwmSet rfl hb H (lenIs_iff.mpr hlen) ?_
    have hgiven : (u16At p 6 == 0 || (decide (10 ≤ u16At p 6) && decide (u16At p 6 ≤ 25000))) = true := by
      simpa using hcond
    have hset : (u8At p 1 == 0 || u16At p 6 != 0 || tget b.lsw.freq (u8At p 1 - 1) != 0) = true := by
      simpa [or_assoc] using hfreq
    simp only [specLswPwmSet, hlsOk, h1_le, h2_ge, h2_le, hgiven, hset, decide_true, Bool.and_self, Bool.not_true,
      Bool.false_eq_true, if_false]
    simp [ok]
  · intro b H hlen hlsOk hst hlatch
    clear_value (hb : b = _)
    exact exec_done specLswReset rfl hb H (lenIs_iff.mpr hlen)
      (by simp [specLswReset, refOf, ok, refuse, hlsOk, hst, hlatch])
  · intro b H hlen h0_ge h0_le hprofileOf
    clear_value (hb : b = _)
    exact exec_done specLswProfileRead rfl hb H (lenIs_iff.mpr hlen)
      (by simp [specLswProfileRead, refOf, ok, refuse, Nat.one_le_iff_ne_zero.mp h0_ge, Nat.not_lt_of_le h0_le, hprofileOf])
  · intro b H hlen h0_ge h0_le hprofileOk hst
    clear_value (hb : b = _)
    exact exec_done specLswProfileLoad rfl hb H (lenIs_iff.mpr hlen) (by
      simp only [specLswProfileLoad, ok, Nat.not_lt_of_le h0_ge, Nat.not_lt_of_le h0_le, hprofileOk, hst]
      rfl)
  · intro b H hlen hlsOk hcond hlsEn hst htest
    clear_value (hb : b = _)
    exact exec_accepted specLswTest rfl hb H (lenIs_iff.mpr hlen) (by
      simp only [specLswTest]
      rw [if_neg (by simp [hlsOk, hlsEn, hst]; omega), if_neg (by simp [htest])]
      simp)

/-! ### Update (19) -/

/-- Settles O36: the conditions of a clause decide the branch its body takes; an opening is split by its claim and
its header’s check. -/
theorem updateCommands : Obligations.UpdateCommands := by
  intro h p s
  refine ⟨?_, ?_, ?_, ?_, ?_, ?_, ?_⟩
  · intro b H hnil
    clear_value (hb : b = _)
    exact exec_done specUpdStatus rfl hb H (lenIs_iff.mpr (congrArg List.length hnil))
      (by simp [specUpdStatus, refOf, ok])
  · intro b H hlen hst
    clear_value (hb : b = _)
    rw [exec_answer specUpdOpen rfl hb H (lenIs_iff.mpr hlen) rfl]
    simp only [specUpdOpen, hst]
    cases claim 5 6 b with
    | mk got b1 =>
      cases got with
      | false => rfl
      | true =>
        simp only [bne_self_eq_false, Bool.false_eq_true, if_false, if_true]
        cases headerFails p (updOpen 2 (u32At p 8) b1) <;> rfl
  · intro b H hlen hst hst' htransport h0_le h4_le
    clear_value (hb : b = _)
    refine exec_done specUpdBlock rfl hb H (lenIs_iff.mpr hlen) ?_
    simp only [specUpdBlock]
    rw [if_neg (by simp [hst, htransport, h0_le, h4_le]), if_neg (by simp [hst'])]
    split <;> rfl
  · intro b H hnil hst htransport hfirstMissing
    clear_value (hb : b = _)
    exact exec_accepted specUpdFinish rfl hb H (lenIs_iff.mpr (congrArg List.length hnil))
      (by simp [specUpdFinish, refOf, refuse, hst, htransport, hfirstMissing])
  · intro b H hlen hschedNamed hschedOk
    clear_value (hb : b = _)
    exact exec_done specUpdSchedule rfl hb H (lenIs_iff.mpr hlen)
      (by simp [specUpdSchedule, refOf, ok, refuse, hschedNamed, hschedOk])
  · intro b H hlen hwhich
    clear_value (hb : b = _)
    refine exec_done specUpdCancel rfl hb H (lenIs_iff.mpr hlen) ?_
    rcases hwhich with ⟨hschedule, hst, hid⟩ | ⟨hwhole, hcancels⟩
    · simp [specUpdCancel, ok, hschedule, hst, hid]
    · simp [specUpdCancel, ok, hwhole, hcancels]
  · intro b H hlen h4_ge h4_le
    clear_value (hb : b = _)
    exact exec_done specUpdMapRead rfl hb H (lenIs_iff.mpr hlen)
      (by simp [specUpdMapRead, refOf, ok, refuse, Nat.one_le_iff_ne_zero.mp h4_ge, Nat.not_lt_of_le h4_le])

/-! ### Diagnostics (21) -/

/-- Settles O37: the conditions of a clause decide the branch its body takes. -/
theorem diagnosticCommands : Obligations.DiagnosticCommands := by
  intro h p s
  refine ⟨?_, ?_, ?_, ?_, ?_, ?_, ?_⟩
  · intro b H hlen h4_ge h4_le
    clear_value (hb : b = _)
    exact exec_done specDiagLogRead rfl hb H (lenIs_iff.mpr hlen)
      (by simp [specDiagLogRead, refOf, ok, refuse, Nat.one_le_iff_ne_zero.mp h4_ge, Nat.not_lt_of_le h4_le])
  · intro b H hlen h4_ge h4_le
    clear_value (hb : b = _)
    exact exec_done specDiagAlogRead rfl hb H (lenIs_iff.mpr hlen)
      (by simp [specDiagAlogRead, refOf, ok, refuse, Nat.one_le_iff_ne_zero.mp h4_ge, Nat.not_lt_of_le h4_le])
  · intro d b H hlen hdumpOf
    clear_value (hb : b = _)
    exact exec_done specDiagDumpInfo rfl hb H (lenIs_iff.mpr hlen)
      (by simp [specDiagDumpInfo, refOf, ok, refuse, hdumpOf])
  · intro d b H hlen hdumpOf h2_ge h2_le hdumpData
    clear_value (hb : b = _)
    exact exec_done specDiagDumpRead rfl hb H (lenIs_iff.mpr hlen)
      (by simp [specDiagDumpRead, refOf, ok, refuse, hdumpOf, Nat.one_le_iff_ne_zero.mp h2_ge, Nat.not_lt_of_le h2_le,
        Nat.not_lt_of_le hdumpData])
  · intro b H hlen hdump
    clear_value (hb : b = _)
    refine exec_done specDiagDumpAck rfl hb H (lenIs_iff.mpr hlen) ?_
    by_cases hflash : (b.flash.map fun f => f.dseq == u32At p 0).getD false = true
    · simp only [specDiagDumpAck, ok, hflash, if_true]
    · have hram := (Bool.or_eq_true_iff.mp hdump).resolve_left hflash
      simp only [specDiagDumpAck, ok, if_neg hflash, hram, if_true]
  · intro b H hlen
    clear_value (hb : b = _)
    exact exec_waits specDiagDumpForce rfl hb H (lenIs_iff.mpr hlen)
      (by simp [specDiagDumpForce, refOf])
  · intro d b H hlen hdumpOf h2_ge h2_le hdumpSpace
    clear_value (hb : b = _)
    exact exec_done specDiagDumpFull rfl hb H (lenIs_iff.mpr hlen)
      (by simp [specDiagDumpFull, refOf, ok, refuse, hdumpOf, Nat.one_le_iff_ne_zero.mp h2_ge, Nat.not_lt_of_le h2_le,
        Nat.not_lt_of_le hdumpSpace])

/-! ### System (05) -/

/-- Settles O38: the conditions of a clause decide the branch its body takes; a load is by the owner of the stage. -/
theorem systemCommands : Obligations.SystemCommands := by
  intro h p s
  refine ⟨?_, ?_, ?_, ?_, ?_, ?_, ?_, ?_, ?_, ?_, ?_⟩
  · intro b H hnil
    clear_value (hb : b = _)
    exact exec_done specSysInfoGet rfl hb H (lenIs_iff.mpr (congrArg List.length hnil))
      (by simp [specSysInfoGet, refOf, ok])
  · intro b H hnil
    clear_value (hb : b = _)
    exact exec_done specSysStatusGet rfl hb H (lenIs_iff.mpr (congrArg List.length hnil))
      (by simp [specSysStatusGet, refOf, ok])
  · intro b H hlen h0_ge h0_le htrans
    clear_value (hb : b = _)
    exact exec_answer specSysModeSet rfl hb H (lenIs_iff.mpr hlen)
      (by simp [specSysModeSet, Nat.one_le_iff_ne_zero.mp h0_ge, Nat.not_lt_of_le h0_le, htrans])
  · intro b H hlen h0
    clear_value (hb : b = _)
    show became s (softCheck (runCmd specSysSoftReset h p s.blk)) = _
    rw [runCmd_of_unlocked specSysSoftReset hb H (lenIs_iff.mpr hlen)]
    simp only [specSysSoftReset, h0]
    rfl
  · intro b H hlen
    clear_value (hb : b = _)
    exact exec_done specSysWallSet rfl hb H (lenIs_iff.mpr hlen)
      (by simp [specSysWallSet, refOf, ok])
  · intro b H hhead hlength halign hdrop
    clear_value (hb : b = _)
    have hstart : u32At p 0 < 65536 := by
      rw [List.length_drop] at hdrop
      omega
    rw [exec_answer specSysConfigLoad rfl hb H (by simp [specSysConfigLoad, hhead, hlength]) rfl]
    simp only [specSysConfigLoad]
    rw [if_neg (by simpa [halign, hstart] using hdrop)]
    cases b.cfg.stage with
    | none => rfl
    | some held =>
      by_cases hsame : held.1 = h.mb.toNat
      · simp only [refOf, hsame, beq_self_eq_true, if_true]
        rfl
      · simp only [refOf, beq_iff_eq, hsame, if_false]
        rfl
  · intro staged a b H hlen hstage htakeLocks
    clear_value (hb : b = _)
    exact exec_done_locked specSysConfigCommit rfl hb H (lenIs_iff.mpr hlen) htakeLocks
      (by simp [specSysConfigCommit, refOf, refuse, hstage])
  · intro b H hlen h4_ge h4_le hcfgImage
    clear_value (hb : b = _)
    exact exec_done specSysConfigRead rfl hb H (lenIs_iff.mpr hlen)
      (by simp [specSysConfigRead, refOf, ok, refuse, Nat.one_le_iff_ne_zero.mp h4_ge, Nat.not_lt_of_le h4_le,
        Nat.not_lt_of_le hcfgImage])
  · intro b H hlen h0_ge h0_le
    clear_value (hb : b = _)
    exact exec_done specSysEvtRead rfl hb H (lenIs_iff.mpr hlen)
      (by simp [specSysEvtRead, refOf, ok, refuse, Nat.one_le_iff_ne_zero.mp h0_ge, Nat.not_lt_of_le h0_le])
  · intro b H hlen h4_ge h4_le h0_le
    clear_value (hb : b = _)
    exact exec_done specSysRegRead rfl hb H (lenIs_iff.mpr hlen)
      (by simp [specSysRegRead, refOf, ok, refuse, Nat.one_le_iff_ne_zero.mp h4_ge, Nat.not_lt_of_le h4_le,
        Nat.not_le_of_lt h0_le])
  · intro b H hhead hlen h4_ge h4_le h0_le
    clear_value (hb : b = _)
    exact exec_done specSysRegWrite rfl hb H (by simp [specSysRegWrite, hlen])
      (by simp [specSysRegWrite, refOf, ok, refuse, Nat.one_le_iff_ne_zero.mp h4_ge, Nat.not_lt_of_le h4_le,
        Nat.not_le_of_lt h0_le])

end Sys2Proof.Machine

/-!
PROOF. The rows that the hardware itself takes: a row’s next state is what its own function makes of the block,
  by the branch
that the clause’s conditions decide.
-/

namespace Sys2Proof.Machine

section

variable {i : Instr} {s : State} {b b' b1 b2 : Block} {c : Prop} [Decidable c]

/-- A row by what its function makes of the block. -/
theorem exec_row (hi : exec i s = became s b) (h : b = b') : exec i s = became s b' := h ▸ hi

/-- A row whose condition holds. -/
theorem exec_row_pos (hc : c) (hi : exec i s = became s (if c then b1 else b2)) : exec i s = became s b1 :=
  exec_row hi (if_pos hc)

/-- A row that nothing holds back. -/
theorem exec_row_neg (hc : ¬ c) (hi : exec i s = became s (if c then b1 else b2)) : exec i s = became s b2 :=
  exec_row hi (if_neg hc)

end

/-! ### Supply, reset and outage (02) -/

/-- Settles O39: each clause is the branch of its row that its conditions decide. -/
theorem powerRows : Obligations.PowerRows := by
  rintro s _ rfl
  refine ⟨?_, ?_, ?_, ?_, ?_, ?_, ?_, ?_, ?_, ?_, ?_, ?_, ?_, ?_, ?_, ?_, ?_⟩
  · rfl
  · rfl
  · intro lowUs hdead hlowUs
    have hshort : ¬ lowUs < 2 := by omega
    exact exec_row rfl (by simp [hdead, hshort, hlowUs])
  · intro why hheldBy
    exact exec_row_neg hheldBy rfl
  · intro hheldBy
    exact exec_row_pos hheldBy rfl
  · intro o hreleasable
    exact exec_row_pos hreleasable rfl
  · intro step hreleasable
    exact exec_row_pos hreleasable rfl
  · intro vhold hreleasable
    exact exec_row_pos hreleasable rfl
  · intro vin hvin
    exact exec_row_pos hvin rfl
  · intro va vb vc hsiteEnabled
    exact exec_row_pos hsiteEnabled rfl
  · intro t1 vin hmayRecover hdead hpfwSelftest hmode
    rcases hmode with hzeroised | ⟨houtage, hheld, hsoon⟩
    · exact exec_row rfl (by simp [hmayRecover, hdead, hpfwSelftest, hzeroised])
    · exact exec_row rfl (by simp [hmayRecover, hdead, hpfwSelftest, houtage, hheld, hsoon])
  · intro t1 vin hmayRecover hdead hmode ht1
    exact exec_row rfl (by simp [hmayRecover, hdead, hmode, ht1])
  · intro vin heldMs hvin
    exact exec_row_pos hvin rfl
  · intro hpfw hdead hpfwSelftest hmode
    exact exec_row rfl (by simp [hpfw, hdead, hpfwSelftest, hmode])
  · intro vin hheldBy
    exact exec_row_pos hheldBy rfl
  · intro vin hpfw
    exact exec_row_pos hpfw rfl
  · intro hrecovering hpfw hheldBy
    exact exec_row rfl (by simp [hrecovering, hpfw, hheldBy])

/-! ### Rails, VHOLD and the processors (02) -/

/-- Settles O40: each clause is the branch of its row that its conditions decide. -/
theorem railAndProcessorRows : Obligations.RailAndProcessorRows := by
  rintro s _ rfl
  refine ⟨?_, ?_, ?_, ?_, ?_, ?_, ?_, ?_, ?_, ?_⟩
  · intro r hrailOk hdead hheldBy
    exact exec_row rfl (by simp [hrailOk, hdead, hheldBy])
  · intro r hrailOk hsetRail
    exact exec_row rfl ((if_neg (by simp [hrailOk])).trans (if_neg (by simp [hsetRail])))
  · intro vhold hcharging
    exact exec_row_pos hcharging rfl
  · intro vhold hvholdRec
    exact exec_row_pos hvholdRec rfl
  · intro core hlarkspurRuns
    exact exec_row_pos hlarkspurRuns rfl
  · intro core hlarkspurRuns
    exact exec_row_pos hlarkspurRuns rfl
  · intro hlarkspurDown
    exact exec_row_pos hlarkspurDown rfl
  · intro _why hheldBy
    exact exec_row_neg hheldBy rfl
  · intro hheldBy
    exact exec_row_neg hheldBy rfl
  · intro hheldBy
    exact exec_row_neg hheldBy rfl

/-! ### Modes and service (03) -/

/-- Settles O41: each clause is the branch of its row that its conditions decide. -/
theorem modeRows : Obligations.ModeRows := by
  rintro s _ rfl
  refine ⟨?_, ?_, ?_, ?_, ?_⟩
  · intro hdue hmode htrans hcfg hvalid
    have hserve : (s.blk.sys.mode == .standby && s.blk.sys.trans.isNone && s.blk.cfg8 0x0001 8 == 1 &&
        siteValid { s.blk with sys.autostartDue := false }) = true := by
      rw [hvalid, hmode, htrans, hcfg]
      rfl
    exact exec_row rfl ((if_neg (by simp [hdue])).trans (if_pos hserve))
  · intro hinMode
    exact exec_row_pos hinMode rfl
  · intro outlet houtlet hdue hsealed hst
    refine exec_row_pos ?_ rfl
    have hdraft : execServiceOutApply.draftOf outlet s.blk = false := hsealed
    rcases hst with hidle | hparked
    · simp [houtlet, hdue, hdraft, hidle]
    · simp [houtlet, hdue, hdraft, hparked]
  · intro outlet r houtletOk hol
    exact exec_row rfl (by simp [houtletOk, hol])
  · intro outlet houtletOk
    exact exec_row_pos houtletOk rfl

/-! ### Host accesses (04, 05) -/

/-- A read frame with its HCRC right while the window is served (R98, R100). -/
theorem readFrame_of_served {cmd addr n hcrc : Nat} {b : Block} (hs : served b = true)
    (hright : crc16 (frameHead cmd addr) = hcrc) :
    readFrame cmd addr n hcrc b =
      let bad := frameBad cmd addr
      let t := tsb (bad || (wordAddrs addr n).any fun a => a ≥ 0x1000000 || !readable a b) false false b.hst.prevAbort b
      let x := readMany 0 bad addr n (goodFrame b)
      updHst (fun h => { h with lastTx := readTx t x.rd }) x.s := by
  rw [readFrame, if_neg (by simp [hs]), if_neg (by simp [hright])]

/-- A write frame with its HCRC right while the window is served (R98, R100). -/
theorem writeFrame_of_served {cmd addr hcrc : Nat} {ws : List Word} {b : Block} (hs : served b = true)
    (hright : crc16 (frameHead cmd addr ++ wordBytes ws) = hcrc) :
    writeFrame cmd addr ws hcrc b =
      let x := writeMany 0 (frameBad cmd addr) addr ws (goodFrame b)
      updHst (fun h => { h with lastTx := writeTx (tsb x.berr false x.np b.hst.prevAbort x.s) }) x.s := by
  rw [writeFrame, if_neg (by simp [hs]), if_neg (by simp [hright])]

/-- A row that writes one word. -/
theorem exec_of_hostWrite {i : Instr} {addr : Nat} {v : Word} {s : State}
    (hi : exec i s = became s (hostWrite addr v s.blk)) (hs : served s.blk = true) :
    exec i s =
      let x := writeMany 0 (frameBad 0 addr) addr [v] (goodFrame s.blk)
      became s (updHst (fun h => { h with lastTx := writeTx (tsb x.berr false x.np s.blk.hst.prevAbort x.s) }) x.s) :=
  exec_row hi (hostWrite_of_served addr v hs)

/-- Settles O42: a frame whose HCRC is right and that is served performs its words; a row that writes one word is such
a frame. -/
theorem hostRows : Obligations.HostRows := by
  rintro s _ rfl
  refine ⟨?_, ?_, ?_, fun _ _ => exec_of_hostWrite rfl, fun _ _ => exec_of_hostWrite rfl,
    fun _ _ => exec_of_hostWrite rfl, fun _ _ _ => exec_of_hostWrite rfl, ?_, fun _ _ => exec_of_hostWrite rfl,
    fun _ _ => exec_of_hostWrite rfl, exec_of_hostWrite rfl, exec_of_hostWrite rfl, fun _ => exec_of_hostWrite rfl,
    fun _ => exec_of_hostWrite rfl, fun _ => exec_of_hostWrite rfl, fun _ => exec_of_hostWrite rfl, ?_, ?_, ?_⟩
  · intro cmd addr hcrc hs hright
    exact exec_row rfl (readFrame_of_served hs hright)
  · intro cmd addr ws hcrc hs hright
    exact exec_row rfl (writeFrame_of_served hs hright)
  · intro hserved
    exact exec_row_neg hserved rfl
  · intro mb k hs
    exact exec_row rfl (readFrame_of_served hs rfl)
  · rintro port frame _ hs hport htls hlen hmb hzero hsize rfl hfit hbind hfree
    have hport' : (port == 1 || port == 2) = true := by simpa using hport
    refine exec_row rfl ((if_pos hport').trans ((if_neg ?_).trans ((if_neg ?_).trans ((if_neg ?_).trans (if_neg ?_)))))
    · simp [hs, htls, hlen, hmb, hzero, hsize]
    · simpa using hfit
    · simp [hbind]
    · simpa using hfree
  · intro mb hbox
    exact exec_row rfl (by simp [hbox])
  · intro hserved hsplit hsilent hlastHost
    exact exec_row rfl (by simp [hserved, hsplit, hsilent, Nat.not_lt_of_le hlastHost])

/-! ### Fatal errors and memory checks (21) -/

/-- Settles O43: each clause is the branch of its row that its conditions decide. -/
theorem diagnosticRows : Obligations.DiagnosticRows := by
  rintro s _ rfl
  refine ⟨?_, ?_, ?_, ?_, ?_, ?_, ?_⟩
  · intro cause core detail detail2 hheldBy hlarkspurDown
    exact exec_row_neg (by simp [hheldBy, hlarkspurDown]) rfl
  · intro hheldBy hpfw hdown
    cases hwriting : s.blk.dbg.writing with
    | some d => exact exec_row rfl (by simp [hheldBy, hpfw, hwriting])
    | none =>
      have hlarkspur := hdown.resolve_left (not_not_intro hwriting)
      exact exec_row rfl (by simp [hheldBy, hwriting, hlarkspur])
  · intro mem uncorrectable addr symbol core hheldBy hmem
    exact exec_row rfl (by simp [hheldBy, Nat.not_lt_of_le hmem])
  · intro hheldBy
    exact exec_row_neg hheldBy rfl
  · intro failed hheldBy
    exact exec_row_neg hheldBy rfl
  · intro mismatch hheldBy
    exact exec_row rfl (by simp [hheldBy])
  · rfl

/-! ### Ticks, plans, groups and locks (06) -/

/-- Settles O44: each clause is the branch of its row that its conditions decide; the timer’s row by the tick’s present
source. -/
theorem planRows : Obligations.PlanRows := by
  rintro s _ rfl
  refine ⟨?_, ?_, ?_, ?_, ?_, ?_, ?_, ?_, ?_, ?_⟩
  · intro sinceTickUs sinceCrossUs oppMv hheldBy hassayDown hdetArmed htimer hsinceTickUs
    exact exec_row rfl (by simp [hheldBy, hassayDown, hdetArmed, htimer, Nat.not_lt_of_le hsinceTickUs])
  · intro sinceTickUs hheldBy hlate
    refine exec_row rfl ((if_neg (by simp [hheldBy])).trans ?_)
    by_cases htimer : s.blk.pln.timer = true
    · rw [if_pos htimer] at hlate ⊢
      rw [if_pos hlate, if_pos htimer]
    · rw [if_neg htimer] at hlate ⊢
      rw [if_pos hlate, if_neg htimer]
  · intro dom hdom hstage hswap hheldBy
    exact exec_row_pos (by simp [hdom, hstage, hswap, hheldBy]) rfl
  · intro dom hdom hplay hlast hstage
    exact exec_row rfl ((if_pos hdom).trans (if_pos (by simp [hplay, hlast, hstage])))
  · intro dom hdom_le hstage hqueued
    exact exec_row_neg (by simp [Nat.not_lt_of_le hdom_le, hstage, hqueued]) rfl
  · intro slot g hheldBy hslot hgroups hdue hmissed hdeadline
    exact exec_row rfl (by simp [hheldBy, hslot, hgroups, hdue, hmissed, hdeadline])
  · intro lock w hfirstOut
    exact exec_row rfl (by simp [hfirstOut])
  · rfl
  · intro arb raised cycles engs done hheldBy harb
    refine exec_row rfl (if_neg (by simp [hheldBy]) |>.trans ?_)
    match arb, harb with
    | 0, _ => rfl
    | 1, _ => rfl
  · intro hheldBy
    exact exec_row rfl (by simp [hheldBy])

/-! ### Metering (07, 08) -/

/-- Settles O45: each clause is the branch of its row that its conditions decide; the timer’s row by the cycle’s
present source. -/
theorem meteringRows : Obligations.MeteringRows := by
  rintro s _ rfl
  refine ⟨?_, ?_, ?_, ?_, ?_, ?_, ?_, ?_, ?_, ?_, ?_, ?_, ?_, ?_⟩
  · intro xs rcs hheldBy hmetering
    exact exec_row rfl (by simp [hheldBy, hmetering])
  · intro point sinceCycNs sinceCrossNs oppMv hcycLive hdetArmed hpt hsinceCycNs
    exact exec_row rfl (by simp [hcycLive, hdetArmed, hpt, Nat.not_lt_of_le hsinceCycNs])
  · intro point sinceCycNs hlive hlate
    refine exec_row rfl ((if_neg (by simp [hlive])).trans ?_)
    by_cases htimer : (s.blk.pt point).cycTimer = true
    · rw [if_pos htimer] at hlate ⊢
      rw [if_pos hlate, if_pos htimer]
    · rw [if_neg htimer] at hlate ⊢
      rw [if_pos hlate, if_neg htimer]
  · intro point phase cycleNs hpointOk
    exact exec_row_pos hpointOk rfl
  · intro vin vhold hheldBy
    exact exec_row_neg hheldBy rfl
  · intro hheldBy
    exact exec_row_pos hheldBy rfl
  · intro hperiodNext
    exact exec_row_pos hperiodNext rfl
  · intro k hk_ge hk_le hpls
    exact exec_row rfl (by simp [hk_ge, hk_le, hpls])
  · intro point ch cause hpointOk
    exact exec_row rfl (by simp [hpointOk])
  · intro point ch cause hpointOk
    exact exec_row_pos hpointOk rfl
  · intro point xs x l hmetering hpointOk hpoint hfilter hcheckSuppressed
    exact exec_row rfl (by simp [hmetering, hpointOk, hpoint, hfilter, hcheckSuppressed])
  · intro source raw hheldBy hsourceFitted
    exact exec_row_neg (by simp [hheldBy, hsourceFitted]) rfl
  · intro source hheldBy hsourceFitted hlost hvalid
    exact exec_row rfl (by simp [hheldBy, hsourceFitted, hlost, hvalid])
  · intro source hheldBy hlost hvalid
    exact exec_row rfl (by simp [hheldBy, hlost, hvalid])

/-! ### Billing (09) -/

/-- Settles O46: each clause is the branch of its row that its conditions decide. -/
theorem billingRows : Obligations.BillingRows := by
  rintro s _ rfl
  refine ⟨?_, ?_, ?_, ?_, ?_, ?_, ?_, ?_⟩
  · intro code hcode
    exact exec_row_neg hcode rfl
  · intro hbilling
    exact exec_row_pos hbilling rfl
  · intro u hnextSeal hsigning hmaySeal
    exact exec_row rfl (by simp [hnextSeal, hsigning, hmaySeal])
  · intro hbilling hmode hshown
    exact exec_row rfl (by simp [hbilling, hmode, hshown])
  · intro hpp
    exact exec_row_pos hpp rfl
  · intro irmsDA hpp
    exact exec_row_pos hpp rfl
  · intro hheldBy
    exact exec_row_neg hheldBy rfl
  · intro since hbutton
    exact exec_row rfl (by simp only [hbutton, Bool.and_eq_true, decide_eq_true_eq, and_assoc])

/-! ### Pilot, proximity and sessions (10) -/

/-- Settles O47: each clause is the branch of its row that its conditions decide. -/
theorem outletRows : Obligations.OutletRows := by
  rintro s _ rfl
  refine ⟨?_, ?_, ?_, ?_, ?_, ?_, ?_, ?_⟩
  · intro outlet highMV lowMV houtletOk
    exact exec_row_pos houtletOk rfl
  · intro outlet lowMV houtletOk hgen hcp hcp' hdiode
    exact exec_row rfl (by simp [houtletOk, hgen, hcp, hcp', hdiode])
  · intro outlet res hheldBy houtlet hcoded
    refine exec_row rfl ((if_pos (by simp [hheldBy, houtlet])).trans ((if_neg (by simpa using hcoded)).trans ?_))
    simp only [beq_iff_eq]
  · intro outlet houtletOk
    exact exec_row_pos houtletOk rfl
  · intro outlet houtletOk
    exact exec_row_pos houtletOk rfl
  · intro outlet hheldBy houtletOk hol
    exact exec_row rfl (by simp [hheldBy, houtletOk, hol])
  · intro outlet hheldBy houtletOk hol
    exact exec_row rfl (by simp [hheldBy, houtletOk, hol])
  · intro outlet houtletOk hstoppable hst hproto
    exact exec_row rfl (by simp [houtletOk, hstoppable, hst, hproto])

/-! ### Vehicle messages (10) -/

/-- A request that reaches the chip is served unless it comes too late. -/
theorem v2gArrive_of_onChip {n : Nat} {loop : Bool} {serve : Block → Block} {b : Block} (hchip : onChip n b = true) :
    v2gArrive n loop serve b = if reqLate n loop b then connLost n b else serve b := by
  rw [v2gArrive, if_pos hchip]

/-- A request that finds Bylith down waits. -/
theorem v2gArrive_of_bylithDown {n : Nat} {loop : Bool} {serve : Block → Block} {b : Block} (hdown : bylithDown b = true)
    (hmatched : matched n b = true) (htunnel : (b.ses n).tunnel = false) (hpending : (b.ses n).pending = false) :
    v2gArrive n loop serve b = updSes n (fun e => { e with pending := true, reqAt := b.sys.mtime }) b := by
  have hchip : onChip n b = false := by simp [onChip, linked, hdown]
  simp only [v2gArrive, hchip, hdown, hmatched, htunnel, hpending]
  rfl

/-- Settles O48: a message that reaches the chip is served where it is not late; the other rows take the branch their
conditions decide. -/
theorem vehicleRows : Obligations.VehicleRows := by
  rintro s _ rfl
  refine ⟨?_, ?_, ?_, ?_, ?_, ?_, ?_, ?_, ?_, ?_, ?_, ?_, ?_, ?_⟩
  · intro outlet m houtletOk hses hol hbylithDown
    exact exec_row_pos (by simp [houtletOk, hses, hol, hbylithDown]) rfl
  · intro outlet houtlet hstoppable hwait hresult
    refine exec_row rfl ((if_pos (by simp [houtlet, hstoppable, hwait])).trans ?_)
    rcases hresult with hone | hfour | ⟨htwo, hsetup⟩
    · simp [hone]
    · simp [hfour]
    · simp [htwo, hsetup]
  · intro outlet houtletOk
    exact exec_row_pos houtletOk rfl
  · intro outlet tls houtletOk hlinked
    exact exec_row rfl (by simp [houtletOk, hlinked])
  · intro outlet version suites ok houtletOk honChip
    exact exec_row rfl (by simp [houtletOk, honChip])
  · intro outlet bytes m houtlet hchip
    exact exec_row rfl ((if_pos houtlet).trans (v2gArrive_of_onChip hchip))
  · intro outlet bytes m houtlet hdown hmatched htunnel hpending
    exact exec_row rfl ((if_pos houtlet).trans (v2gArrive_of_bylithDown hdown hmatched htunnel hpending))
  · intro outlet offers houtlet hchip
    exact exec_row rfl ((if_pos houtlet).trans (v2gArrive_of_onChip hchip))
  · intro outlet houtlet hchip hdc hproto hst
    have hsession : (outletOk outlet && s.blk.isDc outlet && decide ((s.blk.ses outlet).proto ≥ 2) &&
        ((s.blk.ses outlet).st == .authorised || (s.blk.ses outlet).st == .active)) = true := by
      simpa [houtlet, hdc, hproto] using hst
    exact exec_row rfl ((if_pos hsession).trans (v2gArrive_of_onChip hchip))
  · intro outlet houtlet hchip hproto
    refine exec_row rfl ((if_pos (by simp [houtlet, hproto])).trans ((v2gArrive_of_onChip hchip).trans ?_))
    simp only [Bool.not_eq_true']
  · intro outlet pause houtlet hchip hproto
    exact exec_row rfl ((if_pos (by simp [houtlet, hproto])).trans (v2gArrive_of_onChip hchip))
  · intro outlet update body houtlet hchip hproto
    have hasked : ((s.blk.ses outlet).proto == 3 || ((s.blk.ses outlet).proto == 4 && !update)) = true := by
      simpa using hproto
    exact exec_row rfl ((if_neg (by simp [houtlet])).trans ((if_pos hasked).trans (v2gArrive_of_onChip hchip)))
  · intro outlet houtletOk
    exact exec_row_pos houtletOk rfl
  · intro outlet data closed houtletOk hlinked hses
    exact exec_row rfl (by simp [houtletOk, hlinked, hses])

/-! ### Contactors and d.c. power (11) -/

/-- Settles O49: each clause is the branch of its row that its conditions decide. -/
theorem switchingRows : Obligations.SwitchingRows := by
  rintro s _ rfl
  refine ⟨?_, ?_, ?_, ?_, ?_, ?_, ?_, ?_, ?_, ?_, ?_, ?_, ?_, ?_⟩
  · intro hutil
    exact exec_row_neg hutil rfl
  · intro outlet irmsDA hsupervised
    exact exec_row_pos hsupervised rfl
  · intro driver active hheldBy
    exact exec_row_pos hheldBy rfl
  · intro driver hheldBy
    exact exec_row_pos hheldBy rfl
  · intro driver hheldBy hdriver hcoil
    exact exec_row_pos (by simp [hheldBy, hdriver, hcoil]) rfl
  · intro outlet hheldBy
    exact exec_row_pos hheldBy rfl
  · intro driver hdriverOk
    exact exec_row_pos hdriverOk rfl
  · intro outlet houtletOk
    exact exec_row_pos houtletOk rfl
  · intro outlet currentDA houtletOk hdrv
    exact exec_row rfl (by simp [houtletOk, hdrv])
  · intro outlet vaDV uoutDV houtletOk hao
    exact exec_row rfl (by simp [houtletOk, hao])
  · intro outlet vaDV uoutDV timedOut houtletOk hdcStep hpreOk
    exact exec_row rfl (by simp [houtletOk, hdcStep, hpreOk])
  · intro hcabinet
    exact exec_row_pos hcabinet rfl
  · intro hcabinet
    exact exec_row rfl (by simp [hcabinet])
  · intro driver t htest hdriver hphase
    exact exec_row rfl (by simp [htest, hdriver, hphase])

/-! ### Power-module links (11) -/

/-- Settles O50: each clause is the branch of its row that its conditions decide. -/
theorem powerModuleRows : Obligations.PowerModuleRows := by
  rintro s _ rfl
  refine ⟨?_, ?_, ?_, ?_, ?_, ?_⟩
  · intro hpfw hheldBy hanvilDown
    exact exec_row rfl (by simp [hpfw, hheldBy, hanvilDown])
  · intro link node data hcanOk hnode_ge hnode_le hcanOn
    exact exec_row rfl (by simp [hcanOk, hnode_ge, hnode_le, hcanOn])
  · rintro link node data _ hcanOk hnode_ge hnode_le hcanOn rfl
    exact exec_row_pos (by simp [hcanOk, hnode_ge, hnode_le, hcanOn]) rfl
  · intro link node hcanOk
    exact exec_row_pos hcanOk rfl
  · intro link hcanOk hcanOn hlink
    exact exec_row rfl (by simp [hcanOk, hcanOn, hlink])
  · intro link hcanOk
    exact exec_row_pos hcanOk rfl

/-! ### Residual current and insulation (12) -/

/-- Settles O51: each clause is the branch of its row that its conditions decide. -/
theorem residualCurrentRows : Obligations.ResidualCurrentRows := by
  rintro s _ rfl
  refine ⟨?_, ?_, ?_, ?_, ?_, ?_, ?_, ?_, ?_, ?_⟩
  · intro outlet cause hheldBy
    exact exec_row_pos hheldBy rfl
  · intro outlet hheldBy houtletOk hsvcOf hrc
    exact exec_row rfl (by simp [hheldBy, houtletOk, hsvcOf, hrc])
  · intro outlet houtletOk hrc
    exact exec_row rfl (by simp [houtletOk, hrc])
  · intro outlet offset plus minus ac asserted houtletOk hrc
    exact exec_row_pos (by simp [houtletOk, hrc]) rfl
  · intro outlet since houtletOk hretrySince
    exact exec_row rfl (by simp [houtletOk, hretrySince])
  · intro outlet risoOhm houtletOk hisDc hdrv hsvcOf hsvcOf'
    exact exec_row rfl (by simp [houtletOk, hisDc, hdrv, hsvcOf, hsvcOf'])
  · intro injector risoOhm ms q hinjector hinj
    exact exec_row rfl (by simp [hinjector, hinj])
  · intro outlet vaReached houtlet hstep hohm
    refine exec_row_pos ?_ rfl
    cases vaReached with
    | false => simp [houtlet, hstep]
    | true => simp [houtlet, hstep, hohm]
  · intro injector fault hheldBy hinjector hinj
    exact exec_row_pos (by simp [hheldBy, hinjector, hinj]) rfl
  · intro outlet r u v houtlet hrun
    exact exec_row rfl (by simp only [hrun, houtlet, if_true]; rfl)

/-! ### Safety inputs and functions (13) -/

/-- Settles O52: each clause is the branch of its row that its conditions decide, a fault by its kind. -/
theorem safetyRows : Obligations.SafetyRows := by
  rintro s _ rfl
  refine ⟨?_, ?_, ?_, ?_, ?_, ?_, ?_, ?_⟩
  · intro input chanB value hanvil hinput hused hpair hvddio
    have hsecond : (chanB && s.blk.inType input == 4) = false := by
      cases chanB with
      | false => rfl
      | true => simp [hpair]
    have hpowered : (value && !s.blk.pwr.vddioOk) = false := by
      cases value with
      | false => rfl
      | true => simp [hvddio]
    exact exec_row_neg (by simp only [hanvil, hinput, hsecond, hpowered]; simp [hused]) rfl
  · intro missedOwn foreign readback hanvilDown
    exact exec_row rfl (by simp [hanvilDown])
  · intro input hanvil hinput hdiffers
    have hdiff : inDiffers input s.blk = true := by
      rcases hdiffers with ⟨hone | hthree, hne⟩ | ⟨htwo, heq⟩
      · simp [inDiffers, hone, hne]
      · simp [inDiffers, hthree, hne]
      · simp [inDiffers, htwo, heq]
    exact exec_row rfl (by simp only [hinput, hdiff, hanvil, beq_iff_eq]; rfl)
  · intro input hanvil hinput hfault hrel hhealthy hvddio
    refine exec_row_pos ?_ rfl
    rcases hfault with hcause | hedm
    · simp [hinput, inFaulted, hcause, hrel, hhealthy, hvddio, hanvil]
    · simp only [hinput, hedm, hrel, hhealthy, hvddio, hanvil]
      simp
  · intro fn hanvilDown hsafOk hfn hfnHealthy
    exact exec_row rfl (by simp [hanvilDown, hsafOk, hfn, hfnHealthy])
  · intro input heldMs hanvilDown hsafOk hinType hany
    exact exec_row rfl (by simp [hanvilDown, hsafOk, hinType, hany])
  · rintro input _ hanvil rfl hinput hpair hhealthy
    exact exec_row_pos (by simp only [edmPair, hinput, bne_iff_ne.mpr hpair, hhealthy, hanvil]; simp) rfl
  · intro fn pairUs coilUs r hfn
    exact exec_row rfl (by simp [hfn])

/-! ### Tamper, debug, random numbers and grants (14) -/

/-- Settles O53: each clause is the branch of its row that its conditions decide. -/
theorem securityRows : Obligations.SecurityRows := by
  rintro s _ rfl
  refine ⟨?_, ?_, ?_, ?_, ?_, ?_, ?_, ?_, ?_, ?_, ?_, ?_, ?_⟩
  · intro k hwatched
    exact exec_row_pos hwatched rfl
  · intro k hwatched
    exact exec_row_pos hwatched rfl
  · intro hwatched
    exact exec_row_pos hwatched rfl
  · intro clock hwatched
    exact exec_row rfl (by simp [hwatched])
  · intro m fieldDmT hwatched
    exact exec_row_pos hwatched rfl
  · intro blocked hdbgState hheldBy
    exact exec_row rfl (by simp [hdbgState, hheldBy])
  · intro core hcore
    exact exec_row_pos hcore rfl
  · intro core hcore
    exact exec_row_pos hcore rfl
  · intro hcrucRuns
    exact exec_row_pos hcrucRuns rfl
  · intro kind hcrucRuns
    exact exec_row_pos hcrucRuns rfl
  · intro pass hcrucRuns hdrbgOk
    exact exec_row rfl (by simp [hcrucRuns, hdrbgOk])
  · intro g hgrant hexpiry
    exact exec_row rfl (by simp [hgrant, hexpiry])
  · rintro port _ _ certChain hport rfl rfl hserved hcrucible hdrbg hconn hclosed hslot hchain
    have hport' : (port == 1 || port == 2) = true := by simpa using hport
    have haccepts : ethTlsAccepts port true true certChain s.blk = clientOk certChain s.blk := by
      simp only [ethTlsAccepts, hport', hserved, hcrucible, hdrbg, hconn, hclosed]
      rfl
    have hchained : (lookupN 19 s.blk.cru.chains).isNone = false := by simpa [Option.isSome_iff_ne_none] using hchain
    refine exec_row rfl ?_
    simp only [haccepts, hslot, hchained]
    cases clientOk certChain s.blk <;> rfl

/-! ### The card reader and the tag over RF (15) -/

/-- A command over RF that the tag serves, on the block with its write finished and its frame counted. -/
theorem tagCmd_of_served {f : List Host.Cell → Block → Block} {m : List Host.Cell} {b : Block} (hst : b.tag.st = 3)
    (hrats : b.tag.rats = true) : tagCmd f m b = f (applyWrites (tagServed b).tag.out m) (tagServed b) := by
  have hout : (tagServed b).tag.out = (rfFinish b).tag.out := by
    rw [tagServed]
    split <;> rfl
  rw [hout, tagCmd, if_neg (by simp [hst, hrats])]
  rfl

/-- A frame whose check holds, or that no session asks for. -/
theorem inSession_of_ok {ccmOk : Bool} {f : Block → Block} {b : Block} (hccm : b.tag.session = true → ccmOk = true) :
    inSession ccmOk f b = f b :=
  if_neg (by simpa using hccm)

/-- A change of the lock bits in a session. -/
theorem tagLocks_of_session {first count : Nat} {on : Bool} {b : Block} (hsome : 1 ≤ count) (hend : first + count ≤ 256)
    (hlow : 128 ≤ first) (hsession : b.tag.session = true) :
    tagLocks first count on b =
      tagRaise 217 (b2n on * 65536 + first * 256 + count) (tagSay [] 0x9000 (updTag (fun t => { t with
        locks := (upto (first - 128) (first - 129 + count)).foldl (fun l j => putBit l j on) b.tag.locks }) b)) := by
  rw [tagLocks, if_neg (by simp [Nat.one_le_iff_ne_zero.mp hsome, hend]), if_neg (by simp [hlow, hsession])]

/-- Settles O54: a tag command is its body on the served block; the other rows take the branch their conditions decide. -/
theorem contactlessRows : Obligations.ContactlessRows := by
  rintro s _ rfl
  refine ⟨?_, ?_, ?_, ?_, ?_, ?_, ?_, ?_, ?_, ?_, ?_, ?_, ?_, ?_, ?_, ?_, ?_, ?_, ?_, ?_, ?_⟩
  · intro ant icoilMA found hpolled hfault
    refine exec_row rfl ((if_neg (by simp [hpolled, hfault])).trans ?_)
    rw [← ite_not]
    simp only [Bool.or_eq_true, bne_iff_ne, beq_iff_eq, not_or, Decidable.not_not]
  · intro uid d hfind hany
    exact exec_row rfl (by simp [hfind, hany])
  · intro ant icoilMA hpolled hant
    exact exec_row rfl (by simp [hpolled, hant])
  · intro x hhold
    exact exec_row rfl (by simp [hhold])
  · intro icoilMA t htest
    exact exec_row rfl (by simp [htest])
  · intro vhMV hfield
    exact exec_row_neg hfield rfl
  · intro hfield
    exact exec_row_neg (by simp [hfield]) rfl
  · intro wupa hst
    refine exec_row rfl ?_
    rcases hst with hidle | hready | ⟨hhalted, hwake⟩
    · simp only [hidle, if_true]
    · simp only [hready]
      rfl
    · simp only [hhalted, hwake, if_true]
      rfl
  · intro uid hst
    exact exec_row rfl (by simp [hst])
  · intro deselect hst hdeselect
    exact exec_row rfl (by simp [hst, hdeselect])
  · intro hst
    exact exec_row_pos hst rfl
  · intro hst
    exact exec_row_pos hst rfl
  · rintro _ hst hrats rfl
    exact exec_row rfl (tagCmd_of_served hst hrats)
  · rintro toolId rndT _ key hst hrats rfl hkey hmin hopen
    refine exec_row rfl ((tagCmd_of_served hst hrats).trans ?_)
    simp only [tagAuth1, hkey, Nat.not_lt_of_le hmin, hopen]
    rfl
  · rintro macT _ tool key hst hrats rfl hauth hkey
    exact exec_row rfl ((tagCmd_of_served hst hrats).trans (by simp only [tagAuth2, hauth, hkey]))
  · intro hblocked
    exact exec_row_pos hblocked rfl
  · rintro block ccmOk _ hst hrats rfl hblock haccess hccm hgood
    refine exec_row rfl ((tagCmd_of_served hst hrats).trans ((inSession_of_ok hccm).trans ?_))
    have hallowed : (rfAccess block == 0 || (rfAccess block == 2 && !(tagServed s.blk).tag.session)) = false := by
      rcases haccess with hfree | ⟨hheld, hsession⟩
      · simp [hfree]
      · simp [hheld, hsession]
    simp only [tagRead, Nat.not_le_of_lt hblock, hallowed, hgood, if_false]
    rfl
  · rintro block cc data _ step _ hst hrats rfl hlow hhigh hsession rfl hcc
    refine exec_row rfl ((tagCmd_of_served hst hrats).trans ((inSession_of_ok fun _ => rfl).trans ?_))
    have hblock : ¬ 256 ≤ block := by omega
    rw [tagWrite, if_neg hblock, if_neg (by simp [hlow, hhigh, hsession]), if_pos hcc]
    simp only [beq_iff_eq]
  · rintro first count _ _ hst hrats rfl hsome hend hlow hsession rfl
    exact exec_row rfl ((tagCmd_of_served hst hrats).trans ((inSession_of_ok fun _ => rfl).trans
      (tagLocks_of_session hsome hend hlow hsession)))
  · rintro first count _ _ hst hrats rfl hsome hend hlow hsession rfl
    exact exec_row rfl ((tagCmd_of_served hst hrats).trans ((inSession_of_ok fun _ => rfl).trans
      (tagLocks_of_session hsome hend hlow hsession)))
  · intro pass hport hkey hcrucible hslot
    have hkeyed : s.blk.tag.key.isNone = false := by simpa [Option.isSome_iff_ne_none] using hkey
    refine exec_row rfl ((if_neg (by simp [hport, hkeyed, hcrucible, hslot])).trans ?_)
    cases pass <;> rfl

/-! ### The mains link (16) -/

/-- A frame that is heard, neither erased nor wrong in its check: the outcome of its type, and its acknowledgement. -/
theorem oneFrame_of_heard {is : List Byte → Bool} {f : RxFrame} {sinceMs : Nat} {b : Block} (hhears : mlkHears b = true)
    (htype : is f.raw = true) (hcrc : verdict true f b ≠ .crc) (herased : verdict true f b ≠ .erased) :
    oneFrame is f sinceMs b =
      let b1 := frOutcome 0 sinceMs f (verdict true f b) b
      if acked (verdict true f b) f b then sendAck (frSrc f.raw) [frFcnt f.raw] b1 else b1 :=
  if_neg (by simp [hhears, htype, hcrc, herased])

/-- A row that reports one frame. -/
theorem exec_of_heard {i : Instr} {is : List Byte → Bool} {f : RxFrame} {sinceMs : Nat} {s : State}
    (hi : exec i s = became s (oneFrame is f sinceMs s.blk)) (hhears : mlkHears s.blk = true) (htype : is f.raw = true)
    (hcrc : verdict true f s.blk ≠ .crc) (herased : verdict true f s.blk ≠ .erased) :
    exec i s =
      let b1 := frOutcome 0 sinceMs f (verdict true f s.blk) s.blk
      became s (if acked (verdict true f s.blk) f s.blk then sendAck (frSrc f.raw) [frFcnt f.raw] b1 else b1) :=
  exec_row hi (oneFrame_of_heard hhears htype hcrc herased)

/-- Settles O55: a frame that is heard has the outcome of its type; the other rows take the branch their conditions
decide. -/
theorem mainsLinkRows : Obligations.MainsLinkRows := by
  rintro s _ rfl
  refine ⟨fun _ => exec_of_heard rfl, fun _ => exec_of_heard rfl, fun _ _ => exec_of_heard rfl,
    fun _ => exec_of_heard rfl, fun _ => exec_of_heard rfl, fun _ => exec_of_heard rfl, fun _ => exec_of_heard rfl,
    fun _ => exec_of_heard rfl, fun _ => exec_of_heard rfl, fun _ => exec_of_heard rfl, fun _ => exec_of_heard rfl,
    fun _ => exec_of_heard rfl, fun _ => exec_of_heard rfl, ?_, ?_, ?_, ?_, ?_, ?_, ?_, ?_, ?_, ?_⟩
  · intro w timer hst
    exact exec_row rfl (by simp [hst])
  · intro x hhears hfull
    refine exec_row rfl ((if_pos (by simp [hhears, hfull])).trans ?_)
    rfl
  · intro hst htest htxq hwait
    exact exec_row rfl (by simp [hst, htest, htxq, hwait])
  · intro hst
    exact exec_row rfl (by simp [hst])
  · intro hst hlock hm8
    exact exec_row rfl (by simp [hst, hlock, hm8])
  · intro fcnt f hfind hroom
    refine exec_row rfl ?_
    simp only [hfind]
    by_cases hlast : f.tries ≥ s.blk.m8 32
    · simp only [hlast, if_true]
    · simp only [hlast, Nat.not_le_of_lt (hroom (Nat.lt_of_not_le hlast)), if_false]
  · intro hst
    exact exec_row_neg hst rfl
  · intro coupling pass hcoupling_ge hcoupling_le hst hcps
    exact exec_row rfl (by simp [hcoupling_ge, hcoupling_le, hst, hcps])
  · intro coupling hcoupling
    exact exec_row_pos hcoupling rfl
  · intro itxMA t htest
    exact exec_row rfl (by simp [htest])

/-! ### The matrix and the badge display (17) -/

/-- Settles O56: each clause is the branch of its row that its conditions decide. -/
theorem displayRows : Obligations.DisplayRows := by
  rintro s _ rfl
  refine ⟨?_, ?_, ?_, ?_, ?_⟩
  · intro o hheldBy
    exact exec_row_neg hheldBy rfl
  · intro faultyOpen faultyShort faultyRows hmstate hdisCause
    exact exec_row rfl (by simp [hmstate, hdisCause])
  · intro pageMs hisSome
    exact exec_row_pos hisSome rfl
  · intro driveMA hbsdRuns hseg
    exact exec_row rfl (by simp [hbsdRuns, Nat.not_lt_of_le hseg])
  · intro openCols shortCols rows t htest
    exact exec_row rfl (by simp [htest])

/-! ### The load switches (18) -/

/-- Settles O57: each clause is the branch of its row that its conditions decide. -/
theorem loadSwitchRows : Obligations.LoadSwitchRows := by
  rintro s _ rfl
  refine ⟨?_, ?_, ?_, ?_, ?_, ?_, ?_, ?_, ?_, ?_⟩
  · intro ch peakDA hlsOk
    exact exec_row_pos hlsOk rfl
  · intro ch peakDA hlsOk hls
    exact exec_row rfl (by simp [hlsOk])
  · intro ch peakDA tjDC hheldBy
    exact exec_row_pos hheldBy rfl
  · intro ch tjDC hlsOk
    exact exec_row_pos hlsOk rfl
  · intro ch hlsOk
    exact exec_row_pos hlsOk rfl
  · intro ch hlsOk
    exact exec_row_pos hlsOk rfl
  · intro ch hlsOk
    exact exec_row_pos hlsOk rfl
  · intro ch pass hlsOk hls hlsEn
    exact exec_row_neg (by simp [hlsOk, hls, hlsEn]) rfl
  · intro ch cause found hch hlow hhigh hfound
    refine exec_row rfl ((if_neg (by simp [hch, hlow, hhigh])).trans ?_)
    cases found with
    | true =>
      obtain ⟨hlive, hclear⟩ := hfound
      simp [hlive, hclear]
    | false => exact if_pos hfound
  · intro ch peakMA t htest hch hop
    exact exec_row rfl (by simp [htest, hch, hop])

/-! ### The update engine (19) -/

/-- Settles O58: each clause is the branch of its row that its conditions decide. -/
theorem updateRows : Obligations.UpdateRows := by
  rintro s _ rfl
  refine ⟨?_, ?_, ?_, ?_, ?_, ?_, ?_, ?_, ?_⟩
  · intro hst
    exact exec_row_neg hst rfl
  · intro hst
    exact exec_row_pos hst rfl
  · intro hst hupdRuns hinMode htrans hupdDue hmtime
    exact exec_row rfl (by simp [hst, hupdRuns, hinMode, htrans, hupdDue, hmtime])
  · intro hst
    exact exec_row_pos hst rfl
  · intro x hmode hact
    refine exec_row rfl ((if_neg (by simp [hmode])).trans ?_)
    have hstopped : ((s.blk.pwr.larkspurDown && decide (x + 7000 < s.blk.sys.mtime)) = true) =
        (s.blk.pwr.larkspurDown = true ∧ x + 7000 < s.blk.sys.mtime) := by simp
    rw [hact]
    exact ite_congr hstopped (fun _ => rfl) (fun _ => rfl)
  · intro code part x hact
    exact exec_row rfl (by simp [hact])
  · intro hst hact houtletsOpen hheldBy hmode
    exact exec_row rfl (by simp [hst, hact, houtletsOpen, hheldBy, hmode])
  · intro outlet houtletOk
    exact exec_row rfl (by simp [houtletOk])
  · intro outlet failed houtletOk
    exact exec_row_pos houtletOk rfl

/-! ### Ethernet, Modbus and the bridges (20) -/

/-- Settles O59: each clause is the branch of its row that its conditions decide. -/
theorem linkRows : Obligations.LinkRows := by
  rintro s _ rfl
  refine ⟨?_, ?_, ?_, ?_, ?_, ?_, ?_, ?_, ?_, ?_, ?_⟩
  · intro hheldBy
    exact exec_row_pos hheldBy rfl
  · intro port up direct hport
    exact exec_row rfl (by simp [hport])
  · intro port dst src frame hforwards
    exact exec_row_pos hforwards rfl
  · intro mac x hfind
    exact exec_row rfl (by simp only [hfind])
  · intro port client tcpPort hport hoffered
    have hport' : (port == 1 || port == 2) = true := by simpa using hport
    exact exec_row_neg (by simp [hport', hoffered]) rfl
  · intro conn c hfind
    exact exec_row rfl (by simp only [connGone, hfind, beq_iff_eq])
  · intro conn tid unit pdu htcpOffered hany
    exact exec_row_neg (by simp [htcpOffered, hany]) rfl
  · intro link unit pdu crcOk r hlink_ge hlink_le hser hcrcOk hunit hpdu
    exact exec_row rfl (by simp [hlink_ge, hlink_le, hser, hcrcOk, hunit, hpdu])
  · intro link r hlink_ge hlink_le hser
    exact exec_row rfl (by simp [hlink_ge, hlink_le, hser])
  · intro uart data hisBridge
    exact exec_row_pos hisBridge rfl
  · intro uart data c hisBridge hbridgeConn
    exact exec_row rfl (by simp [hisBridge, hbridgeConn])

/-! ### A waiting command starts (05) -/

/-- The first ready entry starts where none resumes (R130). -/
theorem commandStart_of_ready {m : List Host.Cell} {mb : Nat} {e : Entry} {b : Block} (hmay : mayStart b = true)
    (hresume : (b.box mb).entries.find? (fun e => e.phase == .resume && e.final.isNone) = none)
    (hready : nextReady (b.box mb).entries false = some e) : commandStart m mb b = startEntry m mb e b := by
  rw [commandStart, if_neg (by simp [hmay]), hresume]
  simp only [hready]

/-- Settles O60: no entry resumes, so the first ready one starts. (The model’s own name `commandStart` is taken.) -/
theorem commandStartRow : Obligations.CommandStart := by
  rintro s _ rfl mb e hmay hresume hready
  have hstart := commandStart_of_ready (m := s.tagMem) hmay hresume hready
  exact congrArg (fun b => became s (softCheck (refreshMasks (boundary 0 0 (drainSes b))))) hstart

end Sys2Proof.Machine
